-- ==== Sys2Proof/Word.lean ====
section
/-! DEFINITION. The widths of the Sorlet 3140's bus fields (Chapter 11) and their plainest arithmetic. -/

namespace Sys2Proof

/-- The smallest addressable unit of the Common Area (R172). -/
abbrev Byte := BitVec 8

/-- A 16-bit field: notice counts, seen counts, fill counts, release counts (section 0.4). -/
abbrev Half := BitVec 16

/-- A 32-bit field: registers, editions, stamps, sector numbers (section 0.4). -/
abbrev Word := BitVec 32

end Sys2Proof
end

