-- ==== Sys2Proof/Syntax.lean ====
section
/-! DEFINITION. The commands of the Sorlet 3140: one constructor of `Instr` per row of
spec/opcode_table.json, each with the operands that the spec's rules give the step. -/

namespace Sys2Proof

/-- The nine request records, in the order of Table 1-3. -/
inductive RecordId
  | settings | zoom | focus | exposure | capture | space | spare | cardOrder | service
  deriving DecidableEq, Repr

/-- One transition of the two-phase zoom encoder (section 4.1): one phase changed in the tele or in the
wide order, or both phases changed together. -/
inductive EncoderStep
  | tele | wide | illegal
  deriving DecidableEq, Repr

/-- The level of the zoom reference sensor and of the focus home sensor (sections 4.1 and 5.6). -/
inductive SensorLevel
  | out | inside
  deriving DecidableEq, Repr

/-- The three blocks of the Lens Table, in their order in the image (Tables 3-1 and 3-2). -/
inductive TableBlock
  | zp | tr0 | tr1
  deriving DecidableEq, Repr

/-- A bit upset in a word of the internal Lens Table copy: what the ECC of R45 finds when the word is
next read. `isDouble` is a two-bit error, otherwise a one-bit error. -/
structure Upset where
  block : TableBlock
  word : Nat
  isDouble : Bool
  deriving DecidableEq, Repr

/-- What the end of a frame-valid period brings: the lines received, and whether the last DMA write of a capture frame has
been acknowledged (R28). -/
structure ReceivedFrame where
  lines : List (List (BitVec 12))
  written : Bool
  deriving DecidableEq, Repr

/-- The two bytes of a rate in a gyro read, in the order read (R126). -/
structure RateBytes where
  low : Byte
  high : Byte
  deriving DecidableEq, Repr

/-- The two shutter button lines (Table 0-2). -/
inductive Button
  | s1 | s2
  deriving DecidableEq, Repr

/-- The card's answer to a written block (section 10.7). -/
inductive StatusToken
  | accepted | crcRejected | writeRejected
  deriving DecidableEq, Repr

/-- The two registers whose writes are ignored (R4). -/
inductive ReadOnlyRegister
  | partStatus | partIdent
  deriving DecidableEq, Repr

/-- The commands. A request row carries the edition of the record that is read and the fields of its
body (Tables 11-5 and 11-6); a timer row is the expiry of its timer; a row that completes a bus or link
transaction carries what the transaction brought, a read of memory its bytes in the order of their addresses. Times are in microseconds. -/
inductive Instr
  | powerOnReset
  | softReset
  | areaBaseWrite (value : Word)
  | runWrite (run : Bool)
  | nudge (run : Bool)
  | registerWriteIgnored (register : ReadOnlyRegister) (value : Word)
  | startHeaderRead (layout : List Byte) (seen : List Byte)
  | areaBusError
  | startStepEnd
  | stopSequenceEnd
  | idleScanTimer
  | scanRecordRead (leading : List Byte) (body : List Byte) (trailing : List Byte)
  | releaseCountRead (counts : List Byte)
  | seenCountRead (counts : List Byte)
  | answerRecordWrite
  | answerBusError
  | settings (edition : Word) (body : List Byte)
  | rehomeLens (edition : Word)
  | park (edition : Word)
  | unpark (edition : Word)
  | clearCounters (edition : Word)
  | clearFlags (edition : Word)
  | restartStabilizer (edition : Word)
  | restartCard (edition : Word)
  | configWriteDone (acknowledged : Bool)
  | sensorReconfigure
  | stallTimeout
  | frameStart (time : Nat) (upsets : List Upset)
  | frameEnd (frame : ReceivedFrame)
  | frameTruncated
  | truncationTimeout
  | sensorWriteDone
  | sensorWriteNotAcknowledged
  | dmaBusError
  | dmaAbandonReport
  | flkEdge (time : Nat)
  | flickerTimeout
  | tableBlockRead (block : List Byte)
  | tableLoadBusError
  | tablesPlace
  | refetchBegin
  | refetchRead (block : List Byte)
  | refetchBusError
  | encoderTransition (transition : EncoderStep)
  | referenceEdge (level : SensorLevel)
  | zoomBrakeTimer
  | zoomSettleTimer
  | zoomStallTimer
  | homingTimer
  | driftTimer
  | zoomGoto (edition : Word) (position : Word)
  | zoomGotoZone (edition : Word) (zone : Word)
  | zoomRun (edition : Word) (direction : Word)
  | zoomStop (edition : Word)
  | focusPulse (time : Nat)
  | reversalDwellEnd
  | homeSensorChange (level : SensorLevel)
  | homePulseLimit
  | setDistance (edition : Word) (distance : Half)
  | resumeTracking (edition : Word)
  | search (edition : Word)
  | continuousOn (edition : Word)
  | exposureAuto (edition : Word) (compensation : Half)
  | exposureLock (edition : Word)
  | exposureManual (edition : Word) (xt : Half) (xg : Half) (xa : Half)
  | exposureRecordTimer
  | gyroConfigWriteDone
  | gyroDataReady
  | gyroSample (rateX : RateBytes) (rateY : RateBytes)
  | gyroLost
  | gyroStopWriteDone
  | learnTimer
  | rampTimer
  | stabilizerRecordTimer
  | buttonLineChange (line : Button) (pressed : Bool)
  | qualificationTimer (line : Button)
  | capturePrepare (edition : Word)
  | startBurst (edition : Word) (count : Byte)
  | captureStop (edition : Word)
  | focusWaitTimer
  | space (edition : Word) (start : Word) (count : Word)
  | spare (edition : Word) (start : Word) (count : Word)
  | cardOrder (edition : Word) (kind : Byte) (count : Half) (sector : Word) (address : Word)
  | cardDetChange (present : Bool)
  | cardDetTimer
  | cardResponse (capacity : Word)
  | cardStatusToken (token : StatusToken)
  | cardBusyEnd
  | cardReadBlock (crcOk : Bool) (data : List Byte)
  | cardResponseTimeout
  | cardBusyTimeout
  | cardMemoryBusError
  | streamOffWriteDone (acknowledged : Bool)
  deriving DecidableEq, Repr

end Sys2Proof
end

