-- ==== Sys2Proof/Config.lean ====
section
/-! DEFINITION. What the part fixes for good (its identity, its fixed time limits and levels) and the free
values that the spec leaves open. -/

namespace Sys2Proof.Config

/-- The contents of a slot buffer after a DMA that ended early are undefined up to the frame bytes (R37):
one free byte per index, with nothing known about it (log entry 5). -/
opaque freeByte : Nat → Byte

/-- Family code of PART_IDENT (R4). -/
def familyCode : Nat := 0x3140

/-- Revision number of PART_IDENT (R4). -/
def revision : Nat := 1

/-- The only layout version that a start accepts (R5). -/
def layoutVersion : Word := 1

/-- The clip level of the metering (section 7.1). -/
def clipLevel : Nat := 4032

/-- The clip cap of the metering (section 7.1). -/
def clipCap : Nat := 32

/-- Counts that a stall reversal drives, and that the counter must pass to clear the retries (R61). -/
def reversalCounts : Int := 40

/-- Largest saturated error counter value (section 0.4). -/
def counterMax : Nat := 65535

/-- Ends of the range of the angle θ (R131). -/
def angleLimit : Int := 1073741824

/-- Saturation of the residual and of its squared error (R135). -/
def residualMax : Int := 16777215

/-- Pulses beyond F_MAX that a homing step may issue (R79). -/
def homePulseMargin : Nat := 512

/-- Sectors of the longest run (R163). -/
def runSectors : Nat := 64

/-- Extents of one picture (section 10.5). -/
def maxExtents : Nat := 4

/-- Samples of one search record (R91). -/
def maxSamples : Nat := 64

end Sys2Proof.Config
end

