-- ==== Sys2Proof/WellFormed.lean ====
section
/-! DEFINITION. Which operands a command can carry: the lengths that Chapter 11 gives the tables and
bodies which the 3140 reads. `exec` gives every command a meaning, well formed or not; what a list does not
hold reads as 0. -/

namespace Sys2Proof

/-- The number of body bytes of each request record (Tables 11-4 and 11-5). -/
def RecordId.bodyLength : RecordId → Nat
  | .settings => 768
  | .zoom => 8
  | .focus => 4
  | .exposure => 12
  | .capture => 4
  | .space => 8
  | .spare => 8
  | .cardOrder => 12
  | .service => 4

/-- The number of words of each Lens Table block (Table 11-11). -/
def TableBlock.words : TableBlock → Nat
  | .zp => 165
  | .tr0 => 139
  | .tr1 => 131

/-- A record read brings the body of some request record. -/
def isRecordBody (n : Nat) : Bool :=
  n == 768 || n == 8 || n == 4 || n == 12

/-- A block read brings the bytes of some Lens Table block, four for each of its words. -/
def isBlockLength (n : Nat) : Bool :=
  n == 660 || n == 556 || n == 524

/-- An upset names a word of its block. -/
def Upset.wellFormed (u : Upset) : Bool :=
  u.word < u.block.words

/-- The operand checks. A request row names a request, so its edition is not 0 (R7). -/
def Instr.wellFormed : Instr → Bool
  | .powerOnReset => true
  | .softReset => true
  | .areaBaseWrite _ => true
  | .runWrite _ => true
  | .nudge _ => true
  | .registerWriteIgnored _ _ => true
  | .startHeaderRead layout seen => layout.length == 4 && seen.length == 20
  | .areaBusError => true
  | .startStepEnd => true
  | .stopSequenceEnd => true
  | .idleScanTimer => true
  | .scanRecordRead leading body trailing =>
    leading.length == 4 && isRecordBody body.length && trailing.length == 4
  | .releaseCountRead counts => counts.length == 32
  | .seenCountRead counts => counts.length == 20
  | .answerRecordWrite => true
  | .answerBusError => true
  | .settings ed body => ed != 0 && body.length == 768
  | .rehomeLens ed => ed != 0
  | .park ed => ed != 0
  | .unpark ed => ed != 0
  | .clearCounters ed => ed != 0
  | .clearFlags ed => ed != 0
  | .restartStabilizer ed => ed != 0
  | .restartCard ed => ed != 0
  | .configWriteDone _ => true
  | .sensorReconfigure => true
  | .stallTimeout => true
  | .frameStart _ upsets => upsets.all Upset.wellFormed
  | .frameEnd f => 64 ≤ f.lines.length && f.lines.all (fun l => 64 ≤ l.length)
  | .frameTruncated => true
  | .truncationTimeout => true
  | .sensorWriteDone => true
  | .sensorWriteNotAcknowledged => true
  | .dmaBusError => true
  | .dmaAbandonReport => true
  | .flkEdge _ => true
  | .flickerTimeout => true
  | .tableBlockRead block => isBlockLength block.length
  | .tableLoadBusError => true
  | .tablesPlace => true
  | .refetchBegin => true
  | .refetchRead block => isBlockLength block.length
  | .refetchBusError => true
  | .encoderTransition _ => true
  | .referenceEdge _ => true
  | .zoomBrakeTimer => true
  | .zoomSettleTimer => true
  | .zoomStallTimer => true
  | .homingTimer => true
  | .driftTimer => true
  | .zoomGoto ed _ => ed != 0
  | .zoomGotoZone ed _ => ed != 0
  | .zoomRun ed _ => ed != 0
  | .zoomStop ed => ed != 0
  | .focusPulse _ => true
  | .reversalDwellEnd => true
  | .homeSensorChange _ => true
  | .homePulseLimit => true
  | .setDistance ed _ => ed != 0
  | .resumeTracking ed => ed != 0
  | .search ed => ed != 0
  | .continuousOn ed => ed != 0
  | .exposureAuto ed _ => ed != 0
  | .exposureLock ed => ed != 0
  | .exposureManual ed _ _ _ => ed != 0
  | .exposureRecordTimer => true
  | .gyroConfigWriteDone => true
  | .gyroDataReady => true
  | .gyroSample _ _ => true
  | .gyroLost => true
  | .gyroStopWriteDone => true
  | .learnTimer => true
  | .rampTimer => true
  | .stabilizerRecordTimer => true
  | .buttonLineChange _ _ => true
  | .qualificationTimer _ => true
  | .capturePrepare ed => ed != 0
  | .startBurst ed _ => ed != 0
  | .captureStop ed => ed != 0
  | .focusWaitTimer => true
  | .space ed _ _ => ed != 0
  | .spare ed _ _ => ed != 0
  | .cardOrder ed _ _ _ _ => ed != 0
  | .cardDetChange _ => true
  | .cardDetTimer => true
  | .cardResponse _ => true
  | .cardStatusToken _ => true
  | .cardBusyEnd => true
  | .cardReadBlock _ data => data.length == 512
  | .cardResponseTimeout => true
  | .cardBusyTimeout => true
  | .cardMemoryBusError => true
  | .streamOffWriteDone _ => true

end Sys2Proof
end

