-- ==== Sys2Proof/Machine/State.lean ====
section
/-! DEFINITION. The state of the Sorlet 3140: every register, record, counter, queue, mode and pin that the
spec names, as plain data. A field's default is its value after power-on reset, so `{}` is the reset value of a
structure; the chapters' reset tables give it unless a comment names a log entry (notes/assumptions/). -/

namespace Sys2Proof.Machine

/-! ### Faults and refusals -/

/-- Reasons a step can stop. The spec gives every command an effect and no fault of Chapters 1 to 10 stops the
part: they are states, outcomes and notice counts. So there is no reason here, and no command faults. -/
inductive Fault
  deriving DecidableEq, Repr

/-- Reasons a command has no meaning. -/
inductive Refusal
  /-- Raised by `exec` alone, for a command that the model does not give a meaning yet; safe, since nothing
  is claimed about what the hardware does then. No arm of `exec` is left so. -/
  | notModelled (mnemonic : String)
  deriving DecidableEq, Repr

/-! ### Enumerations, in the code order of Table 11-1 -/

inductive PartState
  | halted | starting | running | stopping
  deriving DecidableEq, Repr

inductive FaultCode
  | none | badLayout | areaBusError | answerBusError
  deriving DecidableEq, Repr

/-- The outcome of a request (R9). -/
inductive ReqOutcome
  | pending | active | done | refused | abandoned | failed
  deriving DecidableEq, Repr

/-- The detail codes, in the order of Table 11-2. -/
inductive Detail
  | none | heldPrevious | heldStarting | heldGeometry | heldLensBusy | heldRemap | heldTables
  | heldZoomBusy | heldBurst | heldCardInit | stopped | slotTooSmall | unknownKind | tableInvalid
  | noTables | offTarget | zoomLost | zoomFault | zoomParked | cutByCapture | serviceTakeover | stall
  | homingTimeout | lostInHoming | lensTableFault | notMoved | focusFault | homeNotFound
  | notFound | focusNotHomed | lensService | burstActive | zoomRequest | zoomMoved | s1Released
  | s1Takeover | tablesReplaced | settingsChanged | searchHold | gyroLost | notInFault | noStream
  | dmaBusError | truncated | remainderDropped | noCard | cardFault | writeRejected
  | memoryBusError | extentsExceeded | spareExhausted | slotBusError | initFailed | runFailed
  deriving DecidableEq, Repr

/-- The ten notice classes, in counter bit order. -/
inductive NoticeClass
  | settings | zoom | focus | exposure | stabilizer | capture | store | cardOrder | fault | wear
  deriving DecidableEq, Repr

/-- The six error counters, in counter order (R170). -/
inductive CounterId
  | zoomStall | focusSlip | tableCorrected | tableRefetch | cardRetry | cardRemap
  deriving DecidableEq, Repr

/-- The answer records, in the cyclic order of Table 1-5. -/
inductive AnswerId
  | partState | ack | lens | exposure | focus | stabilizer | capture | store | counters
  | slot (n : Nat)
  | notice
  deriving DecidableEq, Repr

inductive TableState
  | empty | valid | fault
  deriving DecidableEq, Repr

inductive BlockState
  | valid | invalid | refetching
  deriving DecidableEq, Repr

inductive LoadResult
  | none | passed | wrongTag | wrongEdition | sumMismatch | fMaxRange | zoomPoints | lensData
  | summaryMismatch | trackingOrder | trackingRange | busError
  deriving DecidableEq, Repr

inductive ZoomState
  | lost | homing | idle | moving | held | parking | parked | unparking | fault
  deriving DecidableEq, Repr

inductive ZoomPhase
  | none | fast | slow | braking | settling | correcting
  deriving DecidableEq, Repr

inductive ZoomDir
  | tele | wide
  deriving DecidableEq, Repr

inductive FocusState
  | lost | homing | idle | moving | dwell | fault
  deriving DecidableEq, Repr

inductive FocusPhase
  | none | driving | suspended
  deriving DecidableEq, Repr

inductive FocusDir
  | near | far
  deriving DecidableEq, Repr

inductive FocusMode
  | tracking | manual | search | continuous
  deriving DecidableEq, Repr

inductive FocusResult
  | none | confirmed | notFound
  deriving DecidableEq, Repr

inductive SearchPhase
  | none | searchWait | coarse | choose | fine | finish
  deriving DecidableEq, Repr

inductive SearchOrigin
  | request | s1
  deriving DecidableEq, Repr

inductive ExposureMode
  | auto | lock | manual
  deriving DecidableEq, Repr

/-- The metering states of R108. -/
inductive MeterState
  | converging | settled | limited
  deriving DecidableEq, Repr

/-- The exposure states reported to the host (R108). -/
inductive ExposureState
  | converging | settled | limited | locked | manual | searchHold
  deriving DecidableEq, Repr

inductive LimitFlag
  | none | brightLimit | darkLimit
  deriving DecidableEq, Repr

inductive FlickerClass
  | none | f100 | f120
  deriving DecidableEq, Repr

inductive StreamState
  | stopped | configuring | streaming | stalled | fault
  deriving DecidableEq, Repr

inductive StabMode
  | off | starting | standby | active | panning | fault
  deriving DecidableEq, Repr

inductive CaptureState
  | idle | prepared | waitZoom | waitFocus | waitFrame | filling | waitRoom
  deriving DecidableEq, Repr

inductive Press
  | none | half | full
  deriving DecidableEq, Repr

inductive SlotState
  | free | filling | filled | storing | stored | storeFailed
  deriving DecidableEq, Repr

inductive PictureResult
  | none | filling | ok | failed | abandoned
  deriving DecidableEq, Repr

inductive PictureStoreState
  | none | queued | storing | stored | storeFailed
  deriving DecidableEq, Repr

inductive StoreState
  | paused | noCard | cardFault | waitSpace | storing | idle
  deriving DecidableEq, Repr

inductive CardState
  | absent | initialising | ready | fault
  deriving DecidableEq, Repr

inductive RunResult
  | none | ok | crcRejected | writeRejected | readCrc | responseTimeout | busyTimeout
  | memoryBusError
  deriving DecidableEq, Repr

/-- The kind served by the previous run (R168). -/
inductive RunKind
  | picture | cardOrder
  deriving DecidableEq, Repr

/-- The components a program line entry may name (R107). -/
inductive Component
  | shutter | gain | aperture
  deriving DecidableEq, Repr

/-! ### Settings (Table 11-6), as they stand after the limits of R11 and of each chapter -/

structure PoolSettings where
  imageAddress : Nat := 0
  tableEdition : Word := 0
  poolBase : Nat := 0
  slotSize : Nat := 0
  slotCount : Nat := 2
  /-- 0 OFF, 1 ON (Table 9-1). -/
  storeMode : Nat := 1
  autoRelease : Nat := 1
  deriving DecidableEq, Repr

structure NoticeSettings where
  enables : List Bool := List.replicate 10 true
  /-- 1 A, 2 B, 3 both; one per class. -/
  steering : List Nat := List.replicate 10 1
  /-- Threshold exponents in counter order. -/
  exponents : List Nat := [8, 8, 8, 2, 8, 2]
  deriving DecidableEq, Repr

structure SensorSettings where
  address : Nat := 0
  latency : Nat := 1
  width : Nat := 64
  height : Nat := 64
  frameLines : Nat := 68
  linePeriod : Nat := 1000
  shutterRegister : Nat := 0
  gainRegister : Nat := 0
  deriving DecidableEq, Repr

structure FocusWindow where
  x : Nat := 0
  y : Nat := 0
  width : Nat := 0
  height : Nat := 0
  deriving DecidableEq, Repr

structure StatsSettings where
  x0 : Nat := 0
  y0 : Nat := 0
  zoneWidth : Nat := 2
  zoneHeight : Nat := 2
  windows : List FocusWindow := List.replicate 5 {}
  enables : List Bool := [true, false, false, false, false]
  coring : Nat := 0
  deriving DecidableEq, Repr

structure MeterSettings where
  target : Nat := 144
  clip : Nat := 48
  deadBand : Nat := 2
  stepGain : Nat := 4
  settleFrames : Nat := 3
  /-- AE lock on S1: 0 OFF, 1 ON. -/
  lockOnS1 : Nat := 0
  k0 : Int := 0
  weights : List Nat := List.replicate 192 1
  deriving DecidableEq, Repr

structure ProgramEntry where
  component : Component
  span : Nat
  deriving DecidableEq, Repr

/-- The default program line of Table 7-1. -/
def defaultProgram : List ProgramEntry :=
  [⟨.shutter, 48⟩, ⟨.aperture, 48⟩, ⟨.shutter, 64⟩, ⟨.gain, 64⟩, ⟨.shutter, 64⟩]

structure LineSettings where
  xtLo : Nat := 112
  xtFrame : Nat := 240
  xgMax : Nat := 64
  xaHi : Nat := 48
  program : List ProgramEntry := defaultProgram
  deriving DecidableEq, Repr

/-- One entry of a safe list (R107). -/
structure SafeEntry where
  xt : Nat
  exactTime : Nat
  deriving DecidableEq, Repr

structure FlickerSettings where
  min100 : Nat := 1000
  max100 : Nat := 1000
  min120 : Nat := 1000
  max120 : Nat := 1000
  safe100 : List SafeEntry := []
  safe120 : List SafeEntry := []
  deriving DecidableEq, Repr

/-- Table 4-1. -/
structure ZoomSettings where
  fastDuty : Nat := 224
  slowDuty : Nat := 96
  slowDistance : Nat := 400
  brakeLead : Nat := 24
  tolerance : Nat := 4
  backlash : Nat := 120
  stallNormal : Nat := 60
  stallShort : Nat := 20
  retryLimit : Nat := 3
  zRef : Int := -512
  zPark : Int := -768
  deriving DecidableEq, Repr

/-- Table 5-1. -/
structure FocusSettings where
  rates : List Nat := [200, 400, 700, 1000, 1500, 2000, 3000, 4000]
  topEntry : Nat := 7
  rampPulses : Nat := 8
  overshoot : Nat := 24
  dwell : Nat := 4
  fRef : Nat := 40
  hysteresis : Nat := 6
  slipTolerance : Nat := 2
  park : Nat := 0
  fallback : Nat := 64
  deriving DecidableEq, Repr

/-- Table 6-1. -/
structure SearchSettings where
  coarse : Nat := 48
  fine : Nat := 8
  margin : Nat := 32
  drop : Nat := 32
  fall : Nat := 10
  minContrast : Nat := 20000
  /-- S1 focus: 0 NONE, 1 S1_SEARCH. -/
  s1Focus : Nat := 1
  deriving DecidableEq, Repr

/-- Table 8-1. -/
structure StabSettings where
  /-- 0 OFF, 1 STANDBY_ONLY, 2 ALWAYS, 3 ON_S1. -/
  mode : Nat := 3
  leak : Nat := 10
  nPan : Nat := 40
  nExit : Nat := 200
  credit : Nat := 32
  rateAddress : Nat := 0
  learnTime : Nat := 200
  sMax : Nat := 1800
  slew : Nat := 64
  panRate : Nat := 2560
  stillQ : Nat := 131072
  shake : Nat := 40000
  stopWrite : Nat × Nat := (0, 0)
  config : List (Nat × Nat) := []
  deriving DecidableEq, Repr

/-- Tables 9-1 and 10-1. -/
structure CaptureSettings where
  qualification : Nat := 10
  /-- 0 RELEASE, 1 FOCUS. -/
  priority : Nat := 0
  rateMask : Nat := 255
  pressure : Nat := 1
  focusWait : Nat := 500
  busyLimit : Nat := 500
  readout : Nat := 30000
  retryLimit : Nat := 4
  deriving DecidableEq, Repr

structure Settings where
  pool : PoolSettings := {}
  notices : NoticeSettings := {}
  sensor : SensorSettings := {}
  stats : StatsSettings := {}
  meter : MeterSettings := {}
  line : LineSettings := {}
  flicker : FlickerSettings := {}
  zoom : ZoomSettings := {}
  focus : FocusSettings := {}
  search : SearchSettings := {}
  stab : StabSettings := {}
  capture : CaptureSettings := {}
  deriving DecidableEq, Repr

/-- What blocks that work before any settings are in force use: the default columns of the settings tables, and
the stabilizer mode setting OFF, as R128 says (log 7). -/
def Settings.unset : Settings := { stab := { mode := 0 } }

/-! ### Requests (Table 11-5) -/

inductive ZoomRequest
  | goto (position : Int)
  | gotoZone (zone : Int)
  | run (direction : Int)
  | stop
  deriving DecidableEq, Repr

inductive FocusRequest
  | setDistance (distance : Nat)
  | resumeTracking
  | search
  | continuousOn
  deriving DecidableEq, Repr

inductive ExposureRequest
  | auto (compensation : Int)
  | lock
  | manual (xt xg xa : Nat)
  deriving DecidableEq, Repr

inductive CaptureRequest
  | prepare
  | startBurst (count : Nat)
  | stop
  deriving DecidableEq, Repr

/-- Table 1-9. -/
inductive ServiceKind
  | rehomeLens | park | unpark | clearCounters | clearFlags | restartStabilizer | restartCard
  deriving DecidableEq, Repr

/-- The body of a request, read. -/
inductive Request
  | settings (body : List Byte)
  | zoom (r : ZoomRequest)
  | focus (r : FocusRequest)
  | exposure (r : ExposureRequest)
  | capture (r : CaptureRequest)
  | space (start count : Nat)
  | spare (start count : Nat)
  | cardOrder (write : Bool) (count sector address : Nat)
  | service (k : ServiceKind)
  /-- A kind code outside the kinds of the record (R173). -/
  | unknown (record : RecordId)
  deriving DecidableEq, Repr

/-- A request record as the Request Scanner holds it: its acknowledgement entry (R9), the request it holds, an
earlier request of a queuing record that its owner still has (R8), and its torn count (R20). -/
structure RecordState where
  edition : Word := 0
  outcome : ReqOutcome := .done
  detail : Detail := .none
  clamped : Bool := false
  held : Option Request := none
  earlierActive : Bool := false
  torn : Half := 0
  deriving DecidableEq, Repr

/-- Where an active SERVICE request is being worked on (R64, R87, R139, R165). -/
inductive ServicePart
  | zoom | focus | stabilizer | card
  deriving DecidableEq, Repr

structure ServiceWork where
  kind : ServiceKind
  part : ServicePart
  deriving DecidableEq, Repr

/-! ### Register Port, Request Scanner, Answer Writer -/

/-- Which step of the start sequence runs (R16). -/
inductive StartStep
  | none | awaitSettings | zoom | focus | streams
  deriving DecidableEq, Repr

structure Port where
  run : Bool := false
  partState : PartState := .halted
  fault : FaultCode := .none
  noticeA : Bool := false
  noticeB : Bool := false
  areaInUse : Word := 0
  startRead : Bool := false
  startStep : StartStep := .none
  deriving DecidableEq, Repr

/-- The scan in progress (R6, R7): positions 0 to 8 are the records of Table 1-3, 9 the release count table and 10
the seen count table. -/
structure Scan where
  active : Bool := false
  position : Nat := 0
  marked : Bool := false
  settingsHanded : Bool := false
  deriving DecidableEq, Repr

structure Notices where
  counts : List Half := List.replicate 10 0
  seen : List Half := List.replicate 10 0
  deriving DecidableEq, Repr

/-- The record write in flight (R12). -/
structure AnswerWrite where
  record : AnswerId
  stamp : Word
  body : List Byte
  deriving DecidableEq, Repr

/-- The Zoom Drive's part of the internal copy of LENS (R12, R69). -/
structure ZoomPart where
  state : ZoomState := .lost
  phase : ZoomPhase := .none
  counter : Int := 0
  known : Bool := false
  zone : Nat := 0
  focalCode : Nat := 0
  target : Int := 0
  corrections : Nat := 0
  retries : Nat := 0
  lastDrive : ZoomDir := .wide
  fault : Detail := .none
  deriving DecidableEq, Repr

/-- The Focus Drive's part of the internal copy of LENS (R12, R88). -/
structure FocusPart where
  state : FocusState := .lost
  phase : FocusPhase := .none
  counter : Int := 0
  homed : Bool := false
  target : Int := 0
  entry : Nat := 0
  fault : Detail := .none
  deriving DecidableEq, Repr

/-- The Answer Writer (R12). Of the internal copies it holds the drives' parts of LENS, which change at the events of R69 and R88
only; every other content is as its block holds it. -/
structure Answers where
  stamps : List Word := List.replicate 26 0
  marks : List Bool := List.replicate 26 false
  /-- Records marked at entry to HALTED and not yet written (R12). -/
  finishing : List Bool := List.replicate 26 false
  /-- Place of the record last written in the cyclic order; 25 is NOTICE. -/
  last : Nat := 25
  inFlight : Option AnswerWrite := none
  zoomPart : ZoomPart := {}
  focusPart : FocusPart := {}
  /-- An event of R69, or one of R88, has come in this command, whose end takes the part anew; clear between commands (log
  37). -/
  zoomEvent : Bool := false
  focusEvent : Bool := false
  deriving DecidableEq, Repr

/-! ### Pixel Port, Flicker Detector -/

/-- An exposure triple with its sensor values and flags (R117, R120). -/
structure Triple where
  xt : Nat
  xg : Nat
  xa : Nat
  exactTime : Option Nat := none
  timeUs : Nat := 0
  lineCount : Nat := 0
  gainCode : Nat := 0
  iris : Nat := 0
  limited : Bool := false
  shortfall : Bool := false
  deficit : Bool := false
  deriving DecidableEq, Repr

/-- An entry of the exposure pipeline (R30). `order` counts acknowledgements, so the newest entry is the one with the
greatest `order`. -/
structure PipelineEntry where
  triple : Triple
  frame : Word
  order : Nat
  deriving DecidableEq, Repr

/-- The configuration writes in progress (R22): the write awaited, 0 stream off to 6 stream on. -/
structure ConfigWork where
  write : Nat
  repeated : Bool
  triple : Triple
  deriving DecidableEq, Repr

/-- The frame that is open (R26), with the statistics geometry it started with (R32). `received` holds the lines
of a capture frame that is complete but for its last DMA write (R28). -/
structure OpenFrame where
  number : Word
  effective : Option Triple
  metered : Bool
  captureSlot : Option Nat
  geometry : StatsSettings
  width : Nat
  height : Nat
  received : Option (List (List (BitVec 12))) := none
  deriving DecidableEq, Repr

/-- The capture DMA (R36, R37). `abandoned` is an ended DMA whose report is awaited. -/
inductive Dma
  | idle | running | busFailed | abandoned
  deriving DecidableEq, Repr

/-- How far a part of the stop sequence has come (R17, R25, R126). -/
inductive StopPart
  | none | waitDma | waitRead | writing | done
  deriving DecidableEq, Repr

structure Pixel where
  stream : StreamState := .stopped
  config : Option ConfigWork := none
  /-- The configuration writes are those of a start (R22), which writes the applied triple; clear for R24. -/
  starting : Bool := false
  reconfigure : Bool := false
  reconfigureAgain : Bool := false
  frameCounter : Word := 0
  frame : Option OpenFrame := none
  /-- Time of a frame start that is raised after the frame end of the frame that waits (R28). -/
  nextStart : Option Nat := none
  pipeline : List PipelineEntry := []
  order : Nat := 0
  effective : Option Triple := none
  iris : Nat := 0
  inFlight : Option Triple := none
  waiting : Option Triple := none
  /-- The sensor settings that the configuration writes in progress or the write in flight were begun with, and which they
  carry (R24, R29). -/
  carried : SensorSettings := {}
  dma : Dma := .idle
  stopping : StopPart := .none
  deriving DecidableEq, Repr

structure Flicker where
  lastEdge : Option Nat := none
  run100 : Nat := 0
  run120 : Nat := 0
  cls : FlickerClass := .none
  deriving DecidableEq, Repr

/-! ### Lens Table Memory -/

structure Block where
  state : BlockState := .invalid
  words : List Word := []
  deriving DecidableEq, Repr

/-- The table summary (section 3.2). An empty one holds 0 in every field (log 6). -/
structure Summary where
  imageAddress : Nat := 0
  edition : Word := 0
  zMax : Nat := 0
  fMax : Nat := 0
  deriving DecidableEq, Repr

/-- A load in progress (R41, R42). -/
structure LoadWork where
  settings : Settings
  block : TableBlock := .zp
  retried : Bool := false
  /-- The first read waits for the refetch that was reading when the load began. -/
  waitRefetch : Bool := false
  passed : Bool := false
  zp : List Word := []
  tr0 : List Word := []
  tr1 : List Word := []
  deriving DecidableEq, Repr

structure RefetchWork where
  block : TableBlock
  retried : Bool
  deriving DecidableEq, Repr

structure Tables where
  state : TableState := .empty
  zp : Block := {}
  tr0 : Block := {}
  tr1 : Block := {}
  upsets : List Upset := []
  summary : Summary := {}
  load : Option LoadWork := none
  refetch : Option RefetchWork := none
  queued : List TableBlock := []
  lastResult : LoadResult := .none
  lastBlock : Nat := 0
  lastIndex : Nat := 0
  deriving DecidableEq, Repr

/-- The six error counters and the WEAR crossing memory (R170). -/
structure Wear where
  counts : List Nat := List.replicate 6 0
  crossed : List Bool := List.replicate 6 false
  deriving DecidableEq, Repr

/-! ### Zoom Drive -/

/-- What the motor is doing, from which R51 gives the motor command. -/
inductive Motor
  /-- Brake held, or COAST where `coast`. -/
  | rest | coast
  /-- Driven toward the goal of the phase. -/
  | drive (d : ZoomDir)
  /-- Braked until 5 ms pass without an edge, then settling. -/
  | brake
  /-- Coasting until 15 ms pass without an edge. -/
  | settle
  /-- A brake pause, after which the drive goes on. -/
  | pause
  /-- A stall reversal driving in `d`, and the brake pause that ends it. -/
  | reverse (d : ZoomDir)
  | reversePause
  deriving DecidableEq, Repr

inductive HomingGoal
  | park | unpark
  deriving DecidableEq, Repr

/-- The steps of homing in R63. -/
inductive HomingStep
  | none | seekOut | seekIn
  deriving DecidableEq, Repr

inductive CorrectionLeg
  | backing | approach
  deriving DecidableEq, Repr

/-- What follows the braking and settling in progress. -/
inductive AfterSettle
  | none
  /-- The final check of R57. -/
  | finalCheck
  /-- The move begins anew toward the target (R58, R66). -/
  | restart
  /-- IDLE, and the STOP is DONE (R59). -/
  | stop
  /-- IDLE after a cut (R67). -/
  | cut
  | home (goal : HomingGoal)
  | park | unpark
  /-- The end of a park or unpark move (R64). -/
  | parked | unparked
  /-- FAULT with LENS_TABLE_FAULT once braked (R65). -/
  | tableFault
  deriving DecidableEq, Repr

structure Zoom where
  state : ZoomState := .lost
  phase : ZoomPhase := .none
  counter : Int := 0
  known : Bool := false
  points : List Nat := []
  zone : Nat := 0
  target : Int := 0
  corrections : Nat := 0
  retries : Nat := 0
  lastDrive : ZoomDir := .wide
  motor : Motor := .coast
  leg : CorrectionLeg := .backing
  /-- Direction toward the goal of the present drive, kept through a reversal. -/
  goalDir : ZoomDir := .tele
  after : AfterSettle := .none
  holdMark : Bool := false
  stallAt : Option (Int × ZoomDir) := none
  reversalFrom : Int := 0
  homingGoal : HomingGoal := .unpark
  homingStep : HomingStep := .none
  afterHoming : Bool := false
  kept : ZoomSettings := {}
  fault : Detail := .none
  drift : Bool := false
  focalCode : Nat := 0
  reference : SensorLevel := .out
  /-- In the braking toward FAULT the active ZOOM request is a STOP, which a cut does not end (R60, R67). -/
  faultStop : Bool := false
  deriving DecidableEq, Repr

/-! ### Focus Drive, Focus Control, Focus Search -/

/-- What the stepper is doing. -/
inductive Train
  | none | counted | continuous
  /-- Waiting out the reversal dwell. -/
  | dwell
  /-- Stopped by the capture hold (R76). -/
  | suspended
  deriving DecidableEq, Repr

inductive FocusHoming
  | none | seekOut | turn | seekIn | goal
  deriving DecidableEq, Repr

inductive FocusGoal
  | track | park
  deriving DecidableEq, Repr

/-- What follows a train that ramps down (R79, R80). -/
inductive AfterRamp
  | none | home (goal : FocusGoal) | fault
  deriving DecidableEq, Repr

structure Focus where
  state : FocusState := .lost
  train : Train := .none
  counter : Int := 0
  homed : Bool := false
  target : Int := 0
  direction : FocusDir := .near
  legTarget : Int := 0
  remaining : Nat := 0
  entry : Nat := 0
  atEntry : Nat := 0
  kept : FocusSettings := {}
  lastPulse : Option (Nat × FocusDir) := none
  homing : FocusHoming := .none
  homingGoal : FocusGoal := .track
  homingPulses : Nat := 0
  afterRamp : AfterRamp := .none
  hold : Bool := false
  motion : Bool := false
  fault : Detail := .none
  home : SensorLevel := .out
  deriving DecidableEq, Repr

structure Control where
  distance : Nat := 64
  mode : FocusMode := .tracking
  result : FocusResult := .none
  due : Bool := false
  lastTarget : Option Int := none
  /-- D still takes the fallback D of the first SETTINGS request (R88). -/
  awaitFallback : Bool := true
  deriving DecidableEq, Repr

structure Sample where
  position : Int
  values : List Nat
  isFine : Bool
  deriving DecidableEq, Repr

/-- Peak summary of a window (R95). -/
structure Peak where
  maximum : Nat
  position : Int
  below : Nat
  passed : Bool
  deriving DecidableEq, Repr

structure Search where
  phase : SearchPhase := .none
  origin : SearchOrigin := .request
  kept : SearchSettings := {}
  enabled : List Bool := List.replicate 5 false
  fromContinuous : Bool := false
  motor : Bool := false
  lo : Int := 0
  hi : Int := 0
  sweepNear : Bool := true
  wanted : Int := 0
  fineLo : Int := 0
  fineHi : Int := 0
  record : List Sample := []
  peaks : List (Option Peak) := List.replicate 5 none
  chosen : Option Nat := none
  peak : Int := 0
  lastRefusal : Detail := .none
  deriving DecidableEq, Repr

/-- A step episode of continuous following (R103). -/
structure Episode where
  near : Bool
  bestValue : Nat
  bestPosition : Int
  reversed : Bool
  improved : Bool
  steps : Nat
  ending : Bool
  deriving DecidableEq, Repr

structure Following where
  active : Bool := false
  window : Nat := 0
  reference : Option Nat := none
  falls : Nat := 0
  lastNear : Bool := true
  episode : Option Episode := none
  /-- A step move, or the move to the best position, is in flight; D is set at its end. -/
  moving : Bool := false
  deriving DecidableEq, Repr

/-! ### Exposure Unit, Stabilizer -/

/-- The figures of the last metering (R123). -/
structure MeterFigures where
  m : Nat := 0
  mEff : Nat := 0
  k : Nat := 0
  e : Int := 0
  b : Int := 0
  frame : Word := 0
  deriving DecidableEq, Repr

structure Exposure where
  mode : ExposureMode := .auto
  compensation : Int := 0
  hold : Bool := false
  s1Lock : Bool := false
  metering : MeterState := .converging
  settle : Nat := 0
  limit : LimitFlag := .none
  applied : Option Triple := none
  resplitDue : Bool := false
  writeDue : Bool := false
  xaMin : List Nat := List.replicate 32 0
  xtHandheld : List Nat := List.replicate 32 320
  zone : Nat := 0
  reread : Bool := false
  credit : Nat := 0
  figures : MeterFigures := {}
  darkSeen : Bool := false
  writeFailed : Bool := false
  gathered : Bool := false
  deriving DecidableEq, Repr

structure Axis where
  bias : Int := 0
  angle : Int := 0
  raw : Int := 0
  target : Int := 0
  output : Int := 0
  residual : Int := 0
  deriving DecidableEq, Repr

/-- The capture window of R136. -/
structure Window where
  mode : StabMode
  qMax : Int
  shakeHigh : Bool
  deriving DecidableEq, Repr

structure Stab where
  mode : StabMode := .off
  linkRunning : Bool := false
  fault : Detail := .none
  /-- A gyro start's configuration writes are in progress, with the writes still to end. -/
  starting : Bool := false
  configLeft : List (Nat × Nat) := []
  /-- The rate address taken at the last gyro start (R125). -/
  rateAddress : Nat := 0
  /-- The stop write in progress (R126). -/
  stopWrite : Option (Nat × Nat) := none
  reading : Bool := false
  marked : Bool := false
  /-- The pair of the read in flight is discarded at its end (R127). -/
  discard : Bool := false
  stopping : StopPart := .none
  x : Axis := {}
  y : Axis := {}
  panRun : Nat := 0
  exitRun : Nat := 0
  samples : Half := 0
  shakeSeen : Bool := false
  engaged : Bool := false
  window : Option Window := none
  zone : Nat := 0
  kx : Nat := 0
  ky : Nat := 0
  credit : Nat := 0
  gathered : Bool := false
  deriving DecidableEq, Repr

/-! ### Capture Control -/

/-- One button line: raw level, qualification timer running, qualified level (R143). -/
structure Line where
  raw : Bool := false
  timing : Bool := false
  pressed : Bool := false
  deriving DecidableEq, Repr

/-- The burst bookkeeping (R146 to R152); `{}` is cleared. -/
structure Burst where
  rate : Option Nat := none
  pictures : Nat := 0
  unconfirmed : Bool := false
  delayed : Bool := false
  earliest : Option Nat := none
  previousStart : Option Nat := none
  priority : Nat := 0
  focusWait : Nat := 0
  rateMask : Nat := 0
  readout : Nat := 0
  /-- Full press was released while the picture was FILLING. -/
  released : Bool := false
  deriving DecidableEq, Repr

structure Capture where
  s1 : Line := {}
  s2 : Line := {}
  press : Press := .none
  /-- Count of the START_BURST in force: 0 unlimited. -/
  count : Nat := 0
  /-- Pictures still to be completed of a counted START_BURST. -/
  left : Nat := 0
  spent : Bool := false
  state : CaptureState := .idle
  burst : Burst := {}
  nextNumber : Word := 1
  lastNumber : Word := 0
  releases : List Half := List.replicate 16 0
  lastRefusal : Detail := .none
  filling : Option Nat := none
  deriving DecidableEq, Repr

structure Extent where
  start : Nat
  count : Nat
  deriving DecidableEq, Repr

/-- The flags of a picture record (Table 11-9). -/
structure PictureFlags where
  focusUnconfirmed : Bool := false
  exposureLimited : Bool := false
  exposureShortfall : Bool := false
  flickerDeficit : Bool := false
  shakeHigh : Bool := false
  delayed : Bool := false
  burstFirst : Bool := false
  burstLast : Bool := false
  storeOn : Bool := false
  autoRelease : Bool := false
  deriving DecidableEq, Repr

/-- The exposure and lens fields of a picture record. -/
structure PictureShot where
  xt : Nat := 0
  xg : Nat := 0
  xa : Nat := 0
  gainCode : Nat := 0
  timeUs : Nat := 0
  iris : Nat := 0
  zone : Nat := 0
  focusResult : FocusResult := .none
  zoom : Int := 0
  focus : Int := 0
  distance : Nat := 0
  deriving DecidableEq, Repr

/-- A slot with its picture record (Table 11-9). A cleared record is `{}` (R172). -/
structure PictureRecord where
  number : Word := 0
  frame : Word := 0
  fill : Half := 0
  state : SlotState := .free
  result : PictureResult := .none
  resultDetail : Detail := .none
  store : PictureStoreState := .none
  storeDetail : Detail := .none
  flags : PictureFlags := {}
  rate : Option Nat := none
  stabMode : StabMode := .off
  shot : PictureShot := {}
  qMax : Nat := 0
  byteLength : Nat := 0
  extents : List Extent := []
  deriving DecidableEq, Repr

/-! ### Picture Store and Card Port -/

/-- A grant with its cursor (section 10.3). -/
structure Grant where
  start : Nat := 0
  count : Nat := 0
  cursor : Nat := 0
  deriving DecidableEq, Repr

/-- A run to be made: its sectors, and the index of the first picture data sector it writes. -/
structure PlannedRun where
  sector : Nat
  count : Nat
  firstData : Nat
  isHeader : Bool
  /-- Failures of this run (R164). -/
  failures : Nat := 0
  deriving DecidableEq, Repr

/-- The picture in progress (R160, R161, R166). -/
structure PictureWork where
  slot : Nat
  dataSectors : Nat
  /-- Data sectors allocated and data sectors written. -/
  allocated : Nat := 0
  written : Nat := 0
  headerAllocated : Bool := false
  /-- The last extent is open and comes from the space grant. -/
  openSpace : Bool := false
  /-- A run to repeat or a remap run, ready for the arbiter. -/
  next : Option PlannedRun := none
  remap : Bool := false
  deriving DecidableEq, Repr

/-- The active card order (R167). -/
structure OrderWork where
  write : Bool
  sector : Nat
  count : Nat
  address : Nat
  done : Nat := 0
  /-- Taken in INITIALISING, so not yet held against the capacity. -/
  waiting : Bool := false
  next : Option PlannedRun := none
  deriving DecidableEq, Repr

inductive RunPhase
  | response | token | busy | block | stopResponse | stopBusy
  deriving DecidableEq, Repr

/-- The run in flight (R163). -/
structure Run where
  kind : RunKind
  write : Bool
  plan : PlannedRun
  address : Nat
  phase : RunPhase := .response
  block : Nat := 0
  /-- The cause of an early end, once there is one. -/
  cause : Option RunResult := none
  retryLimit : Nat
  busyLimit : Nat
  /-- The header sector's copy, taken at the beginning of a header run (R161). -/
  header : List Byte := []
  deriving DecidableEq, Repr

/-- The initialisation command whose response is awaited (R162). -/
inductive CardInit
  | none | goIdle | identify | setWide
  deriving DecidableEq, Repr

structure Store where
  queue : List Nat := []
  space : Grant := {}
  dropped : Nat := 0
  spare : Grant := {}
  state : StoreState := .paused
  picture : Option PictureWork := none
  order : Option OrderWork := none
  badSectors : Nat := 0
  lastKind : RunKind := .picture
  lastResult : RunResult := .none
  lastBlock : Nat := 0
  failures : Nat := 0
  sectorsDone : Nat := 0
  failingSector : Nat := 0
  deriving DecidableEq, Repr

structure Card where
  state : CardState := .absent
  init : CardInit := .none
  /-- Capacity brought by IDENTIFY, until the initialisation succeeds. -/
  found : Nat := 0
  fault : Detail := .none
  capacity : Option Nat := none
  run : Option Run := none
  detect : Bool := false
  detectTimer : Bool := false
  present : Bool := false
  deriving DecidableEq, Repr

/-! ### Events between blocks (section 0.2.1), and the whole part -/

/-- What one block raises for others to take. -/
inductive Event
  | zoneCrossing (zone : Nat) (direction : ZoomDir)
  | zoomSettled
  | zoomStirred
  | zoomResume
  | blockLost
  | blockRestored (b : TableBlock)
  | tablesReplaced
  | lensTableFault
  | focusIdle (fromHoming : Bool)
  | focusStopped
  | onTrack
  | pressChange (half full : Bool)
  | halfPress
  | halfPressEnd
  | captureEngaged
  | captureReleased
  | waitZoomCheck
  | burstEnd
  | streamFault
  | searchHoldBegin
  | searchHoldEnd
  | searchOver (confirmed : Bool)
  | creditChange (credit : Nat)
  | flickerChange
  | beginZoomStep
  | zoomServed
  | handHeld
  | cardWork
  deriving DecidableEq, Repr

/-- The 3140 without the host's side of the bus. -/
structure Chip where
  port : Port := {}
  scan : Scan := {}
  records : List RecordState := List.replicate 9 {}
  service : Option ServiceWork := none
  notices : Notices := {}
  answers : Answers := {}
  settings : Option Settings := none
  pixel : Pixel := {}
  flicker : Flicker := {}
  tables : Tables := {}
  wear : Wear := {}
  zoom : Zoom := {}
  focus : Focus := {}
  control : Control := {}
  search : Search := {}
  following : Following := {}
  exposure : Exposure := {}
  stab : Stab := {}
  capture : Capture := {}
  slots : List PictureRecord := List.replicate 16 {}
  store : Store := {}
  card : Card := {}
  events : List Event := []
  busOut : List (Nat × List Byte) := []
  now : Nat := 0
  freeIndex : Nat := 0
  deriving DecidableEq, Repr

/-- The state of the machine: the commands waiting, AREA_BASE, the bytes the part has written to system
memory, and the part. -/
structure State where
  pending : List Instr := []
  areaBase : Word := 0
  memory : List Host.Cell := []
  chip : Chip := {}
  deriving DecidableEq, Repr

/-- The machine after power-on reset with every input line low, every sensor OUT and no card (log 6). -/
def State.reset : State := {}

end Sys2Proof.Machine
end

