-- ==== Sys2Proof/Machine/Ops.lean ====
section
/-! DEFINITION. The shared operations: system memory as the part writes it, marks of answer records, notice
counts, error counters, events between blocks, and the outcomes of requests. -/

namespace Sys2Proof.Machine

/-! ### Places in the tables of Chapter 1 -/

def recordIndex : RecordId → Nat
  | .settings => 0 | .zoom => 1 | .focus => 2 | .exposure => 3 | .capture => 4
  | .space => 5 | .spare => 6 | .cardOrder => 7 | .service => 8

/-- The record at a scan position (R7). -/
def recordAt : Nat → RecordId
  | 0 => .settings | 1 => .zoom | 2 => .focus | 3 => .exposure | 4 => .capture
  | 5 => .space | 6 => .spare | 7 => .cardOrder | _ => .service

/-- The notice class of a record's final outcomes (Table 1-3). -/
def recordClass : RecordId → NoticeClass
  | .settings => .settings | .zoom => .zoom | .focus => .focus | .exposure => .exposure
  | .capture => .capture | .space => .store | .spare => .store | .cardOrder => .cardOrder
  | .service => .settings

/-- The queuing records of R8. -/
def isQueuing : RecordId → Bool
  | .settings | .cardOrder | .service => true
  | .zoom | .focus | .exposure | .capture | .space | .spare => false

/-- Place of an answer record in the cyclic order of Table 1-5. -/
def answerIndex : AnswerId → Nat
  | .partState => 0 | .ack => 1 | .lens => 2 | .exposure => 3 | .focus => 4 | .stabilizer => 5
  | .capture => 6 | .store => 7 | .counters => 8 | .slot n => 9 + n | .notice => 25

def answerAt (n : Nat) : AnswerId :=
  match n with
  | 0 => .partState | 1 => .ack | 2 => .lens | 3 => .exposure | 4 => .focus | 5 => .stabilizer
  | 6 => .capture | 7 => .store | 8 => .counters
  | 25 => .notice
  | n => .slot (n - 9)

def isFinal : ReqOutcome → Bool
  | .pending | .active => false
  | .done | .refused | .abandoned | .failed => true

/-! ### System memory as the part writes it -/

/-- What an address reads as that the part has not written (log 4). -/
def Memory.unwritten : Byte := 0

/-- The canonical form: addresses strictly rising, and nothing listed that an unlisted address reads as. -/
abbrev Memory.wf (m : List Host.Cell) : Prop :=
  m.Pairwise (fun a b => a.1 < b.1) ∧ ∀ c ∈ m, c.2 ≠ Memory.unwritten

def Memory.read : List Host.Cell → Nat → Byte
  | [], _ => Memory.unwritten
  | c :: m, a => if c.1 = a then c.2 else Memory.read m a

/-- The cells that `bytes` gives from address `a` on. -/
def Memory.cells (a : Nat) : List Byte → List Host.Cell
  | [] => []
  | b :: bs => if b = Memory.unwritten then Memory.cells (a + 1) bs else (a, b) :: Memory.cells (a + 1) bs

/-- Writes `bytes` at `a`, keeping the canonical form. -/
def Memory.write (m : List Host.Cell) (a : Nat) (bytes : List Byte) : List Host.Cell :=
  m.filter (fun c => c.1 < a) ++ Memory.cells a bytes ++ m.filter (fun c => a + bytes.length ≤ c.1)

/-- Puts the bus writes of a command into memory, oldest first. -/
def Memory.writeAll : List Host.Cell → List (Nat × List Byte) → List Host.Cell
  | m, [] => m
  | m, w :: ws => Memory.writeAll (Memory.write m w.1 w.2) ws

/-- A bus write by the part. -/
def busWrite (address : Nat) (bytes : List Byte) (c : Chip) : Chip :=
  { c with busOut := c.busOut ++ [(address, bytes)] }

/-- `n` free bytes, numbered from `i` (log 5). -/
def freeBytes (i : Nat) : Nat → List Byte
  | 0 => []
  | n + 1 => Config.freeByte i :: freeBytes (i + 1) n

/-! ### Marks, notices, faults, counters, events -/

/-- The settings in force, or what stands in for them before any are (log 7). -/
def cfg (c : Chip) : Settings := c.settings.getD Settings.unset

def raise (e : Event) (c : Chip) : Chip := { c with events := c.events ++ [e] }

/-- Marks an answer record for writing (R12). -/
def mark (a : AnswerId) (c : Chip) : Chip :=
  { c with answers := { c.answers with marks := c.answers.marks.set (answerIndex a) true } }

/-- An event at which the Zoom Drive's part of LENS changes: LENS is marked (R69; log 37). -/
def markZoomPart (c : Chip) : Chip := mark .lens { c with answers := { c.answers with zoomEvent := true } }

/-- An event at which the Focus Drive's part of LENS changes: LENS is marked (R88; log 37). -/
def markFocusPart (c : Chip) : Chip := mark .lens { c with answers := { c.answers with focusEvent := true } }

/-- A notice count increments, and NOTICE is marked (R13). -/
def notice (k : NoticeClass) (c : Chip) : Chip :=
  mark .notice { c with notices := { c.notices with counts := c.notices.counts.modify k.ctorIdx (· + 1) } }

/-- A part-level fault (R5). -/
def partFault (f : FaultCode) (c : Chip) : Chip :=
  let c1 := if c.port.fault = f then c else mark .partState { c with port := { c.port with fault := f } }
  if c.port.partState = .halted then c1 else notice .fault c1

def setPartState (p : PartState) (c : Chip) : Chip :=
  mark .partState { c with port := { c.port with partState := p } }

/-- The threshold 2^t of a counter. -/
def wearThreshold (s : Settings) (k : CounterId) : Nat := 2 ^ (s.notices.exponents.getD k.ctorIdx 0)

/-- An error counter increments, under the WEAR crossing rule (R170). -/
def count (k : CounterId) (c : Chip) : Chip :=
  let v := c.wear.counts.getD k.ctorIdx 0
  if v ≥ Config.counterMax then c
  else
    let c1 := mark .counters { c with wear := { c.wear with counts := c.wear.counts.set k.ctorIdx (v + 1) } }
    if v + 1 = wearThreshold (cfg c) k ∧ c.wear.crossed.getD k.ctorIdx false = false then
      notice .wear { c1 with wear := { c1.wear with crossed := c1.wear.crossed.set k.ctorIdx true } }
    else c1

/-- SERVICE CLEAR_COUNTERS (R170). -/
def clearCounters (c : Chip) : Chip := mark .counters { c with wear := {} }

/-! ### Requests and their outcomes (R8 to R10) -/

def record (c : Chip) (r : RecordId) : RecordState := c.records.getD (recordIndex r) {}

def setRecord (r : RecordId) (s : RecordState) (c : Chip) : Chip :=
  { c with records := c.records.set (recordIndex r) s }

/-- The owner ends its work on a request with a final outcome (R9). An earlier request of a queuing record
counts its notice and frees the held one; a request that is no longer the ACTIVE edition of its record writes
no outcome and counts no notice (R8). -/
def finish (r : RecordId) (o : ReqOutcome) (d : Detail) (c : Chip) : Chip :=
  let e := record c r
  if e.earlierActive then
    raise .handHeld (notice (recordClass r) (setRecord r { e with earlierActive := false } c))
  else if e.outcome = .active then
    let c1 := notice (recordClass r) (mark .ack (setRecord r { e with outcome := o, detail := d } c))
    if isQueuing r then raise .handHeld c1 else c1
  else c

/-- REFUSED carries the clamped flag 0 (R10). -/
def refuse (r : RecordId) (d : Detail) (c : Chip) : Chip :=
  finish r .refused d (setRecord r { record c r with clamped := false } c)

/-- The owner limited a value of the request (R10). -/
def setClamped (r : RecordId) (b : Bool) (c : Chip) : Chip :=
  if b && (record c r).outcome == .active then mark .ack (setRecord r { record c r with clamped := true } c) else c

/-- A request waits on a stated condition (R8). -/
def hold (r : RecordId) (d : Detail) (q : Request) (c : Chip) : Chip :=
  mark .ack (setRecord r { record c r with outcome := .pending, detail := d, held := some q } c)

/-- The active SERVICE request ends (R19). -/
def finishService (o : ReqOutcome) (d : Detail) (c : Chip) : Chip :=
  match c.service with
  | none => c
  | some _ => finish .service o d { c with service := none }

def isLensService : ServiceKind → Bool
  | .rehomeLens | .park | .unpark => true
  | .clearCounters | .clearFlags | .restartStabilizer | .restartCard => false

/-- A lens SERVICE request is in its zoom part. -/
def serviceInZoom (c : Chip) : Bool :=
  match c.service with
  | some w => w.part == .zoom
  | none => false

/-- A lens SERVICE request is in its focus part, and holds the focus motor (R84). -/
def serviceInFocus (c : Chip) : Bool :=
  match c.service with
  | some w => w.part == .focus
  | none => false

/-! ### Conditions that several blocks read -/

/-- A burst is in progress while the capture state is neither IDLE nor PREPARED (section 4.11). -/
def burstInProgress (c : Chip) : Bool :=
  match c.capture.state with
  | .idle | .prepared => false
  | .waitZoom | .waitFocus | .waitFrame | .filling | .waitRoom => true

/-- The Zoom Drive is idle for the hold of R11. -/
def zoomIdleForSettings (z : Zoom) : Bool :=
  match z.state with
  | .idle | .parked | .lost | .fault => true
  | .homing | .moving | .held | .parking | .unparking => false

/-- The Zoom Drive is idle for the placing of R42. -/
def zoomIdleForPlacing (z : Zoom) : Bool := zoomIdleForSettings z || z.state == .held

/-- The Focus Drive is idle for R11 and R42. -/
def focusIdle (f : Focus) : Bool :=
  match f.state with
  | .idle | .lost | .fault => true
  | .homing | .moving | .dwell => false

/-- The zoom is still (R93, R146). -/
def zoomStill (z : Zoom) : Bool :=
  match z.state with
  | .idle => !z.drift
  | .parked | .lost | .fault => true
  | .homing | .moving | .held | .parking | .unparking => false

/-- The zoom is in motion (R68). -/
def zoomInMotion (z : Zoom) : Bool :=
  match z.state with
  | .moving | .parking | .unparking => true
  | .homing => z.known
  | .idle => z.drift
  | .lost | .held | .parked | .fault => false

/-- A search is in progress (section 6.4). -/
def searching (c : Chip) : Bool := c.search.phase != .none

/-- F_MAX of the table summary, 4095 while the table state is EMPTY (section 5.1). -/
def fMax (c : Chip) : Int := if c.tables.state = .empty then 4095 else c.tables.summary.fMax

/-- Z_MAX of the table summary, 16000 while the table state is EMPTY (R53). -/
def zMax (c : Chip) : Int := if c.tables.state = .empty then 16000 else c.tables.summary.zMax

/-- clamp(v, a, b) of section 0.4; where a exceeds b the value is a (R55). -/
def clampInt (v a b : Int) : Int := max a (min v b)

def clampNat (v a b : Nat) : Nat := max a (min v b)

/-- The number of FREE slots among the slots in use. -/
def freeSlots (c : Chip) : Nat :=
  ((c.slots.take (cfg c).pool.slotCount).filter (fun s => s.state == .free)).length

def slot (c : Chip) (n : Nat) : PictureRecord := c.slots.getD n {}

/-- A slot's record changes: its SLOT record is marked, and CAPTURE when the number of FREE slots changes (R155). -/
def setSlot (n : Nat) (p : PictureRecord) (c : Chip) : Chip :=
  let c1 := mark (.slot n) { c with slots := c.slots.set n p }
  if freeSlots c1 = freeSlots c then c1 else mark .capture c1

end Sys2Proof.Machine
end

