-- ==== Sys2Proof/Machine/Flags.lean ====
section
/-! DEFINITION. Lines, marks and states that the spec derives from other state: NOTICE_A and NOTICE_B (R14), the
exposure state (R108), the wanted stabilizer mode (R128), the store state (R159), the freeing rule (R154), the presses
(R144), the motor command (R51) and the gyro's SPI transaction (R126). -/

namespace Sys2Proof.Machine

/-! ### Notice lines (R14) -/

/-- A class counts for a line when it is enabled, steered to the line and its two counts differ. Before any settings
are in force every class is enabled and steered to A. -/
def classRaises (steer : Nat → Bool) (s : Option Settings) (n : Notices) (i : Nat) : Bool :=
  let enabled := match s with
    | none => true
    | some t => t.notices.enables.getD i false
  let steering := match s with
    | none => 1
    | some t => t.notices.steering.getD i 1
  enabled && steer steering && n.counts.getD i 0 != n.seen.getD i 0

/-- The level of a line: low while the part is HALTED. -/
def lineLevel (steer : Nat → Bool) (c : Chip) : Bool :=
  c.port.partState != .halted && (List.range 10).any (classRaises steer c.settings c.notices)

def steersToA (code : Nat) : Bool := code == 1 || code == 3
def steersToB (code : Nat) : Bool := code == 2 || code == 3

/-- Both lines take their levels. -/
def evalLines (c : Chip) : Chip :=
  { c with port := { c.port with noticeA := lineLevel steersToA c, noticeB := lineLevel steersToB c } }

/-! ### Exposure state (R108) -/

def exposureState (e : Exposure) : ExposureState :=
  if e.hold then .searchHold
  else match e.mode with
    | .manual => .manual
    | .lock => .locked
    | .auto =>
      if e.s1Lock then .locked
      else match e.metering with
        | .converging => .converging
        | .settled => .settled
        | .limited => .limited

/-- The exposure state is one of the metering states. -/
def inMeteringState (e : Exposure) : Bool := !e.hold && e.mode == .auto && !e.s1Lock

/-! ### Wanted stabilizer mode (R128) -/

def wantedMode (s : StabSettings) (engaged : Bool) : StabMode :=
  match s.mode with
  | 1 => .standby
  | 2 => .active
  | 3 => if engaged then .active else .standby
  | _ => .off

/-! ### Presses (R144) -/

def halfHeld (k : Capture) : Bool :=
  k.s1.pressed || k.s2.pressed || k.press == .half || k.press == .full

def fullHeld (k : Capture) : Bool := (k.s2.pressed && !k.spent) || k.press == .full

/-! ### Store state (R159) -/

/-- Sectors not yet allocated in a grant. -/
def remainder (g : Grant) : Nat := g.start + g.count - g.cursor

/-- The next run of the picture in progress needs sectors of the space grant: no run waits to be repeated or
remapped, and a data sector or the header sector is not yet allocated. -/
def needsSpace (p : PictureWork) : Bool :=
  p.next.isNone && (p.allocated < p.dataSectors || !p.headerAllocated)

def storeStateOf (part : PartState) (card : CardState) (s : Store) : StoreState :=
  if part ≠ .running then .paused
  else match card with
    | .absent | .initialising => .noCard
    | .fault => .cardFault
    | .ready =>
      match s.picture with
      | some p => if needsSpace p && remainder s.space == 0 then .waitSpace else .storing
      | none => if remainder s.space = 0 then .waitSpace else .idle

/-! ### Freeing rule (R154) -/

/-- The cases in which a slot is freed, `release` being its release count last read. -/
def freeingRule (p : PictureRecord) (release : Half) : Bool :=
  match p.state with
  | .stored => p.flags.autoRelease || release == p.fill
  | .filled => !p.flags.storeOn && release == p.fill
  | .storeFailed => release == p.fill
  | .free | .filling | .storing => false

/-! ### Motor command (R51) -/

/-- The six commands of the motor driver (section 4.1). -/
inductive MotorCommand
  | teleFast | teleSlow | wideFast | wideSlow | brake | coast
  deriving DecidableEq, Repr

def slowCommand : ZoomDir → MotorCommand
  | .tele => .teleSlow
  | .wide => .wideSlow

def fastCommand : ZoomDir → MotorCommand
  | .tele => .teleFast
  | .wide => .wideFast

/-- The motor command. The settling of PARKING and UNPARKING coasts, for which R51 names no command (DESIGN CHOICE, log 26). -/
def motorCommand (z : Zoom) : MotorCommand :=
  match z.motor with
  | .drive d => if z.phase = .fast then fastCommand d else slowCommand d
  | .reverse d => slowCommand d
  | .rest | .brake | .pause | .reversePause => .brake
  | .coast | .settle => .coast

/-! ### The gyro's SPI transaction (R126) -/

/-- A write of a gyro register, or a read of `count` bytes from an address. -/
inductive SpiTransaction
  | write (register value : Nat)
  | read (address count : Nat)
  deriving DecidableEq, Repr

/-- The one transaction on the SPI port: the stop write, the read in flight, or the first configuration write left. -/
def spiTransaction (s : Stab) : Option SpiTransaction :=
  match s.stopWrite with
  | some w => some (.write w.1 w.2)
  | none =>
    if s.reading then some (.read s.rateAddress 4)
    else if s.starting then s.configLeft.head?.map (fun w => .write w.1 w.2)
    else none

end Sys2Proof.Machine
end

