-- ==== Sys2Proof/Machine/Operands.lean ====
section
/-! DEFINITION. Operand forms: the words of the tables read, the fields of request bodies (Tables 11-5 and 11-6), read from
bytes or from a row's own operands, and the limits of R10, R11, R21, R32, R33, R55, R71, R89, R107, R125, R142, R156 and R173. -/

namespace Sys2Proof.Machine

/-! ### Little-endian fields (R172) -/

def u8 (b : List Byte) (i : Nat) : Nat := (b.getD i 0).toNat
def u16 (b : List Byte) (i : Nat) : Nat := u8 b i + 256 * u8 b (i + 1)
def u32 (b : List Byte) (i : Nat) : Nat := u16 b i + 65536 * u16 b (i + 2)
def s16 (b : List Byte) (i : Nat) : Int := (BitVec.ofNat 16 (u16 b i)).toInt
def s32 (b : List Byte) (i : Nat) : Int := (BitVec.ofNat 32 (u32 b i)).toInt

/-- A word that is read alone: a layout version or an edition. -/
def wordOf (b : List Byte) : Word := BitVec.ofNat 32 (u32 b 0)

/-- The 16-bit counts of a count table. -/
def halvesOf : List Byte → List Half
  | b0 :: b1 :: rest => BitVec.ofNat 16 (u16 [b0, b1] 0) :: halvesOf rest
  | _ => []

/-- The words of a Lens Table block. -/
def wordsOf : List Byte → List Word
  | b0 :: b1 :: b2 :: b3 :: rest => wordOf [b0, b1, b2, b3] :: wordsOf rest
  | _ => []

/-- `n` fields of one kind, `step` bytes apart. -/
def fieldsAt (f : Nat → α) (i step : Nat) : Nat → List α
  | 0 => []
  | n + 1 => f i :: fieldsAt f (i + step) step n

/-! ### Requests other than SETTINGS (Table 11-5) -/

/-- The kind and fields of a body. A kind code outside the record's kinds gives `unknown` (R173). Table 11-5 gives the kind no
width; it is read as one byte, and the bytes between it and the next field are padding (DESIGN CHOICE, log 36). -/
def readRequest (r : RecordId) (b : List Byte) : Request :=
  match r with
  | .settings => .settings b
  | .zoom =>
    match u8 b 0 with
    | 0 => .zoom (.goto (s32 b 4))
    | 1 => .zoom (.gotoZone (s32 b 4))
    | 2 => .zoom (.run (s32 b 4))
    | 3 => .zoom .stop
    | _ => .unknown .zoom
  | .focus =>
    match u8 b 0 with
    | 0 => .focus (.setDistance (u16 b 2))
    | 1 => .focus .resumeTracking
    | 2 => .focus .search
    | 3 => .focus .continuousOn
    | _ => .unknown .focus
  | .exposure =>
    match u8 b 0 with
    | 0 => .exposure (.auto (s16 b 2))
    | 1 => .exposure .lock
    | 2 => .exposure (.manual (u16 b 4) (u16 b 6) (u16 b 8))
    | _ => .unknown .exposure
  | .capture =>
    match u8 b 0 with
    | 0 => .capture .prepare
    | 1 => .capture (.startBurst (u8 b 1))
    | 2 => .capture .stop
    | _ => .unknown .capture
  | .space => .space (u32 b 0) (u32 b 4)
  | .spare => .spare (u32 b 0) (u32 b 4)
  | .cardOrder =>
    match u8 b 0 with
    | 0 => .cardOrder false (u16 b 2) (u32 b 4) (u32 b 8)
    | 1 => .cardOrder true (u16 b 2) (u32 b 4) (u32 b 8)
    | _ => .unknown .cardOrder
  | .service =>
    match u8 b 0 with
    | 0 => .service .rehomeLens
    | 1 => .service .park
    | 2 => .service .unpark
    | 3 => .service .clearCounters
    | 4 => .service .clearFlags
    | 5 => .service .restartStabilizer
    | 6 => .service .restartCard
    | _ => .unknown .service

/-! ### The SETTINGS body (Table 11-6)

Each group is read as it stands, then limited; the clamped flag is set when a limit changed a value (log 11). -/

/-- An enumeration code outside its list takes the default (R173). -/
def enumOr (code count default : Nat) : Nat := if code < count then code else default

def readPool (b : List Byte) : PoolSettings :=
  { imageAddress := u32 b 0x00, tableEdition := BitVec.ofNat 32 (u32 b 0x04), poolBase := u32 b 0x08,
    slotSize := u32 b 0x0C, slotCount := u8 b 0x10, storeMode := u8 b 0x11, autoRelease := u8 b 0x12 }

def limitPool (s : PoolSettings) : PoolSettings :=
  { s with slotCount := clampNat s.slotCount 2 16, storeMode := enumOr s.storeMode 2 1,
           autoRelease := enumOr s.autoRelease 2 1 }

/-- The notice steering codes: two bits per class from bit 0. -/
def steeringCodes (w : Nat) : List Nat := fieldsAt (fun i => w / 4 ^ i % 4) 0 1 10

def readNotices (b : List Byte) : NoticeSettings :=
  { enables := fieldsAt (fun i => (u16 b 0x20).testBit i) 0 1 10
    steering := steeringCodes (u32 b 0x22)
    exponents := fieldsAt (u8 b) 0x26 1 6 }

def limitNotices (s : NoticeSettings) : NoticeSettings :=
  { s with steering := s.steering.map (fun x => if x = 0 then 1 else x),
           exponents := s.exponents.map (fun t => min t 15) }

def readSensor (b : List Byte) : SensorSettings :=
  { address := u8 b 0x40, latency := u8 b 0x41, width := u16 b 0x42, height := u16 b 0x44,
    frameLines := u16 b 0x46, linePeriod := u32 b 0x48, shutterRegister := u16 b 0x4C,
    gainRegister := u16 b 0x4E }

/-- R21. -/
def limitSensor (s : SensorSettings) : SensorSettings :=
  let height := clampNat s.height 64 8192
  { s with address := min s.address 127, latency := clampNat s.latency 1 3,
           width := clampNat (s.width / 2 * 2) 64 8192, height := height,
           frameLines := clampNat s.frameLines (height + 4) 16383,
           linePeriod := clampNat s.linePeriod 1000 200000 }

def readWindow (b : List Byte) (i : Nat) : FocusWindow :=
  { x := u16 b i, y := u16 b (i + 2), width := u16 b (i + 4), height := u16 b (i + 6) }

def readStats (b : List Byte) : StatsSettings :=
  { x0 := u16 b 0x60, y0 := u16 b 0x62, zoneWidth := u16 b 0x64, zoneHeight := u16 b 0x66,
    windows := fieldsAt (readWindow b) 0x68 8 5, coring := u16 b 0x90,
    enables := fieldsAt (fun i => (u8 b 0x92).testBit i) 0 1 5 }

/-- R32 and R33, with the sensor settings already limited. -/
def limitStats (f : SensorSettings) (s : StatsSettings) : StatsSettings :=
  let x0 := min (s.x0 / 2 * 2) (f.width - 32)
  let y0 := min (s.y0 / 2 * 2) (f.height - 24)
  { s with x0 := x0, y0 := y0,
           zoneWidth := clampNat (s.zoneWidth / 2 * 2) 2 ((f.width - x0) / 16 / 2 * 2),
           zoneHeight := clampNat (s.zoneHeight / 2 * 2) 2 ((f.height - y0) / 12 / 2 * 2),
           coring := min s.coring 4095,
           enables := if s.enables.any id then s.enables else [true, false, false, false, false] }

def readMeter (b : List Byte) : MeterSettings :=
  { target := u8 b 0xA0, clip := u8 b 0xA1, deadBand := u8 b 0xA2, stepGain := u8 b 0xA3,
    settleFrames := u8 b 0xA4, lockOnS1 := u8 b 0xA5, k0 := s16 b 0xA6,
    weights := fieldsAt (u8 b) 0xA8 1 192 }

/-- R107 and R11 for the weights. -/
def limitMeter (s : MeterSettings) : MeterSettings :=
  let weights := s.weights.map (fun w => min w 15)
  { s with target := min s.target 191, clip := min s.clip 192, deadBand := min s.deadBand 16,
           stepGain := clampNat s.stepGain 1 8, settleFrames := clampNat s.settleFrames 1 15,
           lockOnS1 := enumOr s.lockOnS1 2 0, k0 := clampInt s.k0 (-1024) 1023,
           weights := if weights.all (· == 0) then List.replicate 192 1 else weights }

/-- Reads up to `n` program line entries from byte `i`, up to END. The flag says that a component code was taken
as END (R107). -/
def readProgram (b : List Byte) (i : Nat) : Nat → List ProgramEntry × Bool
  | 0 => ([], false)
  | n + 1 =>
    let rest := readProgram b (i + 2) n
    let span := u8 b (i + 1)
    match u8 b i with
    | 0 => ([], false)
    | 1 => (⟨.shutter, span⟩ :: rest.1, rest.2)
    | 2 => (⟨.gain, span⟩ :: rest.1, rest.2)
    | 3 => (⟨.aperture, span⟩ :: rest.1, rest.2)
    | _ => ([], true)

/-- The program line settings. Of the 17 places of Table 11-6 the first 16 are read, and the line ends after the 16th without the
clamped flag whatever the 17th holds, a component code above 3 included (DESIGN CHOICE, log 28). -/
def readLine (b : List Byte) : LineSettings :=
  { xtLo := u16 b 0x180, xtFrame := u16 b 0x182, xgMax := u8 b 0x184, xaHi := u8 b 0x185,
    program := (readProgram b 0x186 16).1 }

def limitLine (s : LineSettings) : LineSettings :=
  let xtLo := min s.xtLo 320
  { xtLo := xtLo, xtFrame := clampNat s.xtFrame xtLo 320, xgMax := min s.xgMax 96,
    xaHi := clampNat s.xaHi 48 96, program := if s.program.isEmpty then defaultProgram else s.program }

/-- One safe list entry at byte `i`: Xt, padding, exact time. -/
def readSafeEntry (b : List Byte) (i : Nat) : SafeEntry := ⟨u16 b i, u32 b (i + 4)⟩

def limitSafeEntry (e : SafeEntry) : SafeEntry := ⟨min e.xt 320, clampNat e.exactTime 1 1000000⟩

/-- The list ends before an entry whose Xt is below the Xt before it (R107). The entries are already limited (log 28). -/
def ascendingFrom (last : Nat) : List SafeEntry → List SafeEntry
  | [] => []
  | e :: es => if e.xt < last then [] else e :: ascendingFrom e.xt es

def readFlicker (b : List Byte) : FlickerSettings :=
  { min100 := u16 b 0x1B0, max100 := u16 b 0x1B2, min120 := u16 b 0x1B4, max120 := u16 b 0x1B6,
    safe100 := fieldsAt (readSafeEntry b) 0x1C0 8 (min (u8 b 0x1B8) 8),
    safe120 := fieldsAt (readSafeEntry b) 0x200 8 (min (u8 b 0x1B9) 8) }

def limitFlicker (s : FlickerSettings) : FlickerSettings :=
  { min100 := clampNat s.min100 1000 50000, max100 := clampNat s.max100 1000 50000,
    min120 := clampNat s.min120 1000 50000, max120 := clampNat s.max120 1000 50000,
    safe100 := ascendingFrom 0 (s.safe100.map limitSafeEntry),
    safe120 := ascendingFrom 0 (s.safe120.map limitSafeEntry) }

def readZoom (b : List Byte) : ZoomSettings :=
  { fastDuty := u8 b 0x240, slowDuty := u8 b 0x241, slowDistance := u16 b 0x242, brakeLead := u16 b 0x244,
    tolerance := u8 b 0x246, backlash := u16 b 0x247, stallNormal := u8 b 0x249, stallShort := u8 b 0x24A,
    retryLimit := u8 b 0x24B, zRef := s16 b 0x24C, zPark := s16 b 0x24E }

/-- R55: in the order of Table 4-1, each limit using the settings already limited. -/
def limitZoom (s : ZoomSettings) : ZoomSettings :=
  let slowDistance := clampNat s.slowDistance 1 4096
  let brakeLead := min s.brakeLead slowDistance
  let tolerance := min s.tolerance 64
  let zRef := clampInt s.zRef (-1000) (-32)
  { fastDuty := clampNat s.fastDuty 16 255, slowDuty := clampNat s.slowDuty 16 255,
    slowDistance := slowDistance, brakeLead := brakeLead, tolerance := tolerance,
    backlash := clampNat s.backlash (brakeLead + tolerance + 16) 1024,
    stallNormal := clampNat s.stallNormal 10 250, stallShort := clampNat s.stallShort 5 250,
    retryLimit := min s.retryLimit 7, zRef := zRef, zPark := clampInt s.zPark (-1024) (zRef - 16) }

def readFocus (b : List Byte) : FocusSettings :=
  { rates := fieldsAt (u16 b) 0x260 2 8, topEntry := u8 b 0x270, rampPulses := u8 b 0x271,
    overshoot := u8 b 0x272, dwell := u8 b 0x273, fRef := u16 b 0x274, hysteresis := u8 b 0x276,
    slipTolerance := u8 b 0x277, park := u16 b 0x278, fallback := u16 b 0x27A }

/-- Each rate below the one before it is raised to it (R71). -/
def nondecreasingFrom (last : Nat) : List Nat → List Nat
  | [] => []
  | x :: xs => max x last :: nondecreasingFrom (max x last) xs

/-- R71. -/
def limitFocus (s : FocusSettings) : FocusSettings :=
  { rates := nondecreasingFrom 200 (s.rates.map (fun r => clampNat r 200 4000)),
    topEntry := min s.topEntry 7, rampPulses := clampNat s.rampPulses 1 64,
    overshoot := min s.overshoot 255, dwell := min s.dwell 31, fRef := min s.fRef 4095,
    hysteresis := min s.hysteresis 63, slipTolerance := min s.slipTolerance 63, park := min s.park 4095,
    fallback := min s.fallback 448 }

def readSearch (b : List Byte) : SearchSettings :=
  { coarse := u16 b 0x290, fine := u16 b 0x292, margin := u16 b 0x294, drop := u8 b 0x296, fall := u8 b 0x297,
    minContrast := u32 b 0x298, s1Focus := u8 b 0x29C }

/-- R89. -/
def limitSearch (s : SearchSettings) : SearchSettings :=
  let coarse := clampNat s.coarse 4 512
  { s with coarse := coarse, fine := clampNat s.fine 2 coarse, margin := min s.margin 1023,
           drop := clampNat s.drop 1 128, fall := clampNat s.fall 1 50, s1Focus := enumOr s.s1Focus 2 1 }

def readStab (b : List Byte) : StabSettings :=
  { mode := u8 b 0x2A0, leak := u8 b 0x2A1, nPan := u8 b 0x2A2, nExit := u8 b 0x2A3, credit := u8 b 0x2A4,
    rateAddress := u8 b 0x2A6, learnTime := u16 b 0x2A8, sMax := u16 b 0x2AA, slew := u16 b 0x2AC,
    panRate := u16 b 0x2AE, stillQ := u32 b 0x2B0, shake := u32 b 0x2B4,
    stopWrite := (u8 b 0x2B8, u8 b 0x2B9),
    config := fieldsAt (fun i => (u8 b i, u8 b (i + 1))) 0x2BC 2 (min (u8 b 0x2A5) 8) }

/-- R125. -/
def limitStab (s : StabSettings) : StabSettings :=
  { mode := enumOr s.mode 4 3, leak := clampNat s.leak 6 14, nPan := clampNat s.nPan 1 255,
    nExit := clampNat s.nExit 1 255, credit := min s.credit 64, rateAddress := min s.rateAddress 127,
    learnTime := clampNat s.learnTime 10 2000, sMax := min s.sMax 2047, slew := clampNat s.slew 1 2047,
    panRate := clampNat s.panRate 1 32767, stillQ := clampNat s.stillQ 1 8388607,
    shake := min s.shake 16777215, stopWrite := (min s.stopWrite.1 127, s.stopWrite.2),
    config := s.config.map (fun w => (min w.1 127, w.2)) }

def readCapture (b : List Byte) : CaptureSettings :=
  { qualification := u8 b 0x2E0, priority := u8 b 0x2E1, rateMask := u8 b 0x2E2, pressure := u8 b 0x2E3,
    focusWait := u16 b 0x2E4, busyLimit := u16 b 0x2E6, readout := u32 b 0x2E8, retryLimit := u8 b 0x2EC }

/-- R142, R156, and R11 for an empty rate mask. -/
def limitCapture (s : CaptureSettings) : CaptureSettings :=
  { qualification := min s.qualification 31, priority := enumOr s.priority 2 0,
    rateMask := if s.rateMask = 0 then 1 else s.rateMask, pressure := min s.pressure 4,
    focusWait := min s.focusWait 2000, busyLimit := clampNat (s.busyLimit / 100 * 100) 100 1500,
    readout := min s.readout 200000, retryLimit := min s.retryLimit 15 }

def readSettings (b : List Byte) : Settings :=
  { pool := readPool b, notices := readNotices b, sensor := readSensor b, stats := readStats b,
    meter := readMeter b, line := readLine b, flicker := readFlicker b, zoom := readZoom b,
    focus := readFocus b, search := readSearch b, stab := readStab b, capture := readCapture b }

def limitSettings (s : Settings) : Settings :=
  let sensor := limitSensor s.sensor
  { pool := limitPool s.pool, notices := limitNotices s.notices, sensor := sensor,
    stats := limitStats sensor s.stats, meter := limitMeter s.meter, line := limitLine s.line,
    flicker := limitFlicker s.flicker, zoom := limitZoom s.zoom, focus := limitFocus s.focus,
    search := limitSearch s.search, stab := limitStab s.stab, capture := limitCapture s.capture }

/-- The settings that a SETTINGS body asks for, limited. -/
def settingsOf (b : List Byte) : Settings := limitSettings (readSettings b)

/-- The clamped flag of a SETTINGS body: a limit changed a value, a list was cut, or a component code was taken as
END (R11, R107, R173). -/
def settingsClamped (b : List Byte) : Bool :=
  readSettings b != settingsOf b || (readProgram b 0x186 16).2 || 8 < u8 b 0x1B8 || 8 < u8 b 0x1B9
    || 8 < u8 b 0x2A5

/-- Bytes of one packed frame (section 2.1). -/
def frameBytes (s : SensorSettings) : Nat := s.width * s.height * 3 / 2

/-- ceil(frame lines × line period / 1000) µs (Table 2-1). -/
def framePeriod (s : SensorSettings) : Nat := (s.frameLines * s.linePeriod + 999) / 1000

/-! ### Operands of the request rows -/

/-- A signed 32-bit argument of a ZOOM row. -/
def signedWord (w : Word) : Int := w.toInt

def zoomGotoRequest (p : Word) : Request := .zoom (.goto (signedWord p))
def zoomGotoZoneRequest (z : Word) : Request := .zoom (.gotoZone (signedWord z))
def zoomRunRequest (d : Word) : Request := .zoom (.run (signedWord d))

/-- The kind of a CARD_ORDER row: 0 READ, 1 WRITE (Table 11-5). -/
def cardOrderRequest (kind : Byte) (count : Half) (sector address : Word) : Request :=
  match kind.toNat with
  | 0 => .cardOrder false count.toNat sector.toNat address.toNat
  | 1 => .cardOrder true count.toNat sector.toNat address.toNat
  | _ => .unknown .cardOrder

end Sys2Proof.Machine
end

