-- ==== Sys2Proof/Machine/Stats.lean ====
section
/-! DEFINITION. Statistics Unit and Flicker Detector (sections 2.5 to 2.7): zone means, focus values, pixel packing,
and the flicker class. -/

namespace Sys2Proof.Machine

/-! ### Frames -/

/-- The active frame: pixels past the frame width and lines past the frame height are discarded (R27). -/
def activeFrame (width height : Nat) (lines : List (List (BitVec 12))) : List (List Nat) :=
  (lines.take height).map (fun l => (l.take width).map (·.toNat))

/-- Every line and every pixel of the frame has been received (R27). -/
def frameReceived (width height : Nat) (lines : List (List (BitVec 12))) : Bool :=
  height ≤ lines.length && (lines.take height).all (fun l => width ≤ l.length)

/-- A little-endian 24-bit group of two pixels, the left one in the low 12 bits (section 2.1). -/
def packPair (a b : Nat) : List Byte :=
  let v := a + 4096 * b
  [BitVec.ofNat 8 v, BitVec.ofNat 8 (v / 256), BitVec.ofNat 8 (v / 65536)]

def packLine : List Nat → List Byte
  | a :: b :: rest => packPair a b ++ packLine rest
  | _ => []

/-- The packed frame (R36). -/
def packFrame (frame : List (List Nat)) : List Byte := frame.flatMap packLine

/-! ### Zone means (R32) -/

def lineSum : List Nat → Nat
  | [] => 0
  | x :: xs => x + lineSum xs

/-- The sum of the pixels of the `w` by `h` rectangle at (x, y). -/
def rectangleSum (frame : List (List Nat)) (x y w h : Nat) : Nat :=
  lineSum (((frame.drop y).take h).map (fun l => lineSum ((l.drop x).take w)))

def zoneMean (g : StatsSettings) (frame : List (List Nat)) (z : Nat) : Nat :=
  rectangleSum frame (g.x0 + z % 16 * g.zoneWidth) (g.y0 + z / 16 * g.zoneHeight) g.zoneWidth g.zoneHeight
    / (g.zoneWidth * g.zoneHeight)

def zoneMeans (g : StatsSettings) (frame : List (List Nat)) : List Nat :=
  (List.range 192).map (zoneMean g frame)

/-! ### Focus values (R33) -/

/-- The differences of one line of a window that are greater than the coring threshold. -/
def lineContrast (coring : Nat) : List Nat → Nat
  | a :: b :: c :: rest =>
    let d := (c - a) + (a - c)
    (if coring < d then d else 0) + lineContrast coring (b :: c :: rest)
  | _ => 0

/-- The window's lines, clipped to the active frame. -/
def windowLines (frame : List (List Nat)) (w : FocusWindow) : List (List Nat) :=
  ((frame.drop w.y).take w.height).map (fun l => (l.drop w.x).take w.width)

def focusValue (coring : Nat) (frame : List (List Nat)) (w : FocusWindow) : Nat :=
  min (lineSum ((windowLines frame w).map (lineContrast coring))) 4294967295

/-- One value per window, none for a disabled window. -/
def focusValues (g : StatsSettings) (frame : List (List Nat)) : List (Option Nat) :=
  List.zipWith (fun w e => if e then some (focusValue g.coring frame w) else none) g.windows g.enables

/-! ### Flicker Detector (R34, R35) -/

/-- The class changes: it is handed to the Exposure Unit, which shows it (R35). -/
def setFlickerClass (k : FlickerClass) (c : Chip) : Chip :=
  if c.flicker.cls = k then c
  else raise .flickerChange (mark .exposure { c with flicker := { c.flicker with cls := k } })

def runAfter (run period lo hi : Nat) : Nat := if lo ≤ period ∧ period ≤ hi then min (run + 1) 8 else 0

/-- The class that an edge gives, from the run counts before and after it. -/
def classAfter (k : FlickerClass) (old100 old120 new100 new120 : Nat) : FlickerClass :=
  let to100 := new100 == 8 && old100 == 7
  let to120 := new120 == 8 && old120 == 7
  if to100 && to120 then (if k = .none then .f100 else k)
  else if to100 then .f100
  else if to120 then .f120
  else k

/-- A FLK rising edge (R34). -/
def flkEdge (time : Nat) (c0 : Chip) : Chip :=
  let c := { c0 with now := max c0.now time }
  if c.port.partState = .halted then c
  else match c.flicker.lastEdge with
    | none => { c with flicker := { c.flicker with lastEdge := some time } }
    | some t =>
      let s := (cfg c).flicker
      let f := c.flicker
      let n100 := runAfter f.run100 (time - t) s.min100 s.max100
      let n120 := runAfter f.run120 (time - t) s.min120 s.max120
      setFlickerClass (classAfter f.cls f.run100 f.run120 n100 n120)
        { c with flicker := { f with lastEdge := some time, run100 := n100, run120 := n120 } }

/-- 50 ms without an edge (R35). -/
def flickerTimeout (c : Chip) : Chip :=
  match c.flicker.lastEdge with
  | none => c
  | some _ =>
    setFlickerClass .none { c with flicker := { c.flicker with lastEdge := none, run100 := 0, run120 := 0 } }

/-- A change of the class bounds by SETTINGS (R35). -/
def flickerSettingsDone (old new : FlickerSettings) (c : Chip) : Chip :=
  if old.min100 != new.min100 || old.max100 != new.max100 || old.min120 != new.min120 || old.max120 != new.max120 then
    { c with flicker := { c.flicker with run100 := 0, run120 := 0 } }
  else c

/-- Entry to HALTED (R35). The Exposure Unit shows the class; its own state is that of Table 7-5 (log 28). -/
def resetFlicker (c : Chip) : Chip :=
  let c1 := { c with flicker := {} }
  if c.flicker.cls = .none then c1 else mark .exposure c1

end Sys2Proof.Machine
end

