-- ==== Sys2Proof/Machine/Sensor.lean ====
section
/-! DEFINITION. The Pixel Port toward the sensor (sections 2.2 and 2.4): stream state, configuration writes,
reconfiguration, sensor writes, the exposure pipeline, and the I2C transaction to the sensor. -/

namespace Sys2Proof.Machine

def setPixel (f : Pixel → Pixel) (c : Chip) : Chip := { c with pixel := f c.pixel }

/-- STREAMING or STALLED: frames are accepted. -/
def streamRunning (p : Pixel) : Bool := p.stream == .streaming || p.stream == .stalled

/-- Each change of stream state marks EXPOSURE (section 2.2). The write due mark is clear while the stream does not run
(R120). -/
def setStream (s : StreamState) (c : Chip) : Chip :=
  let p := { c.pixel with stream := s }
  let c1 := { c with
    pixel := p, exposure := { c.exposure with writeDue := c.exposure.writeDue && streamRunning p } }
  if c.pixel.stream = s then c1 else mark .exposure c1

def setIris (level : Nat) (c : Chip) : Chip := setPixel (fun p => { p with iris := level }) c

/-! ### Configuration (R22, R24) -/

/-- The last of the seven configuration writes is stream on. -/
def lastConfigWrite : Nat := 6

/-- CONFIGURING is entered with triple `t` to be written, at a start or at a reconfiguration, with the settings in force (R24).
The iris output is set here, before the first write (log 15). -/
def enterConfiguring (starting : Bool) (t : Triple) (c : Chip) : Chip :=
  setStream .configuring (setPixel (fun p => { p with
    config := some ⟨0, false, t⟩, starting := starting, iris := t.iris, reconfigure := false,
    reconfigureAgain := false, waiting := none, carried := (cfg c).sensor }) c)

/-- Step 7 of a start: from STOPPED or FAULT the applied triple is written (R22). -/
def sensorConfigStart (c : Chip) : Chip :=
  match c.exposure.applied with
  | none => c
  | some t => enterConfiguring true t { c with pixel := { c.pixel with inFlight := none } }

/-- A change of the applied triple during the writes of a start is followed by the triple to be written and by the iris
output (R22, R119; log 15 for a change after the triple's own write). -/
def followApplied (c : Chip) : Chip :=
  match c.pixel.config, c.exposure.applied with
  | some w, some t =>
    if c.pixel.starting then setPixel (fun p => { p with config := some { w with triple := t }, iris := t.iris }) c
    else c
  | _, _ => c

/-- Stream on is acknowledged (R22); a further reconfiguration may follow (R24). -/
def streamStarted (w : ConfigWork) (c : Chip) : Chip :=
  setStream .streaming (setPixel (fun p => { p with
    config := none, starting := false, effective := some w.triple, pipeline := [],
    reconfigure := p.reconfigureAgain, reconfigureAgain := false }) c)

/-- A configuration write failed twice (R22). -/
def streamFailed (c : Chip) : Chip :=
  raise .streamFault (notice .fault (setStream .fault (setPixel (fun p => { p with
    config := none, starting := false, reconfigure := false, reconfigureAgain := false }) c)))

/-- A configuration transaction ends (R22). -/
def configWriteDone (acknowledged : Bool) (c : Chip) : Chip :=
  match c.pixel.config with
  | none => c
  | some w =>
    if acknowledged then
      if w.write = lastConfigWrite then streamStarted w c
      else setPixel (fun p => { p with config := some { w with write := w.write + 1, repeated := false } }) c
    else if w.repeated then streamFailed c
    else setPixel (fun p => { p with config := some { w with repeated := true } }) c

/-- The newest entry of the pipeline: the one acknowledged last. -/
def newestEntry : List PipelineEntry → Option PipelineEntry
  | [] => none
  | e :: es =>
    match newestEntry es with
    | none => some e
    | some f => if e.order < f.order then some f else some e

/-- The triple that a reconfiguration writes (R24). -/
def reconfigureTriple (p : Pixel) : Option Triple :=
  match p.waiting with
  | some t => some t
  | none =>
    match newestEntry p.pipeline with
    | some e => some e.triple
    | none => p.effective

/-- The reconfiguration begins once no frame is open and no write is in flight (R24). -/
def beginReconfigure (c : Chip) : Chip :=
  if c.pixel.reconfigure && streamRunning c.pixel && c.pixel.frame.isNone && c.pixel.inFlight.isNone then
    match reconfigureTriple c.pixel with
    | none => c
    | some t => enterConfiguring false t (setPixel (fun p => { p with pipeline := [], effective := some t }) c)
  else c

/-- A change of these sensor settings reconfigures the sensor (R24). -/
def sensorChanged (old new : SensorSettings) : Bool :=
  old.width != new.width || old.height != new.height || old.frameLines != new.frameLines
    || old.linePeriod != new.linePeriod || old.shutterRegister != new.shutterRegister
    || old.gainRegister != new.gainRegister || old.address != new.address

/-- A SETTINGS request that changes them becomes DONE (R24). -/
def sensorSettingsChanged (old new : SensorSettings) (c : Chip) : Chip :=
  if sensorChanged old new then
    if streamRunning c.pixel then setPixel (fun p => { p with reconfigure := true }) c
    else if c.pixel.stream = .configuring then setPixel (fun p => { p with reconfigureAgain := true }) c
    else c
  else c

/-! ### Sensor writes and the pipeline (R29 to R31) -/

/-- A triple handed by the Exposure Unit (R29). -/
def handTriple (t : Triple) (c : Chip) : Chip :=
  if streamRunning c.pixel then
    if c.pixel.inFlight.isSome || c.pixel.reconfigure then setPixel (fun p => { p with waiting := some t }) c
    else setPixel (fun p => { p with inFlight := some t, carried := (cfg c).sensor }) c
  else c

/-- The transaction in flight is over; a waiting triple is written next, with the settings `s` in force, unless a
reconfiguration waits (R29, R24). -/
def nextSensorWrite (s : SensorSettings) (p : Pixel) : Pixel :=
  if p.reconfigure then { p with inFlight := none }
  else { p with inFlight := p.waiting, waiting := none, carried := s }

/-- Frames from the present one to frame `f`. -/
def framesAhead (counter f : Word) : Nat := (f - counter).toNat

/-- The entry joins the list in order of effective frame, replacing an entry for the same frame (R30). -/
def insertEntry (counter : Word) (e : PipelineEntry) : List PipelineEntry → List PipelineEntry
  | [] => [e]
  | f :: fs =>
    if f.frame = e.frame then e :: fs
    else if framesAhead counter e.frame < framesAhead counter f.frame then e :: f :: fs
    else f :: insertEntry counter e fs

/-- A sensor write is acknowledged (R30). -/
def sensorWriteDone (c : Chip) : Chip :=
  match c.pixel.inFlight with
  | none => c
  | some t =>
    let e : PipelineEntry :=
      ⟨t, c.pixel.frameCounter + BitVec.ofNat 32 (cfg c).sensor.latency, c.pixel.order⟩
    setPixel (fun p => nextSensorWrite (cfg c).sensor { p with
      pipeline := insertEntry p.frameCounter e p.pipeline, order := p.order + 1 }) c

/-- The pipeline at frame start `n`: entries that take effect leave the list (R31). -/
def advancePipeline (n : Word) (p : Pixel) : Pixel :=
  match p.pipeline.find? (fun e => e.frame == n) with
  | none => p
  | some e => { p with
      pipeline := p.pipeline.filter (fun x => x.frame != n), effective := some e.triple, iris := e.triple.iris }

/-! ### Stall and stop (R23, R25) -/

def stallTimeout (c : Chip) : Chip :=
  if c.pixel.stream = .streaming then notice .fault (setStream .stalled c) else c

/-- The sensor part of the stop: the open frame and a waiting write are dropped, and stream off is written (R25).
Configuration writes in progress are dropped too (log 23). -/
def writeStreamOff (c : Chip) : Chip :=
  setPixel (fun p => { p with
    frame := none, nextStart := none, waiting := none, config := none, starting := false, reconfigure := false,
    reconfigureAgain := false, stopping := .writing }) c

/-- The stream off write ends, acknowledged or not (R25; log 23 for a sensor write still in flight). -/
def streamOffDone (c : Chip) : Chip :=
  if c.pixel.stopping = .writing then
    setStream .stopped (setPixel (fun p => { p with
      frame := none, nextStart := none, pipeline := [], inFlight := none, stopping := .done }) c)
  else c

/-! ### The I2C transaction (R22, R25, R29) -/

/-- What a transaction writes to the sensor. The spec gives register addresses for the line count and the gain code alone. -/
inductive SensorWrite
  | streamOff
  | frameWidth (pixels : Nat)
  | frameHeight (lines : Nat)
  | frameLines (lines : Nat)
  | linePeriod (ns : Nat)
  | exposure (shutterRegister lineCount gainRegister gainCode : Nat)
  | streamOn
  deriving DecidableEq, Repr

/-- A transaction to the sensor address. -/
structure SensorTransaction where
  address : Nat
  write : SensorWrite
  deriving DecidableEq, Repr

/-- The write of a triple: its line count to the shutter register, its gain code to the gain register (R29). -/
def exposureWrite (s : SensorSettings) (t : Triple) : SensorWrite :=
  .exposure s.shutterRegister t.lineCount s.gainRegister t.gainCode

/-- The configuration writes in their order (R22; log 23 for their number). -/
def configWrite (s : SensorSettings) (w : ConfigWork) : SensorWrite :=
  match w.write with
  | 0 => .streamOff
  | 1 => .frameWidth s.width
  | 2 => .frameHeight s.height
  | 3 => .frameLines s.frameLines
  | 4 => .linePeriod s.linePeriod
  | 5 => exposureWrite s w.triple
  | _ => .streamOn

/-- The one transaction on the sensor's I2C port: the sensor write in flight, also at a stop (log 23), the stream off of the
stop, or the configuration write that is awaited. -/
def sensorTransaction (c : Chip) : Option SensorTransaction :=
  let s := c.pixel.carried
  match c.pixel.inFlight with
  | some t => some ⟨s.address, exposureWrite s t⟩
  | none =>
    if c.pixel.stopping = .writing then some ⟨(cfg c).sensor.address, .streamOff⟩
    else c.pixel.config.map (fun w => ⟨s.address, configWrite s w⟩)

end Sys2Proof.Machine
end

