-- ==== Sys2Proof/Machine/Tables.lean ====
section
/-! DEFINITION. Lens Table Memory (Chapter 3): block checks, word reads with ECC, loads and refetches; and the
arithmetic of the tracking table (R82, R83), which reads it. -/

namespace Sys2Proof.Machine

/-! ### Blocks -/

def blockOf (t : Tables) : TableBlock → Block
  | .zp => t.zp | .tr0 => t.tr0 | .tr1 => t.tr1

def setBlock (b : TableBlock) (k : Block) (t : Tables) : Tables :=
  match b with
  | .zp => { t with zp := k }
  | .tr0 => { t with tr0 := k }
  | .tr1 => { t with tr1 := k }

/-- The code of a block in LENS, where Table 11-1 lists none (log 33). A block's tag is one more (Table 11-11). -/
def blockIndex : TableBlock → Nat
  | .zp => 0 | .tr0 => 1 | .tr1 => 2

def setBlockState (b : TableBlock) (s : BlockState) (c : Chip) : Chip :=
  mark .lens { c with tables := setBlock b { blockOf c.tables b with state := s } c.tables }

/-- No block is INVALID or REFETCHING. -/
def allBlocksValid (t : Tables) : Bool :=
  t.zp.state == .valid && t.tr0.state == .valid && t.tr1.state == .valid

/-- Each INVALID block has at most one refetch queued (R47). -/
def queueRefetch (b : TableBlock) (t : Tables) : Tables :=
  if t.queued.contains b then t else { t with queued := t.queued ++ [b] }

/-! ### Block checks (R38) -/

/-- The first of `n` indices from `i` at which `bad` holds. -/
def firstBad (bad : Nat → Bool) (i : Nat) : Nat → Option Nat
  | 0 => none
  | n + 1 => if bad i then some i else firstBad bad (i + 1) n

def wordAt (ws : List Word) (i : Nat) : Nat := (ws.getD i 0).toNat

def blockSum : List Word → Word
  | [] => 0
  | w :: ws => w + blockSum ws

/-- First tracking row of a block, and how many it holds (Table 11-11). -/
def firstRow : TableBlock → Nat
  | .zp => 0 | .tr0 => 0 | .tr1 => 17

def rowCount : TableBlock → Nat
  | .zp => 0 | .tr0 => 17 | .tr1 => 16

/-- Column `col` of row `r`, counted from the block's first row. -/
def trackCell (ws : List Word) (r col : Nat) : Nat := wordAt ws (2 + 8 * r + col)

def rowDecreases (ws : List Word) (r : Nat) : Bool :=
  (List.range 7).any (fun k => trackCell ws r (k + 1) < trackCell ws r k)

def rowAbove (ws : List Word) (limit r : Nat) : Bool :=
  (List.range 8).any (fun k => limit < trackCell ws r k)

/-- The check of zoom points: the index of the first point that fails (log 12). -/
def badZoomPoint (ws : List Word) : Option Nat :=
  firstBad (fun i =>
    if i = 0 then wordAt ws 3 != 0
    else wordAt ws (3 + i) ≤ wordAt ws (2 + i) || (i == 32 && 16000 < wordAt ws 35)) 0 33

/-- The check of Xa_min and Xt_hh: the lowest zone at which either fails (log 12). -/
def badLensData (ws : List Word) : Option Nat :=
  firstBad (fun z => 48 < wordAt ws (36 + z) || 320 < wordAt ws (68 + z)) 0 32

/-- The checks of Table 3-3 in order: the result code and the failing index, which is the first failing row of a check of rows
(log 12). `refetchOf` is the summary at a
refetch; `limit` is the F_MAX that rows are held against. -/
def checkBlock (b : TableBlock) (edition : Word) (limit : Nat) (refetchOf : Option Summary) (ws : List Word) :
    LoadResult × Nat :=
  if wordAt ws 0 ≠ blockIndex b + 1 then (.wrongTag, 0)
  else if ws.getD 1 0 ≠ edition then (.wrongEdition, 0)
  else if blockSum ws ≠ 0 then (.sumMismatch, 0)
  else match b with
    | .zp =>
      if wordAt ws 2 < 1 ∨ 4095 < wordAt ws 2 then (.fMaxRange, 0)
      else match badZoomPoint ws with
        | some i => (.zoomPoints, i)
        | none =>
          match badLensData ws with
          | some z => (.lensData, z)
          | none =>
            match refetchOf with
            | none => (.passed, 0)
            | some s =>
              if wordAt ws 35 = s.zMax ∧ wordAt ws 2 = s.fMax then (.passed, 0) else (.summaryMismatch, 0)
    | .tr0 | .tr1 =>
      match firstBad (rowDecreases ws) 0 (rowCount b) with
      | some r => (.trackingOrder, firstRow b + r)
      | none =>
        match firstBad (rowAbove ws limit) 0 (rowCount b) with
        | some r => (.trackingRange, firstRow b + r)
        | none => (.passed, 0)

/-! ### Word reads (R45) -/

/-- A new upset joins the upsets of a VALID block; a second one in the same word makes a two-bit error. -/
def addUpset (u : Upset) (t : Tables) : Tables :=
  if (blockOf t u.block).state ≠ .valid then t
  else if t.upsets.any (fun v => v.block == u.block && v.word == u.word) then
    { t with upsets :=
        t.upsets.map (fun v => if v.block = u.block ∧ v.word = u.word then { v with isDouble := true } else v) }
  else { t with upsets := t.upsets ++ [u] }

def addUpsets : List Upset → Tables → Tables
  | [], t => t
  | u :: us, t => addUpsets us (addUpset u t)

/-- A two-bit error: the block is INVALID, its refetch is queued unless the table state is FAULT (R49), and block-lost
is raised. -/
def loseBlock (b : TableBlock) (c : Chip) : Chip :=
  let c1 := setBlockState b .invalid c
  let t : Tables := { c1.tables with upsets := c1.tables.upsets.filter (fun u => u.block != b) }
  let t2 := if t.state = .valid then queueRefetch b t else t
  raise .blockLost (count .tableRefetch { c1 with tables := t2 })

/-- One word read: the word, or none for "unavailable". -/
def readWord (b : TableBlock) (i : Nat) (c : Chip) : Option Nat × Chip :=
  if (blockOf c.tables b).state ≠ .valid then (none, c)
  else
    let w := wordAt (blockOf c.tables b).words i
    match c.tables.upsets.find? (fun u => u.block == b && u.word == i) with
    | none => (some w, c)
    | some u =>
      if u.isDouble then (none, loseBlock b c)
      else
        let upsets := c.tables.upsets.filter (fun v => !(v.block == b && v.word == i))
        (some w, count .tableCorrected { c with tables := { c.tables with upsets := upsets } })

/-- Reads of several words, in order. -/
def readWords (b : TableBlock) : List Nat → Chip → List (Option Nat) × Chip
  | [], c => ([], c)
  | i :: is, c =>
    let r := readWord b i c
    let rs := readWords b is r.2
    (r.1 :: rs.1, rs.2)

/-- All the words, or none when any was unavailable. -/
def allOf : List (Option Nat) → Option (List Nat)
  | [] => some []
  | none :: _ => none
  | some w :: ws => (allOf ws).map (w :: ·)

/-! ### Zones (R54) -/

/-- The zone of `v` among the points from zone `z` on. -/
def zoneFrom (z : Nat) (v : Int) : List Nat → Nat
  | _ :: q :: rest => if v < q then z else zoneFrom (z + 1) v (q :: rest)
  | _ => 31

def zoneOf (points : List Nat) (v : Int) : Nat := zoneFrom 0 v points

/-! ### Tracking positions (R82, R83) -/

/-- What a tracking position is found from: the weight u and the two rows. -/
structure TrackData where
  u : Nat
  rowA : List Nat
  rowB : List Nat
  deriving DecidableEq, Repr

/-- The block and first word of tracking row `r`. -/
def rowPlace (r : Nat) : TableBlock × Nat :=
  if r ≤ 16 then (.tr0, 2 + 8 * r) else (.tr1, 2 + 8 * (r - 17))

def readRow (r : Nat) (c : Chip) : List (Option Nat) × Chip :=
  readWords (rowPlace r).1 (fieldsAt id (rowPlace r).2 1 8) c

/-- u of R82. -/
def trackWeight (pos : Int) (p q : Nat) : Nat :=
  if pos < 0 then 0 else min 64 (((pos - p) * 64) / ((q : Int) - p)).toNat

/-- Reads P[z], P[z+1] and the two rows; none when any word is unavailable. -/
def readTrack (pos : Int) (c : Chip) : Option TrackData × Chip :=
  let z := zoneOf c.zoom.points pos
  let ps := readWords .zp [3 + z, 4 + z] c
  let a := readRow z ps.2
  let b := readRow (z + 1) a.2
  match allOf ps.1, allOf a.1, allOf b.1 with
  | some [p, q], some ra, some rb => (some ⟨trackWeight pos p q, ra, rb⟩, b.2)
  | _, _, _ => (none, b.2)

/-- The interpolation between two columns of a row (steps 4 and 5 of R82). -/
def rowBlend (row : List Nat) (d : Nat) : Nat :=
  row.getD (d / 64) 0 * (64 - d % 64) + row.getD (min 7 (d / 64 + 1)) 0 * (d % 64)

/-- track for distance index `d` (step 6 of R82). -/
def trackAt (t : TrackData) (d : Nat) : Nat :=
  (rowBlend t.rowA d * (64 - t.u) + rowBlend t.rowB d * t.u + 2048) / 4096

/-- The binary search of R83: ends with `hi` the lowest D whose g is at least F. 9 halvings of 0..448 suffice. -/
def invSearch (t : TrackData) (f : Int) : Nat → Nat → Nat → Nat × Nat
  | 0, lo, hi => (lo, hi)
  | fuel + 1, lo, hi =>
    if hi - lo > 1 then
      if f ≤ trackAt t ((lo + hi) / 2) then invSearch t f fuel lo ((lo + hi) / 2)
      else invSearch t f fuel ((lo + hi) / 2) hi
    else (lo, hi)

/-- inv (R83). -/
def invAt (t : TrackData) (f : Int) : Nat :=
  if f ≤ trackAt t 0 then 0
  else if (trackAt t 448 : Int) < f then 448
  else
    let r := invSearch t f 9 0 448
    if f - trackAt t r.1 ≤ (trackAt t r.2 : Int) - f then r.1 else r.2

/-! ### Loads (R41 to R44) -/

/-- A load begins: queued refetches are dropped, and the first read waits for a refetch that is reading. -/
def beginLoad (s : Settings) (c : Chip) : Chip :=
  mark .lens { c with tables := { c.tables with
    load := some { settings := s, waitRefetch := c.tables.refetch.isSome }, queued := [] } }

def invalidBlocks (t : Tables) : List TableBlock :=
  [TableBlock.zp, .tr0, .tr1].filter (fun b => (blockOf t b).state == .invalid)

/-- A load ends failed (R43). -/
def failLoad (r : LoadResult) (b : TableBlock) (i : Nat) (c : Chip) : Chip :=
  let t : Tables := { c.tables with load := none, lastResult := r, lastBlock := blockIndex b, lastIndex := i }
  let t2 : Tables := if t.state = .valid then { t with queued := invalidBlocks t } else t
  raise .handHeld (refuse .settings .tableInvalid (mark .lens { c with tables := t2 }))

/-- A block read of a load completes (R42): the block is checked in the staging area. -/
def loadBlock (ws : List Word) (l : LoadWork) (c : Chip) : Chip :=
  let r := checkBlock l.block l.settings.pool.tableEdition (wordAt l.zp 2) none ws
  if r.1 ≠ .passed then failLoad r.1 l.block r.2 c
  else
    let l1 := match l.block with
      | .zp => { l with zp := ws, block := .tr0, retried := false }
      | .tr0 => { l with tr0 := ws, block := .tr1, retried := false }
      | .tr1 => { l with tr1 := ws, passed := true, retried := false }
    { c with tables := { c.tables with load := some l1 } }

/-- A bus error on a load read (R42). -/
def loadBusError (l : LoadWork) (c : Chip) : Chip :=
  if l.retried then failLoad .busError l.block 0 c
  else { c with tables := { c.tables with load := some { l with retried := true } } }

/-- The staged blocks take the place of the internal blocks (R42). The last load result PASSED is shown with block code 0
(log 33). -/
def placeBlocks (l : LoadWork) (c : Chip) : Chip :=
  mark .lens { c with tables := { c.tables with
    state := .valid, zp := ⟨.valid, l.zp⟩, tr0 := ⟨.valid, l.tr0⟩, tr1 := ⟨.valid, l.tr1⟩, upsets := [],
    summary := ⟨l.settings.pool.imageAddress, l.settings.pool.tableEdition, wordAt l.zp 35, wordAt l.zp 2⟩,
    load := none, refetch := none, queued := [], lastResult := .passed, lastBlock := 0, lastIndex := 0 } }

/-- Both drives are idle for the placing (R42). -/
def drivesIdle (c : Chip) : Bool := zoomIdleForPlacing c.zoom && focusIdle c.focus

/-! ### Refetches (R47 to R49) -/

/-- The next queued refetch: ZP before TR0 before TR1. -/
def nextRefetch (t : Tables) : Option TableBlock :=
  [TableBlock.zp, .tr0, .tr1].find? (fun b => t.queued.contains b)

def canRefetch (c : Chip) : Bool :=
  c.port.partState != .halted && c.tables.load.isNone && c.tables.state == .valid && c.tables.refetch.isNone

def beginRefetch (b : TableBlock) (c : Chip) : Chip :=
  let c1 := setBlockState b .refetching c
  { c1 with tables := { c1.tables with
      refetch := some ⟨b, false⟩, queued := c1.tables.queued.filter (· != b) } }

/-- A load that waited for the refetch may make its first read. -/
def releaseLoad (t : Tables) : Tables :=
  { t with refetch := none, load := t.load.map (fun l => { l with waitRefetch := false }) }

/-- A refetch ends in a lens table fault (R49). -/
def lensTableFault (r : LoadResult) (b : TableBlock) (i : Nat) (c : Chip) : Chip :=
  let c1 := setBlockState b .invalid c
  let t := { releaseLoad c1.tables with
    state := .fault, queued := [], lastResult := r, lastBlock := blockIndex b, lastIndex := i }
  raise .lensTableFault (notice .fault { c1 with tables := t })

/-- A refetch read completes (R47). -/
def finishRefetch (ws : List Word) (w : RefetchWork) (c : Chip) : Chip :=
  let s := c.tables.summary
  let r := checkBlock w.block s.edition s.fMax (some s) ws
  if r.1 ≠ .passed then lensTableFault r.1 w.block r.2 c
  else
    let t := releaseLoad (setBlock w.block ⟨.valid, ws⟩ c.tables)
    let c1 := raise (.blockRestored w.block) (mark .lens { c with tables := t })
    if allBlocksValid t then raise .zoomResume c1 else c1

/-- A bus error on a refetch read (R47). -/
def refetchBusFault (w : RefetchWork) (c : Chip) : Chip :=
  if w.retried then lensTableFault .busError w.block 0 c
  else { c with tables := { c.tables with refetch := some { w with retried := true } } }

/-- A refetch in progress at entry to HALTED is queued again (R48). -/
def abortRefetch (c : Chip) : Chip :=
  match c.tables.refetch with
  | none => c
  | some w =>
    let c1 := setBlockState w.block .invalid c
    { c1 with tables := queueRefetch w.block { c1.tables with refetch := none } }

end Sys2Proof.Machine
end

