-- ==== Sys2Proof/Machine/Exposure.lean ====
section
/-! DEFINITION. Exposure Unit (Chapter 7): lens copy and limits, metering, the program line walk, the flicker snap,
sensor values, the bound, the re-split, hand-over, and the EXPOSURE requests. -/

namespace Sys2Proof.Machine

/-! ### Sensor values (R117) -/

/-- Table 7-2. -/
def fracTable : List Nat :=
  [65536, 68438, 71468, 74632, 77936, 81386, 84990, 88752, 92682, 96785, 101070, 105545, 110218, 115098, 120194, 125515]

def frac (j : Nat) : Nat := fracTable.getD j 0

def shutterTime (t : Triple) : Nat :=
  match t.exactTime with
  | some x => x
  | none => (2 ^ (t.xt / 16) * frac (t.xt % 16) + 32768) / 65536

def gainCodeOf (xg : Nat) : Nat := (2 ^ (xg / 16) * frac (xg % 16) * 256 + 32768) / 65536

def lineCountOf (s : SensorSettings) (timeUs : Nat) : Nat :=
  clampNat ((timeUs * 1000 + s.linePeriod / 2) / s.linePeriod) 1 (s.frameLines - 4)

/-- The triple with its sensor values worked out, `xaMin` being that of the exposure zone. -/
def withSensorValues (s : SensorSettings) (xaMin : Nat) (t : Triple) : Triple :=
  { t with timeUs := shutterTime t, lineCount := lineCountOf s (shutterTime t),
           gainCode := gainCodeOf t.xg, iris := t.xa - xaMin }

/-- X of section 0.4. -/
def indexOf (t : Triple) : Int := (t.xt : Int) + t.xg - t.xa

/-- The two triples differ in a component or in their exact time (R114). -/
def splitDiffers (a b : Triple) : Bool :=
  a.xt != b.xt || a.xg != b.xg || a.xa != b.xa || a.exactTime != b.exactTime

/-! ### Limits in force (R109, R110) -/

structure Limits where
  xtLo : Nat
  xtFrame : Nat
  xtMax : Nat
  xgMax : Nat
  xaMin : Nat
  xaHi : Nat
  deriving DecidableEq, Repr

def xaMinOf (e : Exposure) (z : Nat) : Nat := e.xaMin.getD z 0
def xtHandheldOf (e : Exposure) (z : Nat) : Nat := e.xtHandheld.getD z 320

def leastXtHandheld (e : Exposure) : Nat := e.xtHandheld.foldl min 320

def limitsOf (s : LineSettings) (e : Exposure) : Limits :=
  { xtLo := min s.xtLo (leastXtHandheld e), xtFrame := s.xtFrame,
    xtMax := min s.xtFrame (xtHandheldOf e e.zone + e.credit), xgMax := s.xgMax,
    xaMin := xaMinOf e e.zone, xaHi := s.xaHi }

def limits (c : Chip) : Limits := limitsOf (cfg c).line c.exposure

/-! ### The record (R108, R123) -/

/-- Fields whose change marks EXPOSURE at once. -/
def exposureNow (e : Exposure) : ExposureState × ExposureMode × Int × Bool × Bool :=
  (exposureState e, e.mode, e.compensation, e.darkSeen, e.writeFailed)

/-- Fields whose changes are gathered. -/
def exposureGathered (l : Limits) (e : Exposure) :
    Limits × Nat × Nat × Option Triple × Nat × LimitFlag × MeterFigures × Bool × Bool :=
  (l, e.credit, e.zone, e.applied, e.settle, e.limit, e.figures, e.hold, e.s1Lock)

/-- An entry into SETTLED or LIMITED (R108). -/
def entersNoticed (old new : Exposure) : Bool :=
  exposureState old != exposureState new
    && (exposureState new == .settled || exposureState new == .limited)

/-- The unit's state changes: marks, gathered changes and the EXPOSURE notice (R108, R123). A start that is writing the
sensor follows the applied triple (R22). -/
def setExposure (f : Exposure → Exposure) (c : Chip) : Chip :=
  let e := f c.exposure
  let gathered := c.exposure.gathered
    || exposureGathered (limitsOf (cfg c).line e) e != exposureGathered (limits c) c.exposure
  let c0 := { c with exposure := { e with gathered := gathered } }
  let c1 := if e.applied = c.exposure.applied then c0 else followApplied c0
  let c2 := if exposureNow e = exposureNow c.exposure then c1 else mark .exposure c1
  if entersNoticed c.exposure e then notice .exposure c2 else c2

/-- The metering state becomes CONVERGING, the settle count 0 and the limit flag NONE (R108). -/
def converging (e : Exposure) : Exposure := { e with metering := .converging, settle := 0, limit := .none }

/-! ### Walk and snap (R115, R116) -/

def headroom (l : Limits) (t : Triple) : Component → Nat
  | .shutter => l.xtMax - t.xt
  | .gain => l.xgMax - t.xg
  | .aperture => t.xa - l.xaMin

def applyTake (take : Nat) (t : Triple) : Component → Triple
  | .shutter => { t with xt := t.xt + take }
  | .gain => { t with xg := t.xg + take }
  | .aperture => { t with xa := t.xa - take }

/-- The walk through the entries with `remaining` to spend. -/
def walkEntries (l : Limits) (t : Triple) (remaining : Nat) : List ProgramEntry → Triple × Nat
  | [] => (t, remaining)
  | e :: es =>
    let take := min (min e.span (headroom l t e.component)) remaining
    walkEntries l (applyTake take t e.component) (remaining - take) es

/-- The start state (R110). -/
def startTriple (l : Limits) : Triple := { xt := l.xtLo, xg := 0, xa := l.xaHi }

/-- The program line walk (R115). -/
def walk (l : Limits) (program : List ProgramEntry) (wanted : Int) : Triple × LimitFlag :=
  let base := startTriple l
  if wanted < indexOf base then ({ base with limited := true }, .brightLimit)
  else
    let r := walkEntries l base (wanted - indexOf base).toNat program
    if r.2 = 0 then (r.1, .none) else ({ r.1 with limited := true }, .darkLimit)

/-- The largest entry Xt that is at most `xt`, `best` so far. -/
def largestAtMost (xt best : Nat) : List SafeEntry → Nat
  | [] => best
  | e :: es => largestAtMost xt (if e.xt ≤ xt ∧ best ≤ e.xt then e.xt else best) es

/-- The flicker snap with a safe list (R116). -/
def snap (l : Limits) (safe : List SafeEntry) (t : Triple) : Triple :=
  match safe.filter (fun e => l.xtLo ≤ e.xt) with
  | [] => t
  | first :: rest =>
    if t.xt < first.xt then t
    else
      let xt := largestAtMost t.xt first.xt (first :: rest)
      let exact := ((first :: rest).find? (fun e => e.xt == xt)).map (·.exactTime)
      let delta := t.xt - xt
      { t with xt := xt, exactTime := exact, xg := min l.xgMax (t.xg + delta),
               deficit := l.xgMax < t.xg + delta }

def safeList (c : Chip) : List SafeEntry :=
  match c.flicker.cls with
  | .none => []
  | .f100 => (cfg c).flicker.safe100
  | .f120 => (cfg c).flicker.safe120

/-- Walk, then snap, with sensor values (R114). -/
def splitIndex (wanted : Int) (c : Chip) : Triple × LimitFlag :=
  let l := limits c
  let r := walk l (cfg c).line.program wanted
  (withSensorValues (cfg c).sensor l.xaMin (snap l (safeList c) r.1), r.2)

/-! ### Hand-over (R120) -/

/-- The applied triple is handed to the Pixel Port, while the part is RUNNING and the stream runs. -/
def handOverApplied (c : Chip) : Chip :=
  match c.exposure.applied with
  | none => c
  | some t =>
    if c.port.partState = .running ∧ streamRunning c.pixel = true then
      handTriple t { c with exposure := { c.exposure with writeDue := false } }
    else c

/-- The write due mark is set, which it is only while the stream runs (R120). -/
def setWriteDue (c : Chip) : Chip :=
  { c with exposure := { c.exposure with writeDue := streamRunning c.pixel } }

/-- The limit flag of a walk and the metering state that follows it (R114). -/
def takeLimit (f : LimitFlag) (e : Exposure) : Exposure :=
  { e with limit := f, metering := if f = .none then .converging else .limited,
           darkSeen := e.darkSeen || (f == .darkLimit && e.limit != .darkLimit) }

/-! ### Re-split and bound (R118, R119) -/

/-- The re-split of the applied triple; true when it changed the triple. A result with the same components and exact time
leaves the applied triple with its flags; the limit flag and the metering state follow the result all the same (R119;
log 28). -/
def resplit (c : Chip) : Bool × Chip :=
  match c.exposure.applied with
  | none => (false, c)
  | some t =>
    let r := splitIndex (indexOf t) c
    let new := { r.1 with shortfall := t.shortfall }
    let differs := splitDiffers t new
    (differs,
     setExposure (fun e => takeLimit r.2 { e with
       applied := some (if differs then new else t), resplitDue := false }) c)

/-- The bound, before the sensor values (R118). -/
def boundTriple (l : Limits) (auto : Bool) (t : Triple) : Triple :=
  let up := l.xaMin - t.xa
  let t1 := { t with xa := t.xa + up, xg := if up = 0 then t.xg else min l.xgMax (t.xg + up),
                     shortfall := t.shortfall || (0 < up && l.xgMax < t.xg + up) }
  let down := t1.xt - l.xtMax
  let t2 := if auto && 0 < down then
      { t1 with xt := l.xtMax, exactTime := none, xg := min l.xgMax (t1.xg + down),
                shortfall := t1.shortfall || l.xgMax < t1.xg + down }
    else t1
  { t2 with xt := clampNat t2.xt l.xtLo l.xtFrame, xg := min t2.xg l.xgMax, xa := min t2.xa l.xaHi }

/-- The bound is applied to the applied triple; its iris level follows the zone (R117, R118). -/
def applyBound (c : Chip) : Chip :=
  match c.exposure.applied with
  | none => c
  | some t =>
    let l := limits c
    let new := boundTriple l (c.exposure.mode == .auto) t
    let c1 := setExposure (fun e => { e with
      applied := some (if splitDiffers t new || new.shortfall != t.shortfall
        then withSensorValues (cfg c).sensor l.xaMin new else { t with iris := t.xa - l.xaMin }) }) c
    if splitDiffers t new then setWriteDue c1 else c1

/-- A limit change (R119): the re-split becomes due in AUTO, and is made at once while no stream runs; in LOCK and
MANUAL the bound is applied. -/
def limitChange (c : Chip) : Chip :=
  if c.exposure.applied.isNone then c
  else match c.exposure.mode with
    | .auto =>
      if !streamRunning c.pixel && inMeteringState c.exposure then (resplit c).2
      else { c with exposure := { c.exposure with resplitDue := true } }
    | .lock | .manual => applyBound c

/-! ### Lens copy (R109) -/

/-- The figures of the lens copy whose change is a lens data change. -/
def lensFigures (e : Exposure) : Nat × Nat × Nat := (xaMinOf e e.zone, xtHandheldOf e e.zone, leastXtHandheld e)

/-- A lens data change: the bound, and the re-split due in AUTO. -/
def lensDataChange (old : Exposure) (c : Chip) : Chip :=
  if lensFigures { old with zone := c.exposure.zone } = lensFigures c.exposure then c else limitChange (applyBound c)

/-- Puts the words read into a list, keeping entries that were unavailable. -/
def placeWords (i : Nat) (l : List Nat) : List (Option Nat) → List Nat
  | [] => l
  | none :: ws => placeWords (i + 1) l ws
  | some w :: ws => placeWords (i + 1) (l.set i w) ws

/-- A whole read of the lens copy. -/
def readLensCopy (c : Chip) : Chip :=
  let a := readWords .zp (fieldsAt id 36 1 32) c
  let b := readWords .zp (fieldsAt id 68 1 32) a.2
  let whole := (allOf a.1).isSome && (allOf b.1).isSome
  lensDataChange c.exposure (setExposure (fun e => { e with
    xaMin := placeWords 0 e.xaMin a.1, xtHandheld := placeWords 0 e.xtHandheld b.1, reread := !whole }) b.2)

/-- A zone crossing at the Exposure Unit (R109, R118). -/
def exposureCrossing (zone : Nat) (c : Chip) : Chip :=
  let old := c.exposure
  let r := readWords .zp [36 + zone, 68 + zone] c
  let c1 := setExposure (fun e => { e with
    zone := zone,
    xaMin := placeWords zone e.xaMin (r.1.take 1), xtHandheld := placeWords zone e.xtHandheld (r.1.drop 1),
    reread := e.reread || (allOf r.1).isNone }) r.2
  let c2 := applyBound c1
  let c3 := match c2.exposure.applied with
    | some t => setIris t.iris c2
    | none => c2
  if xtHandheldOf old old.zone ≠ xtHandheldOf c3.exposure zone
      ∨ lensFigures { old with zone := zone } ≠ lensFigures c3.exposure then
    match c3.exposure.mode with
    | .auto => limitChange c3
    | .lock | .manual => c3
  else c3

/-! ### Metering (R111 to R114) -/

/-- The largest j of Table 7-2 with frac[j] ≤ m. -/
def fracIndex (m : Nat) : Nat := (fracTable.filter (· ≤ m)).length - 1

/-- Stage 1 (R112). -/
def logValue (y : Nat) : Nat :=
  let y1 := max y 1
  16 * Nat.log2 y1 + fracIndex (y1 * 2 ^ (16 - Nat.log2 y1))

def sumOf : List Nat → Nat
  | [] => 0
  | x :: xs => x + sumOf xs

/-- Stage 2 (R112). -/
def weightedMean (weights means : List Nat) : Nat :=
  let w := sumOf weights
  (sumOf (List.zipWith (fun a y => a * logValue y) weights means) + w / 2) / w

/-- K of Stage 3 (R113). -/
def clippedZones (weights means : List Nat) : Nat :=
  ((List.zip weights means).filter (fun p => 0 < p.1 && Config.clipLevel ≤ p.2)).length

/-- Stages 1 to 4 and 9 for a frame exposed with index `x`. -/
def meter (s : MeterSettings) (compensation x : Int) (frame : Word) (means : List Nat) : MeterFigures :=
  let m := weightedMean s.weights means
  let k := clippedZones s.weights means
  let mEff := m + min (k - s.clip) Config.clipCap
  { m := m, mEff := mEff, k := k, e := clampInt (s.target + compensation - mEff) (-192) 192,
    b := m - x + s.k0, frame := frame }

/-- ΔX of Stage 5 for an error outside the dead band (R114). -/
def stepSize (e : Int) (gain : Nat) : Int :=
  let d := Int.tdiv (e * gain) 8
  if d = 0 then (if 0 < e then 1 else -1) else d

/-- Stage 5 (R114). -/
def meteringStep (err : Int) (c : Chip) : Chip :=
  let s := (cfg c).meter
  if err.natAbs ≤ s.deadBand then
    let n := min (c.exposure.settle + 1) s.settleFrames
    setExposure (fun e => { e with
      settle := n, limit := .none, metering := if n = s.settleFrames then .settled else .converging }) c
  else
    match c.exposure.applied with
    | none => c
    | some t =>
      let r := splitIndex (indexOf t + stepSize err s.stepGain) c
      let c1 := setExposure (fun e => takeLimit r.2 { e with applied := some r.1, settle := 0 }) c
      if splitDiffers t r.1 then handOverApplied c1 else c1

/-- Metering at the frame end of frame `f` (R111). A lowered settle frames setting limits the settle count (R114). -/
def meterFrame (f : OpenFrame) (means : List Nat) (c : Chip) : Chip :=
  match f.effective with
  | none => c
  | some t =>
    if c.port.partState = .running ∧ f.metered = true then
      let g := meter (cfg c).meter c.exposure.compensation (indexOf t) f.number means
      let c1 := setExposure (fun e => { e with figures := g, settle := min e.settle (cfg c).meter.settleFrames }) c
      if inMeteringState c1.exposure then meteringStep g.e c1 else c1
    else c

/-- The triple waits for a crossing's bound or the end of the hold or lock (R120). It waits for Xt above Xt_max alone, not for
another limit that a SETTINGS request has moved past it meanwhile, be it under a hold, under the S1 lock or in LOCK (log 28). -/
def handOverWaits (c : Chip) : Bool :=
  let locked := c.exposure.hold || (c.exposure.mode == .auto && c.exposure.s1Lock)
  match c.exposure.applied with
  | none => true
  | some t => locked && (limits c).xtMax < t.xt

/-- The Exposure Unit at a frame start: lens reread, re-split and hand-over (R109, R119, R120). -/
def exposureFrameStart (c : Chip) : Chip :=
  let c1 := if c.exposure.reread then readLensCopy c else c
  if c1.port.partState = .running then
    let r := if c1.exposure.resplitDue && inMeteringState c1.exposure then resplit c1 else (false, c1)
    if r.1 then handOverApplied r.2
    else if r.2.exposure.writeDue && !handOverWaits r.2 then handOverApplied r.2
    else r.2
  else c1

/-- The gathered changes are marked (R123). -/
def markGatheredExposure (c : Chip) : Chip :=
  if c.exposure.gathered then
    mark .exposure { c with exposure := { c.exposure with gathered := false } }
  else c

/-! ### Requests (R121) -/

/-- AUTO. The mode changes at once, also during the search hold (R121; log 28). -/
def takeAuto (compensation : Int) (c : Chip) : Chip :=
  let v := clampInt compensation (-48) 48
  let changed := c.exposure.mode != .auto || c.exposure.compensation != v
  let c1 := setExposure (fun e =>
    let e1 := { e with mode := .auto, compensation := v }
    if changed then converging e1 else e1) (setClamped .exposure (v != compensation) c)
  finish .exposure .done .none (limitChange c1)

/-- LOCK keeps the applied triple with its flags, a set DEFICIT among them, also where a re-split is due that would bring it
within new limits. The mode changes at once, also during the search hold (R121; log 28). -/
def takeLock (c : Chip) : Chip :=
  finish .exposure .done .none (setExposure (fun e => { e with mode := .lock }) c)

def takeManual (xt xg xa : Nat) (c : Chip) : Chip :=
  if c.exposure.hold then refuse .exposure .searchHold c
  else
    let l := limits c
    let t : Triple := { xt := clampNat xt l.xtLo l.xtFrame, xg := min xg l.xgMax, xa := clampNat xa l.xaMin l.xaHi }
    let c1 := setClamped .exposure (t.xt != xt || t.xg != xg || t.xa != xa) c
    let c2 := setExposure (fun e => { e with
      mode := .manual, applied := some (withSensorValues (cfg c).sensor l.xaMin t) }) c1
    finish .exposure .done .none (setWriteDue c2)

def takeExposure (r : ExposureRequest) (c : Chip) : Chip :=
  match r with
  | .auto v => takeAuto v c
  | .lock => takeLock c
  | .manual xt xg xa => takeManual xt xg xa c

/-! ### Events of neighbours (R122, R138, R35) -/

def exposureHalfPress (c : Chip) : Chip :=
  if (cfg c).meter.lockOnS1 = 1 then setExposure (fun e => { e with s1Lock := true }) c else c

def exposureHalfPressEnd (c : Chip) : Chip :=
  if c.exposure.s1Lock then
    let c1 := setExposure (fun e => converging { e with s1Lock := false }) c
    match c1.exposure.mode with
    | .auto => limitChange c1
    | .lock | .manual => c1
  else c

def searchHoldBegin (c : Chip) : Chip := setExposure (fun e => { e with hold := true }) c

def searchHoldEnd (c : Chip) : Chip :=
  if c.exposure.hold then
    let c1 := setExposure (fun e => converging { e with hold := false }) c
    if c1.exposure.mode = .auto ∧ c1.exposure.s1Lock = false then limitChange c1 else c1
  else c

def exposureCredit (n : Nat) (c : Chip) : Chip := limitChange (setExposure (fun e => { e with credit := n }) c)

/-- SERVICE CLEAR_FLAGS at the Exposure Unit (R123). -/
def clearExposureFlags (c : Chip) : Chip :=
  setExposure (fun e => { e with darkSeen := false, writeFailed := false }) c

/-- A sensor write is not acknowledged twice (R29, R120). -/
def sensorWriteLost (c : Chip) : Chip :=
  match c.pixel.inFlight with
  | none => c
  | some _ =>
    let c1 := setPixel (nextSensorWrite (cfg c).sensor) c
    notice .fault (setWriteDue (setExposure (fun e => { e with writeFailed := true }) c1))

/-! ### Settings, start, stop -/

/-- The first SETTINGS request gives the unit its start state (R124). -/
def exposureStartState (c : Chip) : Chip :=
  match c.exposure.applied with
  | some _ => c
  | none =>
    let l := limits c
    setExposure (fun e => { e with
      applied := some (withSensorValues (cfg c).sensor l.xaMin (startTriple l)) }) c

/-- A change of line period or frame lines works the sensor values out again (R117). -/
def exposureTimingChanged (c : Chip) : Chip :=
  match c.exposure.applied with
  | none => c
  | some t =>
    let new := withSensorValues (cfg c).sensor (limits c).xaMin t
    let c1 := setExposure (fun e => { e with applied := some new }) c
    if new.lineCount = t.lineCount then c1 else setWriteDue c1

/-- The settings that change the limits, the program line or a safe list (R119). -/
def exposureLimitsChanged (old new : Settings) : Bool :=
  old.line != new.line || old.flicker.safe100 != new.flicker.safe100
    || old.flicker.safe120 != new.flicker.safe120

/-- The Exposure Unit at a SETTINGS request that becomes DONE (R117, R119, R123, R124). -/
def exposureSettingsDone (old new : Settings) (c : Chip) : Chip :=
  let c1 := if limitsOf old.line c.exposure = limits c then c
    else { c with exposure := { c.exposure with gathered := true } }
  let c2 := if c1.exposure.applied.isNone then exposureStartState c1
    else if old.sensor.linePeriod != new.sensor.linePeriod || old.sensor.frameLines != new.sensor.frameLines then
      exposureTimingChanged c1
    else c1
  if exposureLimitsChanged old new then limitChange c2 else c2

/-- The unit at a stop (Table 7-5). -/
def stopExposure (c : Chip) : Chip :=
  setExposure (fun e => { converging e with hold := false, s1Lock := false, resplitDue := false, writeDue := false }) c

end Sys2Proof.Machine
end

