-- ==== Sys2Proof/Machine/Focus.lean ====
section
/-! DEFINITION. Focus Drive and the tracking half of Focus Control (Chapter 5): pulse trains and moves, the capture
hold, the slip check, homing, FAULT and LOST, and tracking retargets. -/

namespace Sys2Proof.Machine

def setFocus (f : Focus → Focus) (c : Chip) : Chip := { c with focus := f c.focus }

/-- The drive state may change, which marks LENS (R88). -/
def enterFocus (s : FocusState) (f : Focus → Focus) (c : Chip) : Chip :=
  let c1 := { c with focus := { f c.focus with state := s } }
  if c.focus.state = s then c1 else markFocusPart c1

/-- The drive phase (Table 11-1): in MOVING, SUSPENDED under the capture hold and DRIVING otherwise; in no other state a phase. -/
def focusPhase (f : Focus) : FocusPhase :=
  if f.state = .moving then (if f.train = .suspended then .suspended else .driving) else .none

/-- The Focus Drive's part of LENS as the drive stands (R88). -/
def focusPartOf (f : Focus) : FocusPart :=
  { state := f.state, phase := focusPhase f, counter := f.counter, homed := f.homed, target := f.target,
    entry := f.entry, fault := f.fault }

/-- A position used from settings or from tracking is limited to 0..F_MAX (R71, R72). -/
def limitFocusPosition (c : Chip) (t : Int) : Int := clampInt t 0 (fMax c)

/-! ### The reversal dwell -/

/-- When the reversal dwell after the last pulse ends, in µs. -/
def dwellEnds (c : Chip) (t : Nat) : Nat := t + (cfg c).focus.dwell * 1000

/-- A leg in direction `d` may begin at once: it is in the direction of the last pulse, or the dwell has passed
(R74). The time is the latest the part has been told of (log 2). -/
def dwellPassed (c : Chip) (d : FocusDir) : Bool :=
  match c.focus.lastPulse with
  | none => true
  | some (t, last) => last == d || dwellEnds c t ≤ c.now

/-! ### Moves (R74) -/

/-- The stop distance of the train in progress (R73). -/
def stopDistance (f : Focus) : Nat := f.entry * f.kept.rampPulses

/-- Where a train of `n` pulses from `p` ends. -/
def stepFrom (d : FocusDir) (p : Int) (n : Nat) : Int :=
  match d with
  | .near => p + n
  | .far => p - n

/-- The next leg that the plan rule gives from `counter` toward `target`, none when the move ends. -/
def planLeg (overshoot : Nat) (counter target : Int) : Option (FocusDir × Int) :=
  if target = counter then none
  else if counter < target then some (.near, target)
  else some (.far, max (target - overshoot) 0)

/-- A counted train begins (R73). -/
def beginTrain (d : FocusDir) (leg : Int) (c : Chip) : Chip :=
  let f := fun f : Focus => { f with
    train := .counted, direction := d, legTarget := leg, remaining := (leg - f.counter).natAbs,
    entry := 0, atEntry := 0, kept := (cfg c).focus }
  if c.focus.state = .homing then setFocus f c else enterFocus .moving f c

/-- The move ends: IDLE (R74). -/
def enterFocusIdle (c : Chip) : Chip :=
  raise (.focusIdle (c.focus.state == .homing))
    (markFocusPart (enterFocus .idle (fun f => { f with train := .none, homing := .none, afterRamp := .none }) c))

/-- A move is planned from rest toward the final target (R74). -/
def planMove (c : Chip) : Chip :=
  match planLeg (cfg c).focus.overshoot c.focus.counter c.focus.target with
  | none => enterFocusIdle c
  | some (d, leg) =>
    if dwellPassed c d then beginTrain d leg c
    else
      let f := fun f : Focus => { f with train := .dwell, direction := d, legTarget := leg }
      if c.focus.state = .homing then setFocus f c else enterFocus .dwell f c

/-! ### FAULT (R80) -/

/-- The drive enters FAULT, or takes a new detail in it, which is no entry for the rules that wait on one (R146). -/
def focusFault (d : Detail) (c : Chip) : Chip :=
  let c1 := markFocusPart (enterFocus .fault (fun f => { f with
    train := .none, homing := .none, afterRamp := .none, fault := d }) c)
  let c2 := finish .focus .failed d (notice .fault c1)
  let c3 := if serviceInFocus c2 then finishService .failed d c2 else c2
  if c.focus.state = .fault ∧ c.focus.train = .none then c3 else raise .focusStopped c3

/-! ### Homing (R79) -/

/-- Homing begins with no counted train running. Its first train begins at once, whatever the direction of the last pulse, and
the fault detail becomes NONE (log 27). -/
def enterHoming (goal : FocusGoal) (c : Chip) : Chip :=
  markFocusPart (enterFocus .homing (fun f =>
    let f := { f with
      homed := false, homingGoal := goal, homingPulses := 0, afterRamp := .none, fault := .none,
      entry := 0, atEntry := 0, train := .continuous }
    match f.home with
    | .inside => { f with homing := .seekOut, direction := .near }
    | .out => { f with homing := .seekIn, direction := .far }) c)

/-- A train ends: homing or FAULT that waited for it, or the next plan (R74, R79, R80). -/
def endTrain (c : Chip) : Chip :=
  let c1 := setFocus (fun f => { f with train := .none, remaining := 0 }) c
  match c.focus.afterRamp with
  | .home g => enterHoming g c1
  | .fault => focusFault .lensTableFault c1
  | .none => planMove c1

/-- Steps from `p` to the end of the range in the train's direction. -/
def roomFrom (c : Chip) (p : Int) : Nat :=
  match c.focus.direction with
  | .near => (fMax c - p).toNat
  | .far => p.toNat

/-- The pulses of a train that ramps down from `p`: the stop distance, reduced so that the train does not carry the counter
past 0 or F_MAX (R72, R75, R77). -/
def rampCount (c : Chip) (p : Int) : Nat := min (stopDistance c.focus) (roomFrom c p)

/-- The train has `n` pulses left from `p`, and ends when there are none. -/
def goOnFor (n : Nat) (p : Int) (c : Chip) : Chip :=
  let c1 := setFocus (fun f => { f with remaining := n, legTarget := stepFrom f.direction p n }) c
  if n = 0 then endTrain c1 else c1

/-- The train ramps down now (R75). -/
def rampDown (c : Chip) : Chip := goOnFor (rampCount c c.focus.counter) c.focus.counter c

/-- Homing begins from any drive state; a counted train first ramps down (R79). A train that ramps down for a lens table fault
goes on to FAULT, which ends the start step or the SERVICE that homing was for (R80; log 27). -/
def startHoming (goal : FocusGoal) (c : Chip) : Chip :=
  if c.focus.train = .counted then
    if c.focus.afterRamp = .fault then c
    else rampDown (setFocus (fun f => { f with afterRamp := .home goal }) c)
  else enterHoming goal c

/-! ### New targets (R75, R76) -/

/-- The leg target of a plan toward `t` in direction `d` (R74). -/
def legToward (overshoot : Nat) (d : FocusDir) (t : Int) : Int :=
  match d with
  | .near => t
  | .far => max (t - overshoot) 0

/-- Steps from `p` to `leg` in direction `d`; negative when it lies behind. -/
def neededCount (d : FocusDir) (p leg : Int) : Int :=
  match d with
  | .near => leg - p
  | .far => p - leg

/-- The plan from counter `p` toward `t` needs the other direction than `d`. -/
def otherDirection (d : FocusDir) (p t : Int) : Bool :=
  match d with
  | .near => t < p
  | .far => p < t

/-- A new final target reaching a running counted train (R75). A FAR train whose new target is the counter itself goes on
to its leg target, by the needed count that R75 gives for a FAR train. -/
def retargetTrain (t : Int) (c : Chip) : Chip :=
  if t = c.focus.target then c
  else
    let c1 := setFocus (fun f => { f with target := t }) c
    if c.focus.afterRamp ≠ .none then c1
    else
      let d := c.focus.direction
      let leg := legToward (cfg c).focus.overshoot d t
      let needed := neededCount d c.focus.counter leg
      if otherDirection d c.focus.counter t = false ∧ (stopDistance c.focus : Int) ≤ needed ∧ 0 < needed then
        setFocus (fun f => { f with remaining := needed.toNat, legTarget := leg }) c1
      else rampDown c1

/-- A new final target reaching a drive in DWELL (R75). -/
def retargetDwell (t : Int) (c : Chip) : Chip :=
  if t = c.focus.target then c
  else
    let c1 := setFocus (fun f => { f with target := t }) c
    match planLeg (cfg c).focus.overshoot c.focus.counter t with
    | some (d, _) => if dwellPassed c d then planMove c1 else c1
    | none => c1

/-- A final target is handed to the drive, limited to 0..F_MAX (R72, R74 to R76). A drive in LOST or FAULT, or homing
before its edge, takes none. -/
def handTarget (t0 : Int) (c : Chip) : Chip :=
  let t := limitFocusPosition c t0
  match c.focus.train with
  | .counted => retargetTrain t c
  | .dwell => if c.focus.homing = .turn then c else retargetDwell t c
  | .suspended => setFocus (fun f => { f with target := t }) c
  | .continuous => c
  | .none =>
    if c.focus.state = .idle then
      if c.focus.hold then enterFocus .moving (fun f => { f with target := t, train := .suspended }) c
      else planMove (setFocus (fun f => { f with target := t }) c)
    else c

/-! ### Pulses (R73) -/

/-- The entry of the next pulse of a counted train. -/
def pulseEntry (f : Focus) : Nat :=
  let candidate := if f.kept.rampPulses ≤ f.atEntry ∧ f.entry < f.kept.topEntry then f.entry + 1 else f.entry
  min candidate ((f.remaining - 1) / f.kept.rampPulses)

/-- A pulse is issued: the counter steps, the last pulse is recorded, and an open frame is a motion frame (R72, R73,
R76). -/
def issuePulse (c : Chip) : Chip :=
  setFocus (fun f => { f with
    counter := stepFrom f.direction f.counter 1, lastPulse := some (c.now, f.direction),
    motion := f.motion || c.pixel.frame.isSome }) c

/-- The most pulses that a homing step may issue (R79). -/
def homePulseMax (c : Chip) : Nat := (fMax c).toNat + Config.homePulseMargin

def focusPulse (time : Nat) (c0 : Chip) : Chip :=
  let c := { c0 with now := max c0.now time }
  match c.focus.train with
  | .counted =>
    let e := pulseEntry c.focus
    let c1 := issuePulse (setFocus (fun f => { f with
      atEntry := if e = f.entry then f.atEntry + 1 else 1, entry := e, remaining := f.remaining - 1 }) c)
    if c1.focus.remaining = 0 then endTrain c1 else c1
  | .continuous =>
    if homePulseMax c ≤ c.focus.homingPulses then c
    else issuePulse (setFocus (fun f => { f with homingPulses := f.homingPulses + 1 }) c)
  | .none | .dwell | .suspended => c

/-- The reversal dwell after the last pulse expires (R74, R79). -/
def dwellEnd (c0 : Chip) : Chip :=
  let c := match c0.focus.lastPulse with
    | some (t, _) => { c0 with now := max c0.now (dwellEnds c0 t) }
    | none => c0
  if c.focus.train = .dwell then
    if c.focus.homing = .turn then
      setFocus (fun f => { f with
        homing := .seekIn, train := .continuous, direction := .far, homingPulses := 0 }) c
    else planMove (setFocus (fun f => { f with train := .none }) c)
  else c

/-! ### Capture hold (R76) -/

/-- The capture hold begins. A move is suspended, but for a train that ramps down toward homing or FAULT. -/
def beginCaptureHold (c : Chip) : Chip :=
  let c1 := setFocus (fun f => { f with hold := true }) c
  if c.focus.state = .homing ∨ c.focus.afterRamp ≠ .none then c1
  else match c.focus.train with
    | .counted | .dwell => enterFocus .moving (fun f => { f with train := .suspended }) c1
    | .none | .continuous | .suspended => c1

/-- A train that ramps down toward homing or FAULT ends at a capture frame start, and what it waited for follows at once (log
27). -/
def endRampAtHold (c : Chip) : Chip :=
  if c.focus.state ≠ .homing ∧ c.focus.train = .counted ∧ c.focus.afterRamp ≠ .none then endTrain c else c

def endCaptureHold (c : Chip) : Chip :=
  let c1 := setFocus (fun f => { f with hold := false }) c
  if c.focus.train = .suspended then planMove (setFocus (fun f => { f with train := .none }) c1) else c1

/-! ### Slip check (R77) -/

/-- The counter value expected at a change of the home sensor in a train of direction `d`. -/
def expectedAtEdge (d : FocusDir) (level : SensorLevel) (c : Chip) : Option Int :=
  match d, level with
  | .far, .inside => some (limitFocusPosition c (cfg c).focus.fRef)
  | .near, .out => some (limitFocusPosition c ((cfg c).focus.fRef + (cfg c).focus.hysteresis : Nat))
  | _, _ => none

/-- A slip is found: the counter takes the expected value, and the train goes on or ramps down. -/
def correctSlip (expected : Int) (c : Chip) : Chip :=
  let c1 := markFocusPart (count .focusSlip (setFocus (fun f => { f with counter := expected }) c))
  let needed := neededCount c1.focus.direction expected c1.focus.legTarget
  goOnFor (if (stopDistance c1.focus : Int) ≤ needed then needed.toNat else rampCount c1 expected) expected c1

def slipCheck (level : SensorLevel) (c : Chip) : Chip :=
  match expectedAtEdge c.focus.direction level c with
  | none => c
  | some x => if (c.focus.counter - x).natAbs ≤ (cfg c).focus.slipTolerance then c else correctSlip x c

/-! ### Tracking (R84, R85) -/

/-- D, mode, focus result and retarget-due mark: what marks FOCUS when it changes (R88). -/
def controlFields (k : Control) : Nat × FocusMode × FocusResult × Bool := (k.distance, k.mode, k.result, k.due)

def setControl (f : Control → Control) (c : Chip) : Chip :=
  let c1 := { c with control := f c.control }
  if controlFields c1.control = controlFields c.control then c1 else mark .focus c1

/-- What marks FOCUS when it changes: the continuous state, followed window, reference and active mark (R106). -/
def followingFields (w : Following) : Bool × Nat × Option Nat × Option Nat :=
  (w.active, w.window, w.reference, w.episode.map (·.steps))

def setFollowing (f : Following → Following) (c : Chip) : Chip :=
  let c1 := { c with following := f c.following }
  if followingFields c1.following = followingFields c.following then c1 else mark .focus c1

/-- Following goes back to WATCH with no reference, and no step move is awaited (R102, R104). -/
def watchAfresh (c : Chip) : Chip :=
  setFollowing (fun w => { w with reference := none, falls := 0, episode := none, moving := false }) c

/-- The retarget itself: track is found and handed over, or the retarget becomes due. -/
def doRetarget (c : Chip) : Chip :=
  let r := readTrack c.zoom.counter c
  match r.1 with
  | none => setControl (fun k => { k with due := true }) r.2
  | some t =>
    let target := limitFocusPosition r.2 (trackAt t r.2.control.distance)
    let c1 := setControl (fun k => { k with due := false, lastTarget := some target }) r.2
    let c2 := { c1 with following := { c1.following with moving := false } }
    handTarget target (if c2.following.active then watchAfresh c2 else c2)

/-- The conditions of a retarget that are not about who holds the motor (R85). -/
def retargetAllowed (c : Chip) : Bool :=
  (c.port.partState == .starting || c.port.partState == .running) && c.focus.homed
    && c.zoom.state != .parking && c.zoom.state != .parked
    && (match c.focus.state with
        | .idle | .moving | .dwell => true
        | .homing | .fault | .lost => false)

/-- A lens SERVICE UNPARK is in its focus part, whose goal is a retarget (R87). -/
def unparkInFocus (c : Chip) : Bool :=
  match c.service with
  | some w => w.part == .focus && w.kind == .unpark
  | none => false

/-- Tracking holds the motor (R84). -/
def trackingHolds (c : Chip) : Bool := !serviceInFocus c && !c.search.motor

/-- A tracking retarget at one of the events of R85. -/
def retarget (c : Chip) : Chip :=
  if retargetAllowed c && trackingHolds c then doRetarget c else c

/-- The retarget that is the focus part of UNPARK, which holds the motor itself (R85, R87). -/
def unparkRetarget (c : Chip) : Chip := if retargetAllowed c then doRetarget c else c

/-- A retarget at an event that also makes a due one again: a due one of UNPARK's focus part is UNPARK's own. -/
def retargetAgain (c : Chip) : Chip :=
  if unparkInFocus c && c.control.due then unparkRetarget c else retarget c

/-- The retarget is made again where it is due (R85). -/
def retargetIfDue (c : Chip) : Chip := if c.control.due then retargetAgain c else c

/-- The goal move of homing (R79, step 3). Where the tracking position cannot be found, the final target is left as it was
(log 27). -/
def homingGoalMove (c : Chip) : Chip :=
  match c.focus.homingGoal with
  | .park => planMove (setFocus (fun f => { f with target := limitFocusPosition c (cfg c).focus.park }) c)
  | .track =>
    let r := readTrack c.zoom.counter c
    match r.1 with
    | none => enterFocusIdle (setControl (fun k => { k with due := true }) r.2)
    | some t =>
      let target := limitFocusPosition r.2 (trackAt t r.2.control.distance)
      planMove (setFocus (fun f => { f with target := target })
        (setControl (fun k => { k with due := false, lastTarget := some target }) r.2))

/-- A change of the home sensor: homing, or the slip check (R77, R79). -/
def homeChange (level : SensorLevel) (c : Chip) : Chip :=
  let c1 := setFocus (fun f => { f with home := level }) c
  match c.focus.train with
  | .continuous =>
    match c.focus.homing, level with
    | .seekOut, .out =>
      let c2 := setFocus (fun f => { f with train := .dwell, homing := .turn }) c1
      if dwellPassed c2 .far then dwellEnd c2 else c2
    | .seekIn, .inside =>
      homingGoalMove (markFocusPart (setFocus (fun f => { f with
        train := .none, homing := .goal, homed := true,
        counter := limitFocusPosition c (cfg c).focus.fRef }) c1))
    | _, _ => c1
  | .counted => if c.focus.homed then slipCheck level c1 else c1
  | .none | .dwell | .suspended => c1

/-- F_MAX + 512 homing pulses without the sensor change (R79). -/
def homePulseLimit (c : Chip) : Chip :=
  if c.focus.train = .continuous ∧ homePulseMax c ≤ c.focus.homingPulses then
    focusFault .homeNotFound (setFocus (fun f => { f with homed := false }) c)
  else c

/-! ### Tables, stop -/

/-- A tables-replaced event at the drive (R80). A drive that the end of a search set moving within the placing is taken as
the IDLE drive it was, so no homed position stays above F_MAX (R72, section 6.8). A FOCUS or SERVICE request that waits for the
drive stays ACTIVE (log 27). -/
def focusTablesReplaced (c : Chip) : Chip :=
  if fMax c < c.focus.counter then
    match c.focus.state with
    | .idle | .moving | .dwell =>
      raise .focusStopped (notice .fault (enterFocus .lost (fun f => { f with
        homed := false, train := .none, afterRamp := .none }) c))
    | .fault => if c.focus.homed then markFocusPart (setFocus (fun f => { f with homed := false }) c) else c
    | .lost | .homing => c
  else c

/-- A lens table fault event at the drive (R80). -/
def focusTableFault (c : Chip) : Chip :=
  if c.focus.state = .homing then focusFault .lensTableFault (setFocus (fun f => { f with homed := false }) c)
  else match c.focus.train with
    | .counted => rampDown (setFocus (fun f => { f with afterRamp := .fault }) c)
    | .continuous | .none | .dwell | .suspended => focusFault .lensTableFault c

/-- A train that ramps down toward homing no longer does; one that ramps down toward FAULT goes on (R80, R88). -/
def dropHomingRamp (c : Chip) : Chip :=
  setFocus (fun f => { f with afterRamp := if f.afterRamp = .fault then .fault else .none }) c

/-- The focus at entry to STOPPING. The park position becomes the final target also of a drive that ramps down toward FAULT
(R88). -/
def stopFocus (c : Chip) : Chip :=
  let park := (cfg c).focus.park
  match c.focus.state with
  | .idle => handTarget park c
  | .moving | .dwell => handTarget park (dropHomingRamp c)
  | .homing =>
    if c.focus.homing = .goal then handTarget park (dropHomingRamp (setFocus (fun f => { f with homingGoal := .park }) c))
    else enterFocus .lost (fun f => { f with train := .none, homing := .none, afterRamp := .none }) c
  | .lost | .fault => c

/-- The drive is at rest at the goal of a stop, or cannot reach it (R88). -/
def focusAtRest (f : Focus) : Bool :=
  match f.state with
  | .idle | .lost | .fault => true
  | .homing | .moving | .dwell => false

end Sys2Proof.Machine
end

