-- ==== Sys2Proof/Machine/Search.lean ====
section
/-! DEFINITION. Focus Search (Chapter 6): the search phases, window choice, interpolation, early ends, continuous
following, and the FOCUS requests of R81, R92 and R101. -/

namespace Sys2Proof.Machine

/-- The search's own fields change, which marks FOCUS (R106). -/
def setSearch (f : Search → Search) (c : Chip) : Chip := mark .focus { c with search := f c.search }

/-! ### Samples (R90, R91) -/

/-- The FVs of the windows that are enabled, in increasing window number; none when the frame end does not carry one of
them (log 14). -/
def enabledValues : List Bool → List (Option Nat) → Option (List Nat)
  | [], _ => some []
  | false :: es, vs => enabledValues es (vs.drop 1)
  | true :: es, vs =>
    match vs.headD none with
    | none => none
    | some v => (enabledValues es (vs.drop 1)).map (v :: ·)

/-- Place of window `w` among the FVs of a sample. -/
def valuePlace (enabled : List Bool) (w : Nat) : Nat := ((enabled.take w).filter id).length

def coarseCount (s : Search) : Nat := (s.record.filter (fun x => !x.isFine)).length

/-- One window's peak summary at a coarse sample (R95). -/
def updatePeak (drop : Nat) (position : Int) (v : Nat) (p : Option Peak) : Peak :=
  match p with
  | none => ⟨v, position, 0, false⟩
  | some k =>
    if k.passed then k
    else if k.maximum < v then ⟨v, position, 0, false⟩
    else if v < k.maximum * (256 - drop) / 256 then { k with below := k.below + 1, passed := k.below + 1 == 2 }
    else { k with below := 0 }

/-- The peak summaries of all windows at a coarse sample. -/
def updatePeaks (drop : Nat) (position : Int) : List Bool → List Nat → List (Option Peak) → List (Option Peak)
  | true :: es, v :: vs, p :: ps => some (updatePeak drop position v p) :: updatePeaks drop position es vs ps
  | false :: es, vs, p :: ps => p :: updatePeaks drop position es vs ps
  | _, _, ps => ps

/-- Every enabled window has passed its peak (R94). -/
def allPassed (s : Search) : Bool :=
  (List.range 5).all (fun w => !s.enabled.getD w false ||
    (match s.peaks.getD w none with
     | some p => p.passed
     | none => false))

/-- The next position of a sweep: `step` further toward the end `last`, limited to it (R94, R97). -/
def nextWanted (near : Bool) (step : Nat) (wanted last : Int) : Int :=
  if near then min last (wanted + step) else max last (wanted - step)

/-- The end of `lo..hi` nearer `p`, the lower end when both are equally near; true for the lower end (R93, R97). -/
def startsLow (p lo hi : Int) : Bool := (p - lo).natAbs ≤ (p - hi).natAbs

/-! ### Ends of a search (R99, R100) -/

/-- The windows enabled in the settings in force, lowest first. -/
def lowestEnabled (c : Chip) : Nat :=
  ((List.range 5).find? (fun w => (cfg c).stats.enables.getD w false)).getD 0

/-- WATCH with no reference, a step in flight being left to end (R89, R101). -/
def watchKeepingStep (c : Chip) : Chip :=
  setFollowing (fun w => { w with reference := none, falls := 0, episode := none }) c

/-- Each entry to CONTINUOUS (R101). -/
def enterContinuous (window : Nat) (c : Chip) : Chip :=
  watchKeepingStep (setFollowing (fun w => { w with window := window, lastNear := true })
    (setControl (fun k => { k with mode := .continuous }) c))

/-- The mode at the end of a search (R99, R100). `confirmed` lets its window be followed. -/
def leaveSearchMode (confirmed : Bool) (c : Chip) : Chip :=
  if c.search.fromContinuous then
    enterContinuous (if confirmed then c.search.chosen.getD c.following.window else c.following.window) c
  else setControl (fun k => { k with mode := .tracking }) c

/-- The search gives up its phase and the motor, and the exposure hold ends. -/
def closeSearch (confirmed : Bool) (c : Chip) : Chip :=
  raise (.searchOver confirmed) (raise .searchHoldEnd
    (setSearch (fun s => { s with phase := .none, motor := false }) c))

/-- The request of a search ends, or a half press search counts its notice. -/
def endSearchRequest (o : ReqOutcome) (d : Detail) (c : Chip) : Chip :=
  match c.search.origin with
  | .request => finish .focus o d c
  | .s1 => notice .focus c

/-- A search ends early (R100, Table 6-4). -/
def endEarly (o : ReqOutcome) (d : Detail) (c : Chip) : Chip :=
  if searching c then retarget (endSearchRequest o d (closeSearch false (leaveSearchMode false c))) else c

/-- A newer FOCUS edition supersedes the search; it sets the mode and makes the retarget (R100; log 14). -/
def supersedeSearch (c : Chip) : Chip :=
  if searching c then
    let c1 := closeSearch false c
    match c.search.origin with
    | .request => c1
    | .s1 => notice .focus c1
  else c

/-- A search finishes with distance `d` (R99). -/
def finishSearch (d : Nat) (found : Bool) (c : Chip) : Chip :=
  let c1 := setControl (fun k => { k with
    distance := d, result := if found then .confirmed else .notFound }) c
  retarget (endSearchRequest .done (if found then .none else .notFound)
    (closeSearch found (leaveSearchMode found c1)))

/-! ### FINISH, FINE and CHOOSE (R96 to R99) -/

/-- The fine samples of the chosen window as (position, FV), in the order taken. -/
def fineValues (s : Search) : List (Int × Nat) :=
  (s.record.filter (·.isFine)).map
    (fun x => (x.position, x.values.getD (valuePlace s.enabled (s.chosen.getD 0)) 0))

/-- The sample with the greatest FV, the earliest taken among equals. -/
def greatest (best : Int × Nat) : List (Int × Nat) → Int × Nat
  | [] => best
  | x :: xs => if best.2 < x.2 then greatest x xs else greatest best xs

/-- The sample at the next position below `p`, the earliest taken at that position. -/
def nextBelow (p : Int) (best : Option (Int × Nat)) : List (Int × Nat) → Option (Int × Nat)
  | [] => best
  | x :: xs =>
    let closer : Bool := match best with
      | none => x.1 < p
      | some b => x.1 < p && b.1 < x.1
    nextBelow p (if closer then some x else best) xs

/-- The sample at the next position above `p`. -/
def nextAbove (p : Int) (best : Option (Int × Nat)) : List (Int × Nat) → Option (Int × Nat)
  | [] => best
  | x :: xs =>
    let closer : Bool := match best with
      | none => p < x.1
      | some b => p < x.1 && x.1 < b.1
    nextAbove p (if closer then some x else best) xs

/-- Quotient of `n` by a negative `d`, to the nearest integer with halves away from zero. -/
def roundedQuotient (n d : Int) : Int :=
  let q : Nat := (2 * n.natAbs + d.natAbs) / (2 * d.natAbs)
  if 0 < n then -(q : Int) else q

/-- The offset of R98 from f−, f0 and f+, for fine step FS. -/
def peakOffset (fs : Nat) (below top above : Int) : Int :=
  let d := 2 * (below - 2 * top + above)
  if 0 ≤ d then 0
  else clampInt (roundedQuotient (fs * (below - above)) d) (-(fs / 2 : Nat)) (fs / 2 : Nat)

/-- The estimated peak p* (R98). -/
def estimatePeak (c : Chip) : Int :=
  let s := c.search
  match fineValues s with
  | [] =>
    match s.peaks.getD (s.chosen.getD 0) none with
    | some p => p.position
    | none => 0
  | x :: xs =>
    let m := greatest x xs
    let offset : Int := match nextBelow m.1 none (x :: xs), nextAbove m.1 none (x :: xs) with
      | some b, some a =>
        if m.1 - b.1 = s.kept.fine ∧ a.1 - m.1 = s.kept.fine then peakOffset s.kept.fine b.2 m.2 a.2 else 0
      | _, _ => 0
    limitFocusPosition c (m.1 + offset)

/-- FINISH: D is found from p*, now or at the next block-restored event (R99). -/
def applyFinish (c : Chip) : Chip :=
  let r := readTrack c.zoom.counter c
  match r.1 with
  | none => r.2
  | some t => finishSearch (invAt t r.2.search.peak) true r.2

def enterFinish (c : Chip) : Chip :=
  applyFinish (setSearch (fun s => { s with phase := .finish, peak := estimatePeak c }) c)

/-- Entry to FINE for the window whose peak is at `peak` (R97). -/
def enterFine (w : Nat) (peak : Int) (c : Chip) : Chip :=
  let cs : Int := c.search.kept.coarse
  let lo := max (peak - cs) c.search.lo
  let hi := min (peak + cs) c.search.hi
  let near := startsLow c.focus.counter lo hi
  let start := if near then lo else hi
  let c1 := setSearch (fun s => { s with
    phase := .fine, chosen := some w, fineLo := lo, fineHi := hi, sweepNear := near, wanted := start }) c
  if Config.maxSamples ≤ c1.search.record.length then enterFinish c1 else handTarget start c1

/-- The candidates of R96: (window, peak position). -/
def candidates (s : Search) : List (Nat × Int) :=
  (List.range 5).filterMap (fun w =>
    match s.peaks.getD w none with
    | some p => if p.passed && s.kept.minContrast ≤ p.maximum then some (w, p.position) else none
    | none => none)

/-- The candidate with the largest inv; a tie goes to the lower window number. -/
def nearest (t : TrackData) (best : Nat × Int) : List (Nat × Int) → Nat × Int
  | [] => best
  | x :: xs => if invAt t best.2 < invAt t x.2 then nearest t x xs else nearest t best xs

/-- CHOOSE, now or at the next block-restored event (R96). -/
def applyChoose (c : Chip) : Chip :=
  match candidates c.search with
  | [] => finishSearch (cfg c).focus.fallback false c
  | x :: xs =>
    let r := readTrack c.zoom.counter c
    match r.1 with
    | none => r.2
    | some t => let w := nearest t x xs; enterFine w.1 w.2 r.2

def enterChoose (c : Chip) : Chip := applyChoose (setSearch (fun s => { s with phase := .choose }) c)

/-! ### SEARCH_WAIT and the sweeps (R93, R94, R97) -/

/-- The check of SEARCH_WAIT (R93). -/
def searchWaitCheck (c : Chip) : Chip :=
  if c.search.phase = .searchWait ∧ zoomStill c.zoom = true then
    let r := readTrack c.zoom.counter c
    match r.1 with
    | none => r.2
    | some t =>
      let margin : Int := r.2.search.kept.margin
      let lo := limitFocusPosition r.2 (trackAt t 0 - margin)
      let hi := limitFocusPosition r.2 (trackAt t 448 + margin)
      let near := startsLow r.2.focus.counter lo hi
      let start := if near then lo else hi
      let c1 := setSearch (fun s => { s with
        phase := .coarse, lo := lo, hi := hi, sweepNear := near, wanted := start, motor := true }) r.2
      handTarget start { c1 with following := { c1.following with moving := false } }
  else c

/-- A block-restored event at a search (R93, R96, R99). -/
def searchBlockRestored (c : Chip) : Chip :=
  match c.search.phase with
  | .searchWait => searchWaitCheck c
  | .choose => applyChoose c
  | .finish => applyFinish c
  | .none | .coarse | .fine => c

def coarseSample (values : List Nat) (c : Chip) : Chip :=
  let position := c.focus.counter
  let c1 := setSearch (fun s => { s with
    record := s.record ++ [⟨position, values, false⟩],
    peaks := updatePeaks s.kept.drop position s.enabled values s.peaks }) c
  let s := c1.search
  let last := if s.sweepNear then s.hi else s.lo
  if allPassed s || position == last || Config.maxSamples ≤ s.record.length then enterChoose c1
  else
    let next := nextWanted s.sweepNear s.kept.coarse s.wanted last
    handTarget next { c1 with search := { s with wanted := next } }

def fineSample (values : List Nat) (c : Chip) : Chip :=
  let position := c.focus.counter
  let c1 := setSearch (fun s => { s with record := s.record ++ [⟨position, values, true⟩] }) c
  let s := c1.search
  let last := if s.sweepNear then s.fineHi else s.fineLo
  if position == last || Config.maxSamples ≤ s.record.length then enterFinish c1
  else
    let next := nextWanted s.sweepNear s.kept.fine s.wanted last
    handTarget next { c1 with search := { s with wanted := next } }

/-- A qualifying frame end at a search (R90). -/
def searchSample (values : List (Option Nat)) (c : Chip) : Chip :=
  if c.search.motor = true ∧ c.focus.state = .idle then
    match c.search.phase, enabledValues c.search.enabled values with
    | .coarse, some vs => coarseSample vs c
    | .fine, some vs => fineSample vs c
    | _, _ => c
  else c

/-! ### Beginning a search (R92, R105) -/

/-- The first condition of R92 that holds. -/
def searchRefusal (c : Chip) : Option Detail :=
  if c.tables.state ≠ .valid then some .noTables
  else if c.focus.state = .fault then some .focusFault
  else if c.focus.homed = false then some .focusNotHomed
  else if serviceInZoom c || serviceInFocus c then some .lensService
  else if c.zoom.state = .parking ∨ c.zoom.state = .parked then some .zoomParked
  else if burstInProgress c then some .burstActive
  else none

/-- A search begins (R92). -/
def beginSearch (o : SearchOrigin) (c : Chip) : Chip :=
  let c1 := setSearch (fun s => { s with
    phase := .searchWait, origin := o, kept := (cfg c).search, enabled := (cfg c).stats.enables,
    fromContinuous := o == .s1 && c.control.mode == .continuous, motor := false, record := [],
    peaks := List.replicate 5 none }) c
  searchWaitCheck (raise .searchHoldBegin
    (setControl (fun k => { k with mode := .search, result := .none }) c1))

/-- SEARCH (R92). A superseded search first gives the motor back to tracking (R100). -/
def takeSearch (c : Chip) : Chip :=
  match searchRefusal c with
  | some d => refuse .focus d c
  | none =>
    beginSearch .request
      (if searching c then retarget (setControl (fun k => { k with mode := .tracking }) (supersedeSearch c)) else c)

/-- CONTINUOUS_ON (R101). In CONTINUOUS too it is taken as an entry to CONTINUOUS, with the reset of one (DESIGN CHOICE, log 14). -/
def takeContinuousOn (c : Chip) : Chip :=
  let was := searching c
  let c1 := enterContinuous (lowestEnabled c) (supersedeSearch c)
  finish .focus .done .none (if was then retarget c1 else c1)

/-- No move can be made for SET_DISTANCE or RESUME_TRACKING (R81). -/
def cannotMove (c : Chip) : Bool :=
  !c.focus.homed || c.focus.state == .fault || c.zoom.state == .parking || c.zoom.state == .parked
    || serviceInFocus c

/-- The outcome of SET_DISTANCE and RESUME_TRACKING (R81). -/
def moveForRequest (c : Chip) : Chip :=
  if c.focus.state = .homing ∧ c.focus.homingGoal = .track then c
  else if cannotMove c then finish .focus .done .notMoved c
  else retarget c

/-- SET_DISTANCE. A step of following still in flight no longer sets D at its end (R81). -/
def takeSetDistance (d : Nat) (c : Chip) : Chip :=
  let c1 := setClamped .focus (448 < d) (supersedeSearch c)
  moveForRequest (watchAfresh (setControl (fun k => { k with distance := min d 448, mode := .manual }) c1))

def takeResumeTracking (c : Chip) : Chip :=
  moveForRequest (watchKeepingStep (setControl (fun k => { k with mode := .tracking }) (supersedeSearch c)))

def takeFocus (r : FocusRequest) (c : Chip) : Chip :=
  match r with
  | .setDistance d => takeSetDistance d c
  | .resumeTracking => takeResumeTracking c
  | .search => takeSearch c
  | .continuousOn => takeContinuousOn c

/-- A half press at Focus Search (R105). A refused one marks FOCUS, also when the refusal shown stays the same (DESIGN CHOICE,
log 14). -/
def searchHalfPress (c : Chip) : Chip :=
  if (cfg c).search.s1Focus = 1 ∧ (c.control.mode = .tracking ∨ c.control.mode = .continuous)
      ∧ searching c = false then
    match searchRefusal c with
    | some d => setSearch (fun s => { s with lastRefusal := d }) c
    | none => beginSearch .s1 (finish .focus .abandoned .s1Takeover c)
  else c

/-- A half press end at Focus Search (R105). -/
def searchHalfPressEnd (c : Chip) : Chip :=
  if c.search.origin = .s1 then endEarly .abandoned .s1Released c else c

/-! ### Continuous following (R101 to R104) -/

/-- The conditions under which following is active (R101). -/
def followingActive (c : Chip) : Bool :=
  c.control.mode == .continuous && !searching c && c.capture.state != .idle && c.focus.homed
    && (match c.focus.state with
        | .idle | .moving | .dwell => true
        | .lost | .homing | .fault => false)
    && !serviceInFocus c && c.zoom.state != .parking && c.zoom.state != .parked

/-- Following becomes active or inactive (R101). -/
def evalFollowing (c : Chip) : Chip :=
  if followingActive c = c.following.active then c
  else if followingActive c then setFollowing (fun w => { w with active := true }) c
  else watchKeepingStep (setFollowing (fun w => { w with active := false }) c)

/-- The episode ends with a move to its best position (R103). -/
def moveToBest (e : Episode) (c : Chip) : Chip :=
  handTarget e.bestPosition (setFollowing (fun w => { w with
    episode := some { e with ending := true }, moving := true }) c)

/-- The target of the next step of an episode. -/
def stepTarget (e : Episode) (c : Chip) : Int :=
  let fs : Int := (cfg c).search.fine
  limitFocusPosition c (if e.near then e.bestPosition + fs else e.bestPosition - fs)

def makeStep (e : Episode) (c : Chip) : Chip :=
  handTarget (stepTarget e c) (setFollowing (fun w => { w with
    episode := some { e with steps := e.steps + 1 }, moving := true }) c)

/-- The step cannot be made: the step count is 16 (log 14), or its limited target is the best position. -/
def stepBlocked (e : Episode) (c : Chip) : Bool := 16 ≤ e.steps || stepTarget e c == e.bestPosition

/-- A step that was not better (R103). -/
def stepNotBetter (e : Episode) (c : Chip) : Chip :=
  if e.reversed || e.improved then moveToBest e c
  else
    let e1 := { e with reversed := true, near := !e.near }
    if stepBlocked e1 c then moveToBest e1 c else makeStep e1 c

/-- The next step of an episode in its direction. -/
def nextStep (e : Episode) (c : Chip) : Chip :=
  if 16 ≤ e.steps then moveToBest e c
  else if stepTarget e c = e.bestPosition then stepNotBetter e c
  else makeStep e c

/-- The sample of a step (R103). -/
def stepSample (v : Nat) (e : Episode) (c : Chip) : Chip :=
  if e.bestValue < v then
    nextStep { e with bestValue := v, bestPosition := c.focus.counter, improved := true }
      (setFollowing (fun w => { w with lastNear := e.near }) c)
  else if 16 ≤ e.steps then moveToBest e c
  else stepNotBetter e c

/-- A sample in WATCH (R102). -/
def watchSample (v : Nat) (c : Chip) : Chip :=
  match c.following.reference with
  | none => setFollowing (fun w => { w with reference := some v, falls := 0 }) c
  | some r =>
    if r ≤ v then setFollowing (fun w => { w with reference := some v, falls := 0 }) c
    else if v < r * (100 - (cfg c).search.fall) / 100 then
      let c1 := setFollowing (fun w => { w with falls := w.falls + 1 }) c
      if c1.following.falls < 2 then c1
      else nextStep ⟨c1.following.lastNear, v, c1.focus.counter, false, false, 0, false⟩ c1
    else setFollowing (fun w => { w with falls := 0 }) c

/-- A qualifying frame end at continuous following (R102, R103). -/
def followingSample (values : List (Option Nat)) (c : Chip) : Chip :=
  if c.following.active = true ∧ c.focus.state = .idle then
    match values.getD c.following.window none, c.following.episode with
    | none, _ => c
    | some v, none => watchSample v c
    | some v, some e => if e.ending then c else stepSample v e c
  else c

/-- A frame end that qualifies (R90). -/
def focusSample (metered : Bool) (values : List (Option Nat)) (c : Chip) : Chip :=
  if metered = true ∧ c.focus.motion = false then followingSample values (searchSample values c) else c

/-- The Focus Drive enters IDLE: a step move, or the move to the best position, has ended (R103). -/
def followingMoveEnd (c : Chip) : Chip :=
  if c.following.moving then
    let c1 := { c with following := { c.following with moving := false } }
    let r := readTrack c1.zoom.counter c1
    let c2 := match r.1 with
      | none => r.2
      | some t => setControl (fun k => { k with distance := invAt t r.2.focus.counter }) r.2
    match c2.following.episode with
    | some e =>
      if e.ending then
        setFollowing (fun w => { w with reference := some e.bestValue, falls := 0, episode := none }) c2
      else c2
    | none => c2
  else c

/-- A SETTINGS change of R89 and R101. -/
def searchSettingsChanged (c : Chip) : Chip :=
  let c1 := watchKeepingStep (endEarly .abandoned .settingsChanged c)
  if (cfg c1).stats.enables.getD c1.following.window false then c1
  else setFollowing (fun w => { w with window := lowestEnabled c1, lastNear := true }) c1

/-- A search and continuous following at entry to STOPPING (R88, R106). -/
def stopSearch (c : Chip) : Chip :=
  let c1 := watchAfresh (endEarly .abandoned .stopped c)
  let c2 := setFollowing (fun w => { w with active := false }) c1
  setControl (fun k => { k with due := false, mode := if k.mode = .manual then .manual else .tracking }) c2

end Sys2Proof.Machine
end

