-- ==== Sys2Proof/Machine/Stabilizer.lean ====
section
/-! DEFINITION. Image Stabilizer (Chapter 8): gyro link, modes, the sample arithmetic, panning, residual and shake,
capture window, gains and credit. -/

namespace Sys2Proof.Machine

/-! ### Record (R140) -/

/-- Fields whose change marks STABILIZER at once. -/
def stabNow (s : Stab) : StabMode × Bool × Detail × Bool × Nat :=
  (s.mode, s.linkRunning, s.fault, s.shakeSeen, s.credit)

/-- An axis without its output target, which the record does not hold. -/
def axisShown (a : Axis) : Axis := { a with target := 0 }

/-- Fields whose changes are gathered. -/
def stabGathered (s : Stab) : Axis × Axis × Nat × Nat × Half × Nat × Nat × Nat :=
  (axisShown s.x, axisShown s.y, s.panRun, s.exitRun, s.samples, s.zone, s.kx, s.ky)

/-- STABILIZER is marked, and so are the changes gathered up to now. -/
def markStab (c : Chip) : Chip := mark .stabilizer { c with stab := { c.stab with gathered := false } }

def setStab (f : Stab → Stab) (c : Chip) : Chip :=
  let s := f c.stab
  let c1 := { c with stab := { s with gathered := c.stab.gathered || stabGathered s != stabGathered c.stab } }
  if stabNow s = stabNow c.stab then c1 else markStab c1

def markGatheredStab (c : Chip) : Chip := if c.stab.gathered then markStab c else c

/-! ### Modes and credit (R129, R138) -/

/-- The credit in force is handed to the Exposure Unit when it differs from the last value handed. -/
def handCredit (c : Chip) : Chip :=
  let v := if c.stab.mode = .active then (cfg c).stab.credit else 0
  if c.stab.credit = v then c else raise (.creditChange v) (setStab (fun s => { s with credit := v }) c)

def axes (f : Axis → Axis) (s : Stab) : Stab := { s with x := f s.x, y := f s.y }

/-- A mode change: the run counts become 0, OFF sets the angles to 0, and the target
is 0 in OFF, STARTING, STANDBY and FAULT (Table 8-2). Where the angle is set to 0 outside a sample, here and at a stop, s_raw stays
that of the last sample, since R132 makes it in a sample and no rule names it elsewhere (DESIGN CHOICE, log 29). -/
def setMode (m : StabMode) (c : Chip) : Chip :=
  if c.stab.mode = m then c
  else
    handCredit (setStab (fun s =>
      let s1 := { s with mode := m, panRun := 0, exitRun := 0 }
      match m with
      | .off => axes (fun a => { a with angle := 0, target := 0 }) s1
      | .standby | .fault => axes (fun a => { a with target := 0 }) s1
      | .starting => axes (fun a => { a with angle := 0, target := 0, residual := 0 }) s1
      | .active | .panning => s1) c)

/-- The mode follows the wanted mode (R129). -/
def followWanted (c : Chip) : Chip :=
  let w := wantedMode (cfg c).stab c.stab.engaged
  match c.stab.mode with
  | .off => if c.stab.linkRunning then setMode w c else c
  | .standby | .active => setMode w c
  | .panning => if w = .active then c else setMode w c
  | .starting | .fault => c

def captureEngaged (c : Chip) : Chip := followWanted (setStab (fun s => { s with engaged := true }) c)
def captureReleased (c : Chip) : Chip := followWanted (setStab (fun s => { s with engaged := false }) c)

/-! ### Gyro link (R126, R127) -/

/-- The configuration writes have ended: the link runs and the mode is STARTING (R126, R130, R139). A read that GYRO_LOST
left in flight goes on. -/
def gyroRunning (c : Chip) : Chip :=
  setMode .starting (setStab (fun s => { s with
    linkRunning := true, starting := false, configLeft := [], marked := false, fault := .none }) c)

/-- A gyro start: the configuration list and the rate address in force are taken (R125, R126). -/
def gyroStart (c : Chip) : Chip :=
  let writes := (cfg c).stab.config
  let c1 := setStab (fun s => { s with
    starting := true, configLeft := writes, rateAddress := (cfg c).stab.rateAddress }) c
  if writes.isEmpty then gyroRunning c1 else c1

/-- One configuration write has been made. -/
def gyroConfigWriteDone (c : Chip) : Chip :=
  if c.stab.starting then
    match c.stab.configLeft with
    | _ :: w :: ws => setStab (fun s => { s with configLeft := w :: ws }) c
    | _ => gyroRunning c
  else c

/-- A gyro stop has been reached: data-ready edges begin no further read. -/
def gyroStopping (s : Stab) : Bool :=
  match s.stopping with
  | .none | .waitDma => false
  | .waitRead | .writing | .done => true

def gyroDataReady (c : Chip) : Chip :=
  if c.stab.linkRunning && !gyroStopping c.stab then
    setStab (fun s => if s.reading then { s with marked := true } else { s with reading := true }) c
  else c

/-- No data-ready edge within 2000 µs while the link runs (R127). A read in flight goes on to its end, and its pair is to be
discarded. -/
def gyroLost (c : Chip) : Chip :=
  if c.stab.linkRunning then
    let c1 := setStab (fun s => { s with
      linkRunning := false, marked := false, discard := s.reading, fault := .gyroLost,
      window := s.window.map (fun w => { w with shakeHigh := true }) }) c
    let c2 := markStab (notice .fault (setMode .fault c1))
    match c2.service with
    | some w => if w.part = .stabilizer then finishService .failed .gyroLost c2 else c2
    | none => c2
  else c

/-- The stop write of the settings in force begins (R125, R126). -/
def beginStopWrite (t : StabSettings) (s : Stab) : Stab :=
  { s with reading := false, discard := false, stopping := .writing, stopWrite := some t.stopWrite }

/-- The gyro stop: a marked read is dropped, and a read in flight is awaited before the stop write (R126). -/
def gyroStop (c : Chip) : Chip :=
  setStab (fun s =>
    let s1 := { s with marked := false }
    if s.reading then { s1 with stopping := .waitRead } else beginStopWrite (cfg c).stab s1) c

def gyroStopWriteDone (c : Chip) : Chip :=
  if c.stab.stopping = .writing then
    setMode .off (setStab (fun s => { s with linkRunning := false, stopping := .done, stopWrite := none }) c)
  else c

/-! ### The sample (R131 to R135) -/

/-- Step 1: the bias. -/
def biasStep (mode : StabMode) (stillQ : Nat) (rate bias : Int) : Int :=
  let d := rate * 256 - bias
  match mode with
  | .starting => bias + d / 64
  | .off | .standby | .active | .panning => if d.natAbs < stillQ then bias + d / 4096 else bias
  | .fault => bias

/-- Step 2: the corrected rate. -/
def correctedRate (rate bias : Int) : Int := rate - bias / 256

/-- The leak shift of step 4. -/
def leakShift (s : Stab) (t : StabSettings) : Nat :=
  if s.window.isSome then 14 else if s.mode = .panning then 4 else t.leak

/-- Step 4: the angle. -/
def angleStep (s : Stab) (t : StabSettings) (rate angle : Int) : Int :=
  match s.mode with
  | .off | .starting => 0
  | .standby | .active | .panning =>
    let a := angle + rate
    clampInt (a - a / 2 ^ leakShift s t) (-Config.angleLimit) Config.angleLimit
  | .fault => angle

/-- The output moves toward its target by at most the slew limit (R133). -/
def slewToward (slew : Nat) (output target : Int) : Int :=
  if (target - output).natAbs ≤ slew then target
  else if output < target then output + slew else output - slew

/-- Steps 5 and 6 for one axis with its angle (R132, R133, R135). -/
def shiftStep (mode : StabMode) (t : StabSettings) (k : Nat) (a : Axis) : Axis :=
  let raw := a.angle * k / 65536
  let target := match mode with
    | .active | .panning => clampInt raw (-(t.sMax : Int)) t.sMax
    | .off | .starting | .standby | .fault => 0
  let e := raw - target
  { a with raw := raw, target := target, output := slewToward t.slew a.output target,
           residual := a.residual + (min (e * e) Config.residualMax - a.residual) / 16 }

/-- Step 3: the pan test (R134). It gives the counts, and whether the mode changes. -/
def panTest (s : Stab) (t : StabSettings) (rateX rateY : Int) : Stab × Option StabMode :=
  if s.window.isSome then (s, none)
  else match s.mode with
    | .active =>
      let n := if t.panRate < rateX.natAbs ∨ t.panRate < rateY.natAbs then s.panRun + 1 else 0
      ({ s with panRun := n }, if 0 < n ∧ t.nPan ≤ n then some .panning else none)
    | .panning =>
      let n := if rateX.natAbs < t.panRate / 2 ∧ rateY.natAbs < t.panRate / 2 then s.exitRun + 1 else 0
      ({ s with exitRun := n }, if 0 < n ∧ t.nExit ≤ n then some .active else none)
    | .off | .starting | .standby | .fault => (s, none)

/-- The mode change of a pan test. PANNING counts the STABILIZER notice (R134). -/
def panChange (m : Option StabMode) (c : Chip) : Chip :=
  match m with
  | some .panning => notice .stabilizer (setMode .panning c)
  | some n => setMode n c
  | none => c

/-- The shake marks after the residuals (R135, R136). -/
def shakeCheck (c : Chip) : Chip :=
  let q := max c.stab.x.residual c.stab.y.residual
  let high : Bool := (cfg c).stab.shake < q
  let c1 := setStab (fun s => { s with
    window := s.window.map (fun w => { w with qMax := max w.qMax q, shakeHigh := w.shakeHigh || high }) }) c
  if high && !c1.stab.shakeSeen then notice .stabilizer (setStab (fun s => { s with shakeSeen := true }) c1) else c1

/-- One sample for both axes (R131). A mode that the pan test changes brings its leak in step 4 of this sample (log 29). -/
def takeSample (rateX rateY : Int) (c : Chip) : Chip :=
  let t := (cfg c).stab
  let c1 := setStab (fun s => { s with
    samples := s.samples + 1,
    x := { s.x with bias := biasStep s.mode t.stillQ rateX s.x.bias },
    y := { s.y with bias := biasStep s.mode t.stillQ rateY s.y.bias } }) c
  let rx := correctedRate rateX c1.stab.x.bias
  let ry := correctedRate rateY c1.stab.y.bias
  let p := panTest c1.stab t rx ry
  let c2 := panChange p.2 (setStab (fun _ => p.1) c1)
  shakeCheck (setStab (fun s => { s with
    x := shiftStep s.mode t s.kx { s.x with angle := angleStep s t rx s.x.angle },
    y := shiftStep s.mode t s.ky { s.y with angle := angleStep s t ry s.y.angle } }) c2)

/-- A rate read ends: its pair is a sample, or is discarded by a gyro stop or after GYRO_LOST (R126, R127). -/
def gyroSample (rateX rateY : Int) (c : Chip) : Chip :=
  if c.stab.reading then
    if c.stab.stopping = .waitRead then setStab (beginStopWrite (cfg c).stab) c
    else if c.stab.discard || c.stab.mode == .fault then
      setStab (fun s => { s with reading := s.marked, marked := false, discard := false }) c
    else takeSample rateX rateY (setStab (fun s => { s with reading := s.marked, marked := false }) c)
  else c

/-- The learn timer expires (R130). -/
def learnTimer (c : Chip) : Chip :=
  if c.stab.mode = .starting then
    let c1 := notice .stabilizer (setMode (wantedMode (cfg c).stab c.stab.engaged) c)
    match c1.service with
    | some w => if w.part = .stabilizer then finishService .done .none c1 else c1
    | none => c1
  else c

/-- The ramp timer (R133). -/
def rampTimer (c : Chip) : Chip :=
  if c.stab.linkRunning then c
  else setStab (axes (fun a => { a with output := slewToward (cfg c).stab.slew a.output 0 })) c

/-! ### Capture window (R136) -/

def openWindow (c : Chip) : Chip :=
  setStab (fun s => { s with window := some ⟨s.mode, max s.x.residual s.y.residual, false⟩ }) c

def closeWindow (c : Chip) : Chip := setStab (fun s => { s with window := none }) c

/-! ### Gains (R137) -/

/-- Reads the gain pair of the stabilizer zone; "unavailable" leaves the pair in use. -/
def readGains (c : Chip) : Chip :=
  let r := readWord .zp (100 + c.stab.zone) c
  match r.1 with
  | some w => setStab (fun s => { s with kx := w % 65536, ky := w / 65536 }) r.2
  | none => r.2

def stabCrossing (zone : Nat) (c : Chip) : Chip := readGains (setStab (fun s => { s with zone := zone }) c)

/-! ### Service, settings, stop (R125, R139, R141) -/

def serviceRestartStabilizer (c : Chip) : Chip :=
  if c.stab.mode = .fault ∧ c.port.partState = .running then gyroStart c
  else refuse .service .notInFault { c with service := none }

def clearShake (c : Chip) : Chip := setStab (fun s => { s with shakeSeen := false }) c

/-- The Stabilizer at a SETTINGS request that becomes DONE. -/
def stabSettingsDone (old new : StabSettings) (c : Chip) : Chip :=
  let m : Int := new.sMax
  let c1 := if new.sMax < old.sMax then
      setStab (axes (fun a => { a with output := clampInt a.output (-m) m })) c
    else c
  let c2 := if old.mode = new.mode then c1 else followWanted c1
  if c2.stab.mode = .active then handCredit c2 else c2

/-- Entry to STOPPING. Configuration writes of a start that is in progress are dropped (log 29). -/
def stopStab (c : Chip) : Chip :=
  let c1 := setStab (fun s => axes (fun a => { a with angle := 0, target := 0 })
    { s with engaged := false, starting := false, configLeft := [], panRun := 0, exitRun := 0 }) c
  setMode .off c1

/-- The gyro part of the stop has ended. -/
def stabStopEnded (s : Stab) : Bool := s.stopping == .done && s.x.output == 0 && s.y.output == 0

end Sys2Proof.Machine
end

