-- ==== Sys2Proof/Machine/Zoom.lean ====
section
/-! DEFINITION. Zoom Drive (Chapter 4): counting, zones, moves and corrections, stalls, homing, parking, holds, cuts,
and what the drive does with requests, services, a start and a stop. -/

namespace Sys2Proof.Machine

/-- The zoom's own fields change. -/
def setZoom (f : Zoom → Zoom) (c : Chip) : Chip := { c with zoom := f c.zoom }

/-- What marks LENS when it changes: state, position known mark and fault detail (R69). -/
def zoomShown (z : Zoom) : ZoomState × Bool × Detail := (z.state, z.known, z.fault)

/-- The zoom is in state `s`, which marks LENS when it changes what R69 lists. -/
def enterZoom (s : ZoomState) (f : Zoom → Zoom) (c : Chip) : Chip :=
  let z := { f c.zoom with state := s }
  let c1 := { c with zoom := z }
  if zoomShown z = zoomShown c.zoom then c1 else markZoomPart c1

/-- The Zoom Drive's part of LENS as the drive stands (R69). -/
def zoomPartOf (z : Zoom) : ZoomPart :=
  { state := z.state, phase := z.phase, counter := z.counter, known := z.known, zone := z.zone, focalCode := z.focalCode,
    target := z.target, corrections := z.corrections, retries := z.retries, lastDrive := z.lastDrive, fault := z.fault }

def opposite : ZoomDir → ZoomDir
  | .tele => .wide
  | .wide => .tele

/-- A powered drive toward a goal begins. -/
def driveToward (d : ZoomDir) (z : Zoom) : Zoom := { z with motor := .drive d, lastDrive := d, goalDir := d }

def directionTo (t : Int) (z : Zoom) : ZoomDir := if z.counter < t then .tele else .wide

def distanceTo (t : Int) (z : Zoom) : Nat := (t - z.counter).natAbs

/-- The counter has passed `t` in direction `d`. -/
def hasPassed (d : ZoomDir) (t : Int) (z : Zoom) : Bool :=
  match d with
  | .tele => t < z.counter
  | .wide => z.counter < t

/-- The motor is powered, or in a brake pause inside a drive. -/
def isDriving (m : Motor) : Bool :=
  match m with
  | .drive _ | .reverse _ | .pause | .reversePause => true
  | .rest | .coast | .brake | .settle => false

/-- A driving phase goes to BRAKING; a braking or settling goes on (R58, R59, R66, R67). -/
def brakeIfDriving (z : Zoom) : Zoom :=
  if isDriving z.motor then { z with phase := if z.state = .moving then .braking else z.phase, motor := .brake } else z

/-! ### The end of moves -/

/-- At move end the focal length code of the current zone is read; "unavailable" keeps the code last read (R69). -/
def readFocalCode (c : Chip) : Chip :=
  let r := readWord .zp (132 + c.zoom.zone) c
  match r.1 with
  | some w => setZoom (fun z => { z with focalCode := w }) r.2
  | none => r.2

/-- Entry to IDLE: the brake is held, and zoom settled is raised (R57, R68). A SERVICE whose zoom part ends here goes on to
its focus part before a request held for the zoom is handed over (R64, R87). -/
def enterIdle (c : Chip) : Chip :=
  let c1 := enterZoom .idle (fun z => { z with
    phase := .none, motor := .rest, after := .none, holdMark := false, drift := false, afterHoming := false }) c
  raise .handHeld (raise .zoomServed (raise .zoomSettled (readFocalCode c1)))

/-! ### Moves (R56, R57) -/

/-- FAST or SLOW toward the target by the distance (R56). -/
def driveMove (z : Zoom) : Zoom :=
  driveToward (directionTo z.target z)
    { z with phase := if distanceTo z.target z > z.kept.slowDistance then .fast else .slow }

/-- A correction begins: the backing leg, skipped when the counter is already below it (R57). -/
def startCorrection (z : Zoom) : Zoom :=
  if z.counter ≤ z.target - z.kept.backlash then
    driveToward .tele { z with phase := .correcting, leg := .approach }
  else driveToward .wide { z with phase := .correcting, leg := .backing }

/-- The move is on target (R57). -/
def onTarget (z : Zoom) : Bool := distanceTo z.target z ≤ z.kept.tolerance && z.lastDrive == .tele

/-- A move toward the target begins from rest (R56). A drift open then is over, with no zoom settled event of its own, as at the
beginning of homing or of a park move (log 26). -/
def beginMove (c : Chip) : Chip :=
  let c1 := enterZoom .moving (fun z => { z with
    kept := (cfg c).zoom, corrections := 0, retries := 0, stallAt := none, after := .none,
    holdMark := false, drift := false, afterHoming := false }) c
  if onTarget c1.zoom then finish .zoom .done .none (enterIdle c1)
  else if distanceTo c1.zoom.target c1.zoom ≤ c1.zoom.kept.brakeLead then
    setZoom (fun z => startCorrection { z with corrections := 1 }) c1
  else setZoom driveMove c1

/-- The final check at the end of SETTLING (R57). -/
def finalCheck (c : Chip) : Chip :=
  if onTarget c.zoom then finish .zoom .done .none (enterIdle c)
  else if c.zoom.corrections < 2 then
    setZoom (fun z => startCorrection { z with corrections := z.corrections + 1, after := .none }) c
  else finish .zoom .done .offTarget (enterIdle c)

/-! ### Park and unpark moves (R64) -/

/-- The goal of a park or unpark move. -/
def parkGoal (z : Zoom) : Int := if z.state = .parking then z.kept.zPark else 0

/-- Drives at SLOW toward the goal, or brakes at once within the brake lead. -/
def drivePark (z : Zoom) : Zoom :=
  if distanceTo (parkGoal z) z ≤ z.kept.brakeLead then { z with motor := .brake }
  else driveToward (directionTo (parkGoal z) z) z

/-- The park or unpark move begins; `afterHoming` when it follows homing. -/
def beginPark (goal : HomingGoal) (afterHoming : Bool) (c : Chip) : Chip :=
  let f := fun z : Zoom => { z with
    phase := .none, kept := (cfg c).zoom, retries := 0, stallAt := none, holdMark := false, drift := false,
    fault := .none, afterHoming := afterHoming, homingStep := .none }
  match goal with
  | .park => setZoom drivePark (enterZoom .parking (fun z => { f z with after := .parked }) c)
  | .unpark => setZoom drivePark (enterZoom .unparking (fun z => { f z with after := .unparked }) c)

/-- Homing begins (R63). -/
def beginHoming (goal : HomingGoal) (c : Chip) : Chip :=
  enterZoom .homing (fun z =>
    let z := { z with
      phase := .none, kept := (cfg c).zoom, retries := 0, stallAt := none, holdMark := false, drift := false,
      known := false, fault := .none, after := .none, afterHoming := false, homingGoal := goal }
    match z.reference with
    | .inside => driveToward .tele { z with homingStep := .seekOut }
    | .out => driveToward .wide { z with homingStep := .seekIn }) c

/-! ### FAULT and LOST (R53, R65) -/

/-- The zoom enters FAULT, or takes a new detail in it (R65). Coasting or not, the motor is then braked (log 26). -/
def zoomFault (d : Detail) (c : Chip) : Chip :=
  let c1 := markZoomPart (enterZoom .fault (fun z => { z with
    phase := .none, motor := .brake, after := .none, fault := d, holdMark := false, drift := false,
    homingStep := .none, afterHoming := false, faultStop := false }) c)
  let c2 := finish .zoom .failed d (notice .fault c1)
  raise .handHeld (if serviceInZoom c2 || serviceInFocus c2 then finishService .failed d c2 else c2)

/-- The zoom enters LOST (R53). At a stop, homing to park follows at once (R70; log 26 for a LOST outside the park
move). -/
def enterLost (c : Chip) : Chip :=
  let c1 := enterZoom .lost (fun z => { z with
    phase := .none, motor := .brake, after := .none, known := false, holdMark := false, drift := false,
    afterHoming := false }) c
  let c2 := finish .zoom .failed .zoomLost (notice .fault c1)
  let c3 := if serviceInZoom c2 then finishService .failed .zoomLost c2 else c2
  raise .handHeld (if c3.port.partState = .stopping then beginHoming .park c3 else c3)

/-- The known position ends (R52, R53, R64, R65). -/
def endPosition (c : Chip) : Chip :=
  match c.zoom.state with
  | .fault => markZoomPart (setZoom (fun z => { z with known := false }) c)
  | .homing => zoomFault .lostInHoming (setZoom (fun z => { z with known := false }) c)
  | .parking | .unparking =>
    if c.zoom.afterHoming then zoomFault .lostInHoming (setZoom (fun z => { z with known := false }) c)
    else enterLost c
  | .lost | .idle | .moving | .held | .parked => enterLost c

/-- The known position ends; a lens table fault that waited for the end of braking follows at once (R65; log 26). -/
def losePosition (c : Chip) : Chip :=
  if c.zoom.after = .tableFault then zoomFault .lensTableFault (endPosition c) else endPosition c

/-! ### Counting (R52, R54) -/

def zoomCounts (z : Zoom) : Bool :=
  match z.state with
  | .idle | .moving | .held | .parking | .parked | .unparking | .homing => true
  | .fault => z.known
  | .lost => false

def outOfRange (c : Chip) : Bool := c.zoom.counter < -1024 || zMax c + 256 < c.zoom.counter

/-- The zone check: one crossing when the zone of the counter differs from the current zone (R54). -/
def zoneCheck (c : Chip) : Chip :=
  if c.zoom.known = false ∨ c.zoom.points = [] then c
  else
    let n := zoneOf c.zoom.points c.zoom.counter
    if n = c.zoom.zone then c
    else
      let d := if c.zoom.zone < n then ZoomDir.tele else .wide
      raise (.zoneCrossing n d) (setZoom (fun z => { z with zone := n }) c)

/-- The stall retry count becomes 0 when the counter is 40 counts past the stall position, in the direction of the goal of the
drive that stalled (R61; log 26). -/
def clearRetries (z : Zoom) : Zoom :=
  match z.stallAt with
  | some (p, .tele) => if p + Config.reversalCounts ≤ z.counter then { z with retries := 0, stallAt := none } else z
  | some (p, .wide) => if z.counter ≤ p - Config.reversalCounts then { z with retries := 0, stallAt := none } else z
  | none => z

/-- What a count does to the drive in progress: the phase changes of R56, the ends of correction legs (R57) and of
park moves (R64). -/
def advanceDrive (z : Zoom) : Zoom :=
  match z.motor with
  | .drive d =>
    match z.state with
    | .moving =>
      match z.phase with
      | .fast | .slow =>
        if hasPassed d z.target z || distanceTo z.target z ≤ z.kept.brakeLead then
          { z with phase := .braking, motor := .brake, after := .finalCheck }
        else if distanceTo z.target z ≤ z.kept.slowDistance then { z with phase := .slow } else z
      | .correcting =>
        match z.leg with
        | .backing => if z.counter ≤ z.target - z.kept.backlash then { z with motor := .pause } else z
        | .approach =>
          if z.target - z.kept.brakeLead ≤ z.counter then
            { z with phase := .braking, motor := .brake, after := .finalCheck }
          else z
      | .none | .braking | .settling => z
    | .parking | .unparking =>
      if hasPassed d (parkGoal z) z || distanceTo (parkGoal z) z ≤ z.kept.brakeLead then
        { z with motor := .brake }
      else z
    | .lost | .homing | .idle | .held | .parked | .fault => z
  | .reverse .tele =>
    if z.reversalFrom + Config.reversalCounts ≤ z.counter then { z with motor := .reversePause } else z
  | .reverse .wide =>
    if z.counter ≤ z.reversalFrom - Config.reversalCounts then { z with motor := .reversePause } else z
  | .rest | .coast | .brake | .settle | .pause | .reversePause => z

/-- Encoder motion in IDLE opens a drift (R68). -/
def openDrift (c : Chip) : Chip :=
  if c.zoom.state = .idle ∧ c.zoom.drift = false then
    raise .zoomStirred (setZoom (fun z => { z with drift := true }) c)
  else c

/-- One legal count (R52). -/
def zoomCount (step : Int) (c : Chip) : Chip :=
  if zoomCounts c.zoom then
    let c1 := setZoom (fun z => { z with counter := z.counter + step }) c
    if c1.zoom.known && outOfRange c1 then losePosition c1
    else setZoom (fun z => advanceDrive (clearRetries z)) (zoneCheck (openDrift c1))
  else c

/-- An encoder transition (R52). -/
def encoderStep (e : EncoderStep) (c : Chip) : Chip :=
  match e with
  | .tele => zoomCount 1 c
  | .wide => zoomCount (-1) c
  | .illegal => if c.zoom.known then losePosition c else c

/-! ### Reference sensor (R63) -/

/-- In step 2 of homing the barrel moves toward WIDE: in its drive, in a reversal toward WIDE, and in the brake pause that ends
such a reversal (section 4.1; log 26). -/
def movesWide (z : Zoom) : Bool :=
  match z.motor with
  | .drive _ | .reverse .wide => true
  | .reversePause => z.lastDrive == .wide
  | .reverse .tele | .rest | .coast | .brake | .settle | .pause => false

/-- The level of the reference sensor changes. The change from OUT to IN met in step 2 of homing while the barrel moves toward
WIDE is the reference edge (R63). -/
def referenceChange (level : SensorLevel) (c : Chip) : Chip :=
  let c1 := setZoom (fun z => { z with reference := level }) c
  match c.zoom.state, c.zoom.homingStep, level, c.zoom.motor with
  | .homing, .seekOut, .out, .drive _ => setZoom (fun z => { z with motor := .pause }) c1
  | .homing, .seekIn, .inside, _ =>
    if movesWide c.zoom then
      let c2 := setZoom (fun z => { z with counter := z.kept.zRef, known := true }) c1
      beginPark c.zoom.homingGoal true (zoneCheck c2)
    else c1
  | _, _, _, _ => c1

/-! ### Timers -/

/-- The drive goes on after the brake pause that ends a stall reversal (R61). Step 1 of homing has ended when the sensor
changed to OUT in the reversal (R63). -/
def resumeDrive (z : Zoom) : Zoom :=
  match z.state with
  | .moving =>
    match z.phase with
    | .fast | .slow => driveMove z
    | .correcting =>
      match z.leg with
      | .backing => driveToward .wide z
      | .approach => driveToward .tele z
    | .none | .braking | .settling => z
  | .homing =>
    match z.homingStep with
    | .seekOut =>
      if z.reference = .out then driveToward .wide { z with homingStep := .seekIn } else driveToward .tele z
    | .seekIn => driveToward .wide z
    | .none => z
  | .parking | .unparking => drivePark z
  | .lost | .idle | .held | .parked | .fault => z

/-- The drive goes on after a brake pause: the approach leg of a correction (R57), or step 2 of homing (R63). -/
def afterPause (z : Zoom) : Zoom :=
  match z.state with
  | .moving => driveToward .tele { z with leg := .approach }
  | .homing => driveToward .wide { z with homingStep := .seekIn }
  | .lost | .idle | .held | .parking | .parked | .unparking | .fault => z

/-- 5 ms without an encoder edge (R51, R56). R51 names no command for the settling of PARKING and UNPARKING (R64); the motor coasts
there as in that of MOVING (DESIGN CHOICE, log 26). -/
def brakeTimer (c : Chip) : Chip :=
  match c.zoom.motor with
  | .brake =>
    match c.zoom.state with
    | .lost | .fault => setZoom (fun z => { z with motor := .coast }) c
    | .homing | .idle | .moving | .held | .parking | .parked | .unparking =>
      if c.zoom.after = .tableFault then zoomFault .lensTableFault c
      else setZoom (fun z => { z with
        phase := if z.state = .moving then .settling else z.phase, motor := .settle }) c
  | .pause => setZoom afterPause c
  | .reversePause => setZoom resumeDrive c
  | .rest | .coast | .drive _ | .settle | .reverse _ => c

/-- The end of SETTLING of a move that begins anew: HELD while the hold stands (R66). -/
def restartOrHold (c : Chip) : Chip :=
  if c.zoom.holdMark then
    enterZoom .held (fun z => { z with phase := .none, motor := .rest, after := .none, holdMark := false }) c
  else beginMove c

/-- 15 ms without an edge in SETTLING: the barrel is at rest (R57 to R59, R63, R64, R66, R67). The park move that follows an
unpark move is no longer one that follows homing (log 26). -/
def settleTimer (c : Chip) : Chip :=
  if c.zoom.motor = .settle then
    match c.zoom.after with
    | .finalCheck => finalCheck c
    | .restart => restartOrHold c
    | .stop => finish .zoom .done .none (enterIdle c)
    | .cut => enterIdle c
    | .home g => beginHoming g c
    | .park => beginPark .park false c
    | .unpark => beginPark .unpark false c
    | .parked =>
      raise .handHeld (raise .zoomServed (readFocalCode
        (enterZoom .parked (fun z => { z with motor := .rest, after := .none, afterHoming := false }) c)))
    | .unparked => enterIdle c
    | .none | .tableFault => c
  else c

/-- The direction the motor is powered in. -/
def poweredDir (m : Motor) : Option ZoomDir :=
  match m with
  | .drive d | .reverse d => some d
  | .rest | .coast | .brake | .settle | .pause | .reversePause => none

/-- A stall (R61). -/
def stallTimer (c : Chip) : Chip :=
  match poweredDir c.zoom.motor with
  | none => c
  | some d =>
    let c1 := count .zoomStall c
    if c1.zoom.kept.retryLimit ≤ c1.zoom.retries then zoomFault .stall c1
    else setZoom (fun z => { z with
      retries := z.retries + 1, stallAt := some (z.counter, z.goalDir), reversalFrom := z.counter,
      motor := .reverse (opposite d), lastDrive := opposite d }) c1

/-- 4000 ms of homing without the reference edge (R63). -/
def homingTimeout (c : Chip) : Chip :=
  if c.zoom.state = .homing then zoomFault .homingTimeout c else c

/-- 15 ms without an edge end a drift (R68). -/
def driftEnd (c : Chip) : Chip :=
  if c.zoom.state = .idle ∧ c.zoom.drift = true then
    raise .zoomSettled (markZoomPart (setZoom (fun z => { z with drift := false }) c))
  else c

/-! ### Requests (R58 to R60) -/

/-- The target of a request, and whether it was limited (R59). -/
def zoomTarget (r : ZoomRequest) (c : Chip) : Int × Bool :=
  match r with
  | .goto p => let t := clampInt p 0 (zMax c); (t, t != p)
  | .gotoZone z => let n := clampInt z 0 31; ((c.zoom.points.getD n.toNat 0 : Nat), n != z)
  | .run d => let n := clampInt d 0 1; (if n = 0 then zMax c else 0, n != d)
  | .stop => (c.zoom.target, false)

/-- What follows the braking when `a` is asked for: a lens table fault that waits for the end of braking stands (R65; log 26). -/
def unlessTableFault (a : AfterSettle) (z : Zoom) : AfterSettle := if z.after = .tableFault then .tableFault else a

/-- A new target reaching a MOVING drive (R58). -/
def retargetMove (t : Int) (z : Zoom) : Zoom :=
  let z1 := { z with target := t }
  let continues : Bool := match z.motor with
    | .drive d => (z.phase == .fast || z.phase == .slow) && d == directionTo t z
        && distanceTo t z > z.kept.brakeLead && t != z.counter
    | _ => false
  if continues then
    { z1 with corrections := 0, phase := if distanceTo t z > z.kept.slowDistance then .fast else .slow }
  else brakeIfDriving { z1 with after := unlessTableFault .restart z, faultStop := false }

/-- GOTO, GOTO_ZONE and RUN by zoom state (R60). -/
def takeZoomMove (r : ZoomRequest) (c : Chip) : Chip :=
  if c.tables.state ≠ .valid then refuse .zoom .noTables c
  else
    let t := zoomTarget r c
    match c.zoom.state with
    | .idle => beginMove (setZoom (fun z => { z with target := t.1 }) (setClamped .zoom t.2 c))
    | .moving => setZoom (retargetMove t.1) (setClamped .zoom t.2 c)
    | .held => setZoom (fun z => { z with target := t.1 }) (setClamped .zoom t.2 c)
    | .parked => refuse .zoom .zoomParked c
    | .lost => refuse .zoom .zoomLost c
    | .fault => refuse .zoom .zoomFault c
    | .homing | .parking | .unparking => c

/-- STOP by zoom state (R59, R60). In the braking toward FAULT it becomes ACTIVE, and FAULT ends it (R65). -/
def takeZoomStop (c : Chip) : Chip :=
  match c.zoom.state with
  | .idle | .parked => finish .zoom .done .none c
  | .held => finish .zoom .done .none (enterIdle c)
  | .moving =>
    setZoom (fun z => brakeIfDriving { z with
      after := unlessTableFault .stop z, faultStop := z.after == .tableFault, holdMark := false }) c
  | .lost => refuse .zoom .zoomLost c
  | .fault => refuse .zoom .zoomFault c
  | .homing | .parking | .unparking => c

def takeZoom (r : ZoomRequest) (c : Chip) : Chip :=
  match r with
  | .goto p => takeZoomMove (.goto p) c
  | .gotoZone z => takeZoomMove (.gotoZone z) c
  | .run d => takeZoomMove (.run d) c
  | .stop => takeZoomStop c

/-- Homing, parking or unparking, or braking for one of them: a ZOOM request is held with HELD_ZOOM_BUSY (R60; log 13). -/
def zoomBusy (z : Zoom) : Bool :=
  match z.state with
  | .homing | .parking | .unparking => true
  | .moving =>
    match z.after with
    | .home _ | .park | .unpark => true
    | .none | .finalCheck | .restart | .stop | .cut | .parked | .unparked | .tableFault => false
  | .lost | .idle | .held | .parked | .fault => false

/-- The braking of a move toward FAULT (R65). -/
def brakesTowardFault (z : Zoom) : Bool := z.state == .moving && z.after == .tableFault

/-- A ZOOM request held with HELD_ZOOM_BUSY stays held until IDLE, PARKED, LOST or FAULT is entered, so through the braking
toward FAULT too (R60). -/
def zoomBusyStands (z : Zoom) : Bool := zoomBusy z || brakesTowardFault z

/-! ### Capture, tables, service, start and stop -/

/-- A cut at full press: the ZOOM request ends at the cut itself, unless it is a STOP (R67; log 26). The braking toward FAULT goes
on to FAULT (R65; log 13). -/
def cutZoom (c : Chip) : Chip :=
  match c.zoom.state with
  | .moving =>
    if zoomBusy c.zoom || c.zoom.after == .stop || (brakesTowardFault c.zoom && c.zoom.faultStop) then c
    else if brakesTowardFault c.zoom then finish .zoom .abandoned .cutByCapture c
    else finish .zoom .abandoned .cutByCapture
      (setZoom (fun z => brakeIfDriving { z with after := .cut, holdMark := false }) c)
  | .held => finish .zoom .abandoned .cutByCapture (enterIdle c)
  | .idle | .homing | .parking | .unparking | .parked | .lost | .fault => c

/-- Block-lost during a ZOOM move makes the drive hold (R66). A drive that brakes or settles for a STOP serves the move no
more: the event is ignored there, and the drive becomes IDLE as R59 has it (log 26). -/
def holdZoom (c : Chip) : Chip :=
  if c.zoom.state = .moving then
    match c.zoom.after with
    | .none | .finalCheck | .restart =>
      setZoom (fun z => brakeIfDriving { z with after := .restart, holdMark := true }) c
    | .stop | .cut | .home _ | .park | .unpark | .parked | .unparked | .tableFault => c
  else c

/-- All-valid resumes a HELD drive, or ends the hold before it is HELD (R66). -/
def resumeZoom (c : Chip) : Chip :=
  match c.zoom.state with
  | .held => beginMove c
  | _ => setZoom (fun z => { z with holdMark := false }) c

/-- Reads the 33 zoom points; an unavailable read leaves the copy as it is (R54). -/
def reloadPoints (c : Chip) : Chip :=
  let r := readWords .zp (fieldsAt id 3 1 33) c
  match allOf r.1 with
  | some ps => setZoom (fun z => { z with points := ps }) r.2
  | none => r.2

/-- Block-restored for ZP: new points in the copy are checked once (R54). -/
def zoomPointsRestored (c : Chip) : Chip :=
  let c1 := reloadPoints c
  if c1.zoom.points = c.zoom.points then c1 else zoneCheck c1

/-- A tables-replaced event (R54, R66). -/
def zoomTablesReplaced (c : Chip) : Chip :=
  let c1 := reloadPoints c
  match c1.zoom.state with
  | .held =>
    beginMove (setZoom (fun z => { z with target := clampInt z.target 0 (zMax c1) }) (zoneCheck c1))
  | .idle | .parked | .lost | .fault =>
    if c1.zoom.known && outOfRange c1 then losePosition c1 else zoneCheck c1
  | .homing | .moving | .parking | .unparking => zoneCheck c1

/-- A lens table fault event (R65). In SETTLING the motor is braked again, until 5 ms pass without an edge. Whether a HOMING drive
still takes a reference edge that it meets in this braking is not said; homing has ended here, so the edge sets neither the counter
nor the known mark (DESIGN CHOICE, log 26). -/
def zoomTableFault (c : Chip) : Chip :=
  match c.zoom.state with
  | .moving | .homing | .parking | .unparking =>
    setZoom (fun z => { z with
      phase := if z.state = .moving then .braking else z.phase, motor := .brake, after := .tableFault,
      faultStop := z.after == .stop || (brakesTowardFault z && z.faultStop), holdMark := false, homingStep := .none }) c
  | .idle | .held | .parked | .lost | .fault => zoomFault .lensTableFault c

/-- The drive brakes before `a`; a lens table fault that waits for the end of braking stands (R65; log 26). -/
def brakeBefore (a : AfterSettle) (z : Zoom) : Zoom :=
  brakeIfDriving { z with after := unlessTableFault a z, holdMark := false }

/-- The active ZOOM request ends at a takeover, and the drive brakes before `a` (R63, R64). -/
def takeOver (a : AfterSettle) (c : Chip) : Chip :=
  finish .zoom .abandoned .serviceTakeover (setZoom (brakeBefore a) c)

/-- The SERVICE request in its zoom part is refused. -/
def refuseService (d : Detail) (c : Chip) : Chip := refuse .service d { c with service := none }

/-- A HELD drive brakes and settles before `a`. It is MOVING in BRAKING and then in SETTLING meanwhile (R63; log 26). -/
def brakeFromHeld (a : AfterSettle) (c : Chip) : Chip :=
  enterZoom .moving (fun z => { z with phase := .braking, motor := .brake, after := a, holdMark := false }) c

/-- REHOME_LENS at the Zoom Drive (R63, R64). -/
def serviceRehome (c : Chip) : Chip :=
  if c.tables.state ≠ .valid then refuseService .noTables c
  else match c.zoom.state with
    | .moving => takeOver (.home .unpark) c
    | .held => finish .zoom .abandoned .serviceTakeover (brakeFromHeld (.home .unpark) c)
    | .idle | .parked | .lost | .fault | .homing | .parking | .unparking => beginHoming .unpark c

/-- PARK at the Zoom Drive (R64). -/
def servicePark (c : Chip) : Chip :=
  match c.zoom.state with
  | .idle => beginPark .park false c
  | .held => beginPark .park false (finish .zoom .abandoned .serviceTakeover c)
  | .moving => takeOver .park c
  | .unparking => setZoom (brakeBefore .park) c
  | .lost => beginHoming .park c
  | .parked => raise .zoomServed c
  | .fault => refuseService .zoomFault c
  | .homing => setZoom (fun z => { z with homingGoal := .park }) c
  | .parking => c

/-- UNPARK at the Zoom Drive. NO_TABLES precedes ZOOM_LOST and ZOOM_FAULT (R64; log 26). -/
def serviceUnpark (c : Chip) : Chip :=
  if c.tables.state ≠ .valid then refuseService .noTables c
  else match c.zoom.state with
    | .parked => beginPark .unpark false c
    | .idle | .moving | .held => raise .zoomServed c
    | .lost => refuseService .zoomLost c
    | .fault => refuseService .zoomFault c
    | .parking => setZoom (brakeBefore .unpark) c
    | .homing => setZoom (fun z => { z with homingGoal := .unpark }) c
    | .unparking => c

/-- Start step 5 (R70). -/
def startZoom (c : Chip) : Chip :=
  match c.zoom.state with
  | .lost => beginHoming .unpark c
  | .parked => beginPark .unpark false c
  | .idle | .fault | .homing | .moving | .held | .parking | .unparking => c

/-- Start step 5 has reached its goal (R70). -/
def zoomStartEnded (z : Zoom) : Bool :=
  match z.state with
  | .idle | .parked | .fault => true
  | .lost | .homing | .moving | .held | .parking | .unparking => false

/-- The zoom at entry to STOPPING (R70). -/
def stopZoom (c : Chip) : Chip :=
  match c.zoom.state with
  | .moving | .unparking => setZoom (brakeBefore .park) c
  | .held | .idle => beginPark .park false c
  | .lost => beginHoming .park c
  | .homing => setZoom (fun z => { z with homingGoal := .park }) c
  | .parking | .parked | .fault => c

/-- The zoom part of the stop has ended (R70). -/
def zoomStopEnded (z : Zoom) : Bool := z.state == .parked || z.state == .fault

end Sys2Proof.Machine
end

