-- ==== Sys2Proof/Machine/Capture.lean ====
section
/-! DEFINITION. Capture Control (Chapter 9): lines and presses, bursts, claims, picture completion and failure, and the
freeing of slots. -/

namespace Sys2Proof.Machine

/-! ### Record (R155) -/

structure CaptureShown where
  state : CaptureState
  s1 : Bool
  s2 : Bool
  press : Press
  spent : Bool
  rate : Option Nat
  pictures : Nat
  left : Nat
  unconfirmed : Bool
  next : Word
  last : Word
  refusal : Detail
  deriving DecidableEq, Repr

def captureShown (k : Capture) : CaptureShown :=
  { state := k.state, s1 := k.s1.pressed, s2 := k.s2.pressed, press := k.press, spent := k.spent, rate := k.burst.rate,
    pictures := k.burst.pictures, left := k.left, unconfirmed := k.burst.unconfirmed, next := k.nextNumber,
    last := k.lastNumber, refusal := k.lastRefusal }

/-- CAPTURE is marked at each change of the fields it holds. -/
def setCapture (f : Capture → Capture) (c : Chip) : Chip :=
  let c1 := { c with capture := f c.capture }
  if captureShown c1.capture = captureShown c.capture then c1 else mark .capture c1

def setBurst (f : Burst → Burst) (c : Chip) : Chip := setCapture (fun k => { k with burst := f k.burst }) c

/-! ### Freeing (R154) -/

/-- The freeing rule is applied to a slot. -/
def applyFreeing (n : Nat) (c : Chip) : Chip :=
  if freeingRule (slot c n) (c.capture.releases.getD n 0) then setSlot n { slot c n with state := .free } c else c

/-- The freeing rule is applied to `n` slots from slot `i`. -/
def applyFreeingFrom (i : Nat) : Nat → Chip → Chip
  | 0, c => c
  | n + 1, c => applyFreeingFrom (i + 1) n (applyFreeing i c)

/-- The release count table read ends (R154). -/
def releaseCountsRead (counts : List Half) (c : Chip) : Chip :=
  applyFreeingFrom 0 (cfg c).pool.slotCount { c with capture := { c.capture with releases := counts } }

/-! ### Burst rate (R148) -/

/-- Intervals of Table 9-3, in µs. -/
def intervals : List Nat := [1000000, 500000, 333333, 250000, 200000, 142857, 100000, 83333]

def highestSupportable (need : Nat) : Nat :=
  (((List.range 8).filter (fun i => need ≤ intervals.getD i 0)).getLast?).getD 0

def chooseRate (mask need : Nat) : Nat :=
  let top := highestSupportable need
  match ((List.range 8).filter (fun i => mask.testBit i && i ≤ top)).getLast? with
  | some i => i
  | none => ((List.range 8).find? (fun i => mask.testBit i)).getD 0

/-- The burst goes to WAIT_FRAME with its rate chosen; the first picture may come from now on. -/
def enterWaitFrame (unconfirmed : Bool) (c : Chip) : Chip :=
  let need := max (framePeriod (cfg c).sensor)
    ((match c.exposure.applied with
      | some t => t.timeUs
      | none => 0) + c.capture.burst.readout)
  setCapture (fun k => { k with
    state := .waitFrame,
    burst := { k.burst with
      rate := some (chooseRate k.burst.rateMask need), earliest := some c.now,
      unconfirmed := k.burst.unconfirmed || unconfirmed } }) c

/-! ### Burst end (R152) -/

/-- The capture state after a burst, and the events of its end. The rate index and the FOCUS_UNCONFIRMED mark stay shown (log
16). -/
def leaveBurst (c : Chip) : Chip :=
  let c1 := setBurst (fun b => { b with delayed := false, released := false }) c
  if halfHeld c1.capture then raise .burstEnd (setCapture (fun k => { k with state := .prepared }) c1)
  else raise .burstEnd (raise .captureReleased (raise .halfPressEnd
    (setCapture (fun k => { k with state := .idle }) c1)))

/-- A full press ends: the spent mark is set while S2 is qualified PRESSED (R144), and the remaining count shows 0 (log 16). -/
def spendPress (c : Chip) : Chip :=
  setCapture (fun k => { k with press := .none, spent := k.spent || k.s2.pressed, count := 0, left := 0 }) c

/-- The burst ends by its count (R152). -/
def endBurstByCount (c : Chip) : Chip := leaveBurst (finish .capture .done .none (spendPress c))

/-- A picture of the burst has been completed or has failed: WAIT_FRAME, or the end of the burst (R151 to R153). -/
def afterPicture (c : Chip) : Chip :=
  let counted : Bool := c.capture.press == .full && 0 < c.capture.left
  let c1 := setCapture (fun k => { k with filling := none, left := k.left - 1 }) c
  if counted && c1.capture.left == 0 then endBurstByCount c1
  else if c1.capture.burst.released then leaveBurst c1
  else setCapture (fun k => { k with state := .waitFrame }) c1

/-- The burst ends with the picture in FILLING (R151). -/
def endsWithPicture (k : Capture) : Bool := k.burst.released || (k.press == .full && k.left == 1)

/-- The stream state becomes FAULT during a burst (R152). -/
def captureStreamFault (c : Chip) : Chip :=
  if burstInProgress c then
    let c1 := if c.capture.press = .full then finish .capture .failed .noStream (spendPress c)
      else setCapture (fun k => { k with spent := k.spent || k.s2.pressed }) c
    leaveBurst c1
  else c

/-! ### Burst start (R146, R147) -/

/-- The focus is settled for WAIT_ZOOM. -/
def focusSettled (c : Chip) : Bool :=
  searching c || (match c.focus.state with
    | .idle => !c.control.due
    | .lost | .fault => true
    | .homing | .moving | .dwell => false)

/-- The search is abandoned for the burst (R147). -/
def abandonSearch (c : Chip) : Chip := enterWaitFrame true (endEarly .abandoned .cutByCapture c)

/-- The check of WAIT_ZOOM (R146). -/
def waitZoomCheck (c : Chip) : Chip :=
  if c.capture.state = .waitZoom ∧ zoomStill c.zoom = true ∧ focusSettled c = true then
    if searching c then
      if c.capture.burst.priority = 1 ∧ c.capture.burst.focusWait ≠ 0 then
        setCapture (fun k => { k with state := .waitFocus }) c
      else abandonSearch c
    else enterWaitFrame false c
  else c

/-- A burst starts (R146). The entry check follows the events of the cut (log 16). -/
def beginBurst (c : Chip) : Chip :=
  let s := (cfg c).capture
  raise .waitZoomCheck (cutZoom (setCapture (fun k => { k with
    state := .waitZoom,
    burst := { priority := s.priority, focusWait := s.focusWait, rateMask := s.rateMask, readout := s.readout } }) c))

/-- The search that WAIT_FOCUS waits for is over (R147). -/
def captureSearchOver (confirmed : Bool) (c : Chip) : Chip :=
  if c.capture.state = .waitFocus then enterWaitFrame (!confirmed) c else c

/-- The focus wait limit expires (R147). -/
def focusWaitTimer (c : Chip) : Chip :=
  if c.capture.state = .waitFocus then abandonSearch c else c

/-! ### Presses (R144, R145) -/

/-- Capture Control acts on a change of half press held and full press held, while the part is RUNNING. -/
def evalPress (wasHalf wasFull : Bool) (c : Chip) : Chip :=
  if c.port.partState = .running then
    let half := halfHeld c.capture
    let full := fullHeld c.capture
    match c.capture.state with
    | .idle =>
      if half && !wasHalf then
        let c1 := raise .halfPress (raise .captureEngaged (setCapture (fun k => { k with state := .prepared }) c))
        if full then raise (.pressChange true false) c1 else c1
      else c
    | .prepared =>
      if full && !wasFull then beginBurst c
      else if half then c
      else raise .captureReleased (raise .halfPressEnd (setCapture (fun k => { k with state := .idle }) c))
    | .filling =>
      if full || !wasFull then c else setBurst (fun b => { b with released := true }) c
    | .waitZoom | .waitFocus | .waitFrame | .waitRoom => if full || !wasFull then c else leaveBurst c
  else c

/-- The presses change by `f`. -/
def changePress (f : Capture → Capture) (c : Chip) : Chip :=
  evalPress (halfHeld c.capture) (fullHeld c.capture) (setCapture f c)

def setLine (b : Button) (l : Line) (k : Capture) : Capture :=
  match b with
  | .s1 => { k with s1 := l }
  | .s2 => { k with s2 := l }

def lineOf (b : Button) (k : Capture) : Line :=
  match b with
  | .s1 => k.s1
  | .s2 => k.s2

/-- A line takes its raw level as its qualified level; S2 RELEASED clears the spent mark (R143, R144). -/
def takeLevel (b : Button) (c : Chip) : Chip :=
  changePress (fun k =>
    let l := lineOf b k
    let k1 := setLine b { l with timing := false, pressed := l.raw } k
    if b = .s2 ∧ l.raw = false then { k1 with spent := false } else k1) c

/-- A raw level change (R143). -/
def buttonChange (b : Button) (pressed : Bool) (c : Chip) : Chip :=
  let l := lineOf b c.capture
  if l.raw = pressed then c
  else
    let c1 := setCapture (setLine b { l with raw := pressed }) c
    if pressed = l.pressed then setCapture (setLine b { l with raw := pressed, timing := false }) c
    else if (cfg c).capture.qualification = 0 then takeLevel b c1
    else setCapture (setLine b { l with raw := pressed, timing := true }) c

/-- The qualification time of a line has passed (R143). -/
def qualificationTimer (b : Button) (c : Chip) : Chip :=
  if (lineOf b c.capture).timing then takeLevel b c else c

/-! ### Requests (R144) -/

/-- Each refusal of a CAPTURE request writes its detail to the last refusal detail. -/
def refuseCapture (d : Detail) (c : Chip) : Chip :=
  refuse .capture d (setCapture (fun k => { k with lastRefusal := d }) c)

/-- PREPARE. A full press by request ends here, and the remaining count shows 0 (R144; log 16). -/
def takePrepare (c : Chip) : Chip :=
  changePress (fun k => { k with press := .half, count := 0, left := 0 }) (finish .capture .done .none c)

/-- START_BURST. The count is the remaining count shown in CAPTURE. It shows 0 for the unlimited START_BURST of count 0, and in
a burst of S2, which has no count; R155 gives it no value there (log 16). -/
def takeStartBurst (n : Nat) (c : Chip) : Chip :=
  if c.pixel.stream = .fault then refuseCapture .noStream c
  else changePress (fun k => { k with press := .full, count := n, left := n }) c

/-- STOP. A full press by request ends here, and the remaining count shows 0 (R144; log 16). -/
def takeCaptureStop (c : Chip) : Chip :=
  changePress (fun k => { k with press := .none, count := 0, left := 0 }) (finish .capture .done .none c)

def takeCapture (r : CaptureRequest) (c : Chip) : Chip :=
  match r with
  | .prepare => takePrepare c
  | .startBurst n => takeStartBurst n c
  | .stop => takeCaptureStop c

/-! ### One picture (R149, R150) -/

def lowestFree (c : Chip) : Option Nat :=
  (List.range (cfg c).pool.slotCount).find? (fun n => (slot c n).state == .free)

/-- The picture record at the claim (Table 9-4). Fields taken later start cleared (log 16). -/
def claimedRecord (n : Nat) (frame : Word) (effective : Option Triple) (c : Chip) : PictureRecord :=
  let t := effective.getD { xt := 0, xg := 0, xa := 0 }
  let b := c.capture.burst
  { number := c.capture.nextNumber, frame := frame, fill := (slot c n).fill + 1, state := .filling, result := .filling,
    flags := {
      focusUnconfirmed := b.unconfirmed, exposureLimited := t.limited, exposureShortfall := t.shortfall,
      flickerDeficit := t.deficit, delayed := b.delayed, burstFirst := b.pictures == 0,
      storeOn := (cfg c).pool.storeMode == 1, autoRelease := (cfg c).pool.autoRelease == 1 },
    rate := b.rate,
    shot := {
      xt := t.xt, xg := t.xg, xa := t.xa, gainCode := t.gainCode, timeUs := t.timeUs, iris := t.iris,
      zone := c.zoom.zone, focusResult := c.control.result, zoom := c.zoom.counter,
      focus := c.focus.counter, distance := c.control.distance } }

/-- A claim (R150). It sets the last picture number (log 16). -/
def claim (n : Nat) (time : Nat) (frame : Word) (effective : Option Triple) (c : Chip) : Chip :=
  let c1 := setSlot n (claimedRecord n frame effective c) c
  setCapture (fun k => { k with
    state := .filling, filling := some n, lastNumber := k.nextNumber, nextNumber := k.nextNumber + 1,
    burst := { k.burst with
      pictures := k.burst.pictures + 1, previousStart := some time, delayed := false,
      earliest := some (time + intervals.getD (k.burst.rate.getD 0) 0) } }) c1

/-- Time for the next picture has come (R149). -/
def pictureDue (time : Nat) (b : Burst) : Bool :=
  match b.earliest with
  | none => true
  | some t => t ≤ time

/-- Capture Control at frame start `frame`: the check of WAIT_ZOOM, then a claim (R146, R149). -/
def captureFrameStart (time : Nat) (frame : Word) (effective : Option Triple) (c0 : Chip) : Chip :=
  let c := waitZoomCheck c0
  match c.capture.state with
  | .waitFrame =>
    if pictureDue time c.capture.burst then
      match lowestFree c with
      | some n => claim n time frame effective c
      | none => setCapture (fun k => { k with state := .waitRoom, burst := { k.burst with delayed := true } }) c
    else c
  | .waitRoom =>
    match lowestFree c with
    | some n => claim n time frame effective c
    | none => c
  | .idle | .prepared | .waitZoom | .waitFocus | .filling => c

/-! ### Completion, failure, abandonment (R151, R153, R155) -/

/-- The window summary in the picture record (Table 9-4). -/
def withSummary (w : Option Window) (p : PictureRecord) : PictureRecord :=
  match w with
  | none => p
  | some v => { p with stabMode := v.mode, qMax := v.qMax.toNat, flags := { p.flags with shakeHigh := v.shakeHigh } }

/-- A slot joins the store queue (R157). -/
def joinQueue (n : Nat) (c : Chip) : Chip :=
  raise .cardWork (mark .store { c with store := { c.store with queue := c.store.queue ++ [n] } })

/-- The picture is complete (R151). -/
def completePicture (n : Nat) (bytes : Nat) (c : Chip) : Chip :=
  let p := withSummary c.stab.window (slot c n)
  let last := endsWithPicture c.capture
  let c1 := setSlot n { p with
    state := .filled, result := .ok, byteLength := bytes, flags := { p.flags with burstLast := last },
    store := if p.flags.storeOn then .queued else .none } c
  let c2 := if p.flags.storeOn then joinQueue n c1 else applyFreeing n c1
  afterPicture (notice .capture c2)

/-- The picture fails (R153). -/
def failPicture (n : Nat) (d : Detail) (c : Chip) : Chip :=
  let p := if d = .dmaBusError then withSummary c.stab.window (slot c n) else slot c n
  let c1 := setSlot n { p with state := .free, result := .failed, resultDetail := d } c
  afterPicture (notice .capture (notice .fault c1))

/-- The picture in FILLING is abandoned at a stop (R155). -/
def abandonPicture (c : Chip) : Chip :=
  match c.capture.filling with
  | none => c
  | some n => closeWindow (setSlot n { slot c n with state := .free, result := .abandoned } c)

/-- Capture Control at entry to STOPPING (R155). -/
def stopCapture (c : Chip) : Chip :=
  setCapture (fun k => { k with
    state := .idle, press := .none, count := 0, left := 0, burst := {}, filling := none }) (abandonPicture c)

end Sys2Proof.Machine
end

