-- ==== Sys2Proof/Machine/Records.lean ====
section
/-! DEFINITION. The layouts of Chapter 11 as the part writes them: registers, answer record bodies, the picture record
and the header sector. -/

namespace Sys2Proof.Machine

/-! ### Little-endian fields (R172) -/

def put8 (n : Nat) : List Byte := [BitVec.ofNat 8 n]
def put16 (n : Nat) : List Byte := [BitVec.ofNat 8 n, BitVec.ofNat 8 (n / 256)]
def put32 (n : Nat) : List Byte := put16 n ++ put16 (n / 65536)
def putSigned16 (i : Int) : List Byte := put16 (BitVec.ofInt 16 i).toNat
def putSigned32 (i : Int) : List Byte := put32 (BitVec.ofInt 32 i).toNat
def putFlag (b : Bool) : List Byte := put8 b.toNat
def padding (n : Nat) : List Byte := List.replicate n 0

/-- A slot, window or rate index that may have no value. -/
def putIndex (o : Option Nat) : List Byte := put8 (o.getD 255)

/-- Flag bits from bit 0. -/
def bitsOf : List Bool → Nat
  | [] => 0
  | b :: bs => b.toNat + 2 * bitsOf bs

/-! ### Registers (Table 11-3) -/

def readAreaBase (s : State) : Word := s.areaBase

/-- NUDGE and SOFT_RESET read 0. -/
def readRunControl (s : State) : Word := BitVec.ofNat 32 s.chip.port.run.toNat

def readPartStatus (s : State) : Word :=
  let p := s.chip.port
  BitVec.ofNat 32 (p.partState.ctorIdx + 16 * p.fault.ctorIdx + 256 * p.noticeA.toNat + 512 * p.noticeB.toNat)

def readPartIdent (_ : State) : Word := BitVec.ofNat 32 (65536 * Config.familyCode + Config.revision)

/-! ### Answer record bodies (Table 11-8) -/

def partStateBody (c : Chip) : List Byte :=
  put8 c.port.partState.ctorIdx ++ put8 c.port.fault.ctorIdx ++ padding 2
    ++ c.records.flatMap (fun r => put16 r.torn.toNat) ++ padding 2

def ackEntry (r : RecordState) : List Byte :=
  put32 r.edition.toNat ++ put8 r.outcome.ctorIdx ++ put8 r.detail.ctorIdx ++ putFlag r.clamped ++ padding 1

def ackBody (c : Chip) : List Byte := c.records.flatMap ackEntry

/-- EMPTY, VALID, FAULT, or TABLES_LOADING while a load is in progress (R40). -/
def tableStatus (t : Tables) : Nat := if t.load.isSome then 3 else t.state.ctorIdx

/-- The LENS record: the tables' part as it stands, since each change of it marks LENS (R40), and the drives' parts as taken at
the last of their events (R54, R69, R88; log 37). A focus counter below 0 is written as two's complement, and a focal length
code above 16 bits by its low 16 bits (log 35). -/
def lensBody (c : Chip) : List Byte :=
  let t := c.tables
  let z := c.answers.zoomPart
  let f := c.answers.focusPart
  put8 (tableStatus t) ++ put8 t.zp.state.ctorIdx ++ put8 t.tr0.state.ctorIdx ++ put8 t.tr1.state.ctorIdx
    ++ put32 t.summary.edition.toNat ++ put16 t.summary.zMax ++ put16 t.summary.fMax
    ++ put8 t.lastResult.ctorIdx ++ put8 t.lastBlock ++ put8 t.lastIndex
    ++ put8 z.state.ctorIdx ++ put8 z.phase.ctorIdx ++ putFlag z.known ++ put8 z.corrections ++ put8 z.retries
    ++ put8 z.lastDrive.ctorIdx ++ put8 z.fault.ctorIdx ++ put8 z.zone ++ padding 1
    ++ putSigned32 z.counter ++ putSigned32 z.target ++ put16 z.focalCode
    ++ put8 f.state.ctorIdx ++ put8 f.phase.ctorIdx ++ putFlag f.homed ++ put8 f.entry ++ put8 f.fault.ctorIdx
    ++ padding 1 ++ putSigned16 f.counter ++ putSigned16 f.target

/-- The EXPOSURE record; with no applied triple its fields are written as 0 (log 34). -/
def exposureBody (c : Chip) : List Byte :=
  let e := c.exposure
  let t := e.applied.getD { xt := 0, xg := 0, xa := 0 }
  let l := limits c
  put8 (exposureState e).ctorIdx ++ put8 e.mode.ctorIdx ++ putFlag e.hold ++ putFlag e.s1Lock ++ put8 e.settle
    ++ put8 e.limit.ctorIdx ++ put8 c.flicker.cls.ctorIdx ++ put8 c.pixel.stream.ctorIdx
    ++ putSigned16 e.compensation ++ put8 e.zone
    ++ put8 (bitsOf [t.limited, t.shortfall, t.deficit, t.exactTime.isSome])
    ++ put16 t.xt ++ put16 t.xg ++ put16 t.xa ++ putSigned16 (indexOf t) ++ put32 t.timeUs ++ put16 t.lineCount
    ++ put16 t.gainCode ++ put8 t.iris ++ put8 (bitsOf [e.darkSeen, e.writeFailed])
    ++ put16 l.xtLo ++ put16 l.xtMax ++ put8 e.credit ++ put8 e.figures.k ++ put8 e.figures.m ++ put8 e.figures.mEff
    ++ putSigned16 e.figures.e ++ putSigned16 e.figures.b ++ padding 2 ++ put32 e.figures.frame.toNat

/-- 0 WATCH, otherwise the step count of the episode. -/
def continuousState (w : Following) : Nat :=
  match w.episode with
  | none => 0
  | some e => e.steps

/-- The peak summary of a window; without a sample its maximum FV and position are written as 0 (log 34). -/
def peakBody (p : Option Peak) (enabled : Bool) : List Byte :=
  match p with
  | none => padding 7 ++ putFlag enabled
  | some k => put32 k.maximum ++ putSigned16 k.position ++ putFlag k.passed ++ putFlag enabled

/-- The FOCUS record; with no reference its reference FV is written as 0. The enabled marks are those of the windows enabled for
the last search begun, all clear before any search, and not the enables of the settings in force (log 34). -/
def focusBody (c : Chip) : List Byte :=
  let k := c.control
  let s := c.search
  let w := c.following
  put8 k.mode.ctorIdx ++ put8 k.result.ctorIdx ++ putFlag k.due ++ put8 s.phase.ctorIdx ++ put8 s.origin.ctorIdx
    ++ putIndex s.chosen ++ put8 s.lastRefusal.ctorIdx ++ put8 (continuousState w)
    ++ put16 k.distance ++ putSigned16 s.lo ++ putSigned16 s.hi ++ putSigned16 s.peak
    ++ put8 s.record.length ++ put8 (s.record.filter (fun x => !x.isFine)).length
    ++ put8 w.window ++ putFlag (!w.lastNear) ++ putFlag w.active ++ padding 3 ++ put32 (w.reference.getD 0)
    ++ (List.zipWith peakBody s.peaks s.enabled).flatten

def axisBody (a : Axis) : List Byte :=
  putSigned32 a.bias ++ putSigned32 a.angle ++ putSigned32 a.raw ++ putSigned16 a.output ++ padding 2
    ++ putSigned32 a.residual

def stabBody (c : Chip) : List Byte :=
  let s := c.stab
  put8 s.mode.ctorIdx ++ putFlag s.linkRunning ++ put8 s.fault.ctorIdx ++ put8 s.zone ++ put8 s.credit
    ++ put8 s.panRun ++ put8 s.exitRun ++ putFlag s.shakeSeen ++ put16 s.kx ++ put16 s.ky ++ put16 s.samples.toNat
    ++ padding 2 ++ axisBody s.x ++ axisBody s.y

/-- The CAPTURE record (Table 11-7). Of a burst's picture count beyond 65535 it shows the low 16 bits (R155; log 35). -/
def captureBody (c : Chip) : List Byte :=
  let k := c.capture
  put8 k.state.ctorIdx ++ putFlag k.s1.pressed ++ putFlag k.s2.pressed ++ put8 k.press.ctorIdx ++ putFlag k.spent
    ++ putIndex k.burst.rate ++ putFlag k.burst.unconfirmed ++ put8 (freeSlots c)
    ++ put16 k.burst.pictures ++ put8 k.left ++ put8 k.lastRefusal.ctorIdx
    ++ put32 k.nextNumber.toNat ++ put32 k.lastNumber.toNat

def grantBody (g : Grant) : List Byte := put32 g.start ++ put32 g.count ++ put32 g.cursor

/-- The queue slots, 0xFF beyond the queue length. -/
def queueBody (q : List Nat) : List Byte := ((q ++ List.replicate 16 255).take 16).flatMap put8

def storeBody (c : Chip) : List Byte :=
  let s := c.store
  put8 s.state.ctorIdx ++ put8 c.card.state.ctorIdx ++ put8 c.card.fault.ctorIdx
    ++ putFlag (match s.picture with
      | some p => p.remap
      | none => false)
    ++ putIndex (s.picture.map (·.slot)) ++ put8 s.queue.length ++ put8 s.lastKind.ctorIdx
    ++ put8 s.lastResult.ctorIdx ++ put8 s.lastBlock ++ put8 s.failures ++ padding 2
    ++ put32 (c.card.capacity.getD 0) ++ grantBody s.space ++ put32 s.dropped ++ grantBody s.spare
    ++ put32 s.badSectors ++ put32 s.sectorsDone ++ put32 s.failingSector ++ queueBody s.queue

def countersBody (c : Chip) : List Byte :=
  c.wear.counts.flatMap put16 ++ put8 (bitsOf c.wear.crossed) ++ padding 3

def noticeBody (c : Chip) : List Byte := c.notices.counts.flatMap (fun n => put16 n.toNat)

/-! ### Picture record and header sector (Tables 11-9 and 11-10) -/

def flagBits (f : PictureFlags) : Nat :=
  bitsOf [f.focusUnconfirmed, f.exposureLimited, f.exposureShortfall, f.flickerDeficit, f.shakeHigh, f.delayed,
    f.burstFirst, f.burstLast, f.storeOn, f.autoRelease]

def extentBody (e : Extent) : List Byte := put32 e.start ++ put32 e.count

/-- Four extents; entries beyond the extent count are 0. -/
def extentsBody (es : List Extent) : List Byte := ((es ++ List.replicate 4 (⟨0, 0⟩ : Extent)).take 4).flatMap extentBody

/-- The picture record of slot `n`. A focus counter below 0 is written as two's complement (log 35). -/
def pictureBody (n : Nat) (p : PictureRecord) : List Byte :=
  put32 p.number.toNat ++ put32 p.frame.toNat ++ put16 p.fill.toNat ++ put8 n ++ put8 p.state.ctorIdx
    ++ put8 p.result.ctorIdx ++ put8 p.resultDetail.ctorIdx ++ put8 p.store.ctorIdx ++ put8 p.storeDetail.ctorIdx
    ++ put16 (flagBits p.flags) ++ putIndex p.rate ++ put8 p.stabMode.ctorIdx
    ++ put16 p.shot.xt ++ put16 p.shot.xg ++ put16 p.shot.xa ++ put16 p.shot.gainCode ++ put32 p.shot.timeUs
    ++ put8 p.shot.iris ++ put8 p.shot.zone ++ put8 p.shot.focusResult.ctorIdx ++ put8 p.extents.length
    ++ putSigned32 p.shot.zoom ++ putSigned16 p.shot.focus ++ put16 p.shot.distance ++ put32 p.qMax
    ++ put32 p.byteLength ++ extentsBody p.extents

/-- The sum of the 32-bit words of a list of bytes. -/
def wordSum : List Byte → Nat
  | a :: b :: c :: d :: rest => a.toNat + 256 * b.toNat + 65536 * c.toNat + 16777216 * d.toNat + wordSum rest
  | _ => 0

/-- The header sector of slot `n`, with the record copied as STORED (R161). -/
def headerSector (n : Nat) (p : PictureRecord) : List Byte :=
  let front := put32 0x3140 ++ put16 1 ++ put16 84 ++ pictureBody n { p with store := .stored }
  front ++ put32 (2 ^ 32 - wordSum front % 2 ^ 32) ++ padding 416

/-! ### The Answer Page (Table 11-7) -/

def answerOffset : AnswerId → Nat
  | .partState => 0x000 | .ack => 0x020 | .lens => 0x070 | .exposure => 0x0A4 | .focus => 0x0DC | .stabilizer => 0x128
  | .capture => 0x168 | .store => 0x184 | .counters => 0x1D4 | .slot n => 0x200 + 96 * n | .notice => 0x800

def answerBody (a : AnswerId) (c : Chip) : List Byte :=
  match a with
  | .partState => partStateBody c
  | .ack => ackBody c
  | .lens => lensBody c
  | .exposure => exposureBody c
  | .focus => focusBody c
  | .stabilizer => stabBody c
  | .capture => captureBody c
  | .store => storeBody c
  | .counters => countersBody c
  | .slot n => pictureBody n (slot c n)
  | .notice => noticeBody c

end Sys2Proof.Machine
end

