-- ==== Sys2Proof/Machine/Store.lean ====
section
/-! DEFINITION. Picture Store and Card Port (Chapter 10): grants, allocation, runs, retries, remap, card orders, the
arbiter, initialisation and removal, and what the card link carries. -/

namespace Sys2Proof.Machine

/-! ### Record (R171) -/

structure StoreShown where
  state : StoreState
  card : CardState
  fault : Detail
  capacity : Option Nat
  space : Grant
  spare : Grant
  dropped : Nat
  queue : List Nat
  slot : Option Nat
  remap : Option Bool
  bad : Nat
  kind : RunKind
  result : RunResult
  block : Nat
  failing : Nat
  deriving DecidableEq, Repr

def storeShown (c : Chip) : StoreShown :=
  { state := c.store.state, card := c.card.state, fault := c.card.fault, capacity := c.card.capacity,
    space := c.store.space, spare := c.store.spare, dropped := c.store.dropped, queue := c.store.queue,
    slot := c.store.picture.map (·.slot), remap := c.store.picture.map (·.remap), bad := c.store.badSectors,
    kind := c.store.lastKind, result := c.store.lastResult, block := c.store.lastBlock,
    failing := c.store.failingSector }

/-- STORE is marked when a field it holds has changed from `c` to `c1`, but for the gathered ones. -/
def markStore (c c1 : Chip) : Chip := if storeShown c1 = storeShown c then c1 else mark .store c1

def setStore (f : Store → Store) (c : Chip) : Chip := markStore c { c with store := f c.store }

def setCard (f : Card → Card) (c : Chip) : Chip := markStore c { c with card := f c.card }

def setPicture (p : Option PictureWork) (c : Chip) : Chip := setStore (fun s => { s with picture := p }) c

def setOrder (o : Option OrderWork) (c : Chip) : Chip := setStore (fun s => { s with order := o }) c

/-- Each change of card state counts the STORE notice once (R162). The store state is recomputed before a held request is
handed over (R159). -/
def enterCard (k : CardState) (f : Card → Card) (c : Chip) : Chip :=
  let c1 := setCard (fun x => { f x with state := k }) c
  raise .handHeld (raise .cardWork (if c.card.state = k then c1 else notice .store c1))

/-! ### Store state (R159) -/

/-- The last extent of the picture in progress is closed. -/
def closeExtent (c : Chip) : Chip :=
  match c.store.picture with
  | some p => setPicture (some { p with openSpace := false }) c
  | none => c

/-- The store state is recomputed; each entry into WAIT_SPACE counts the STORE notice (R159, R160). -/
def evalStore (c : Chip) : Chip :=
  let s := storeStateOf c.port.partState c.card.state c.store
  if c.store.state = s then c
  else
    let c1 := setStore (fun x => { x with state := s }) c
    if s = .waitSpace then closeExtent (notice .store c1) else c1

/-! ### The end of a picture in progress (R161, R165, R169) -/

/-- The picture in progress leaves the store; a remap in progress ends with it. -/
def clearPicture (c : Chip) : Chip :=
  match c.store.picture with
  | none => c
  | some p => (if p.remap then raise .handHeld else id) (setPicture none c)

/-- The picture becomes STORED or STORE_FAILED (R161). -/
def endPicture (n : Nat) (f : PictureRecord → PictureRecord) (c : Chip) : Chip :=
  raise .cardWork (clearPicture (notice .store (applyFreeing n (setSlot n (f (slot c n)) c))))

def pictureStored (n : Nat) (c : Chip) : Chip :=
  endPicture n (fun p => { p with state := .stored, store := .stored }) c

def pictureFailed (n : Nat) (d : Detail) (c : Chip) : Chip :=
  endPicture n (fun p => { p with state := .storeFailed, store := .storeFailed, storeDetail := d }) c

/-- The picture in progress returns to the head of the queue (R165, R169). -/
def requeuePicture (c : Chip) : Chip :=
  match c.store.picture with
  | none => c
  | some p =>
    let c1 := setSlot p.slot { slot c p.slot with state := .filled, store := .queued, extents := [] } c
    clearPicture (setStore (fun s => { s with queue := p.slot :: s.queue }) c1)

/-- The ACTIVE card order ends. -/
def endOrder (o : ReqOutcome) (d : Detail) (c : Chip) : Chip :=
  match c.store.order with
  | none => c
  | some _ => finish .cardOrder o d (setOrder none c)

/-! ### Card state (R162, R165, R169) -/

def serviceInCard (c : Chip) : Bool :=
  match c.service with
  | some w => w.part == .card
  | none => false

/-- Entry of the card state to FAULT (R165). -/
def cardFault (d : Detail) (c : Chip) : Chip :=
  let c1 := notice .fault (enterCard .fault (fun k => { k with fault := d, init := .none, run := none }) c)
  let c2 := endOrder .failed .cardFault (requeuePicture c1)
  if serviceInCard c2 then finishService .failed .cardFault c2 else c2

/-- Initialisation begins: GO_IDLE is sent. -/
def beginInit (c : Chip) : Chip :=
  enterCard .initialising (fun k => { k with init := .goIdle, found := 0 }) c

/-- SERVICE RESTART_CARD (R165). -/
def serviceRestartCard (c : Chip) : Chip :=
  match c.card.state with
  | .fault => beginInit c
  | .absent => refuse .service .noCard { c with service := none }
  | .initialising | .ready => refuse .service .notInFault { c with service := none }

/-- A grant limited to the capacity (R158). -/
def limitGrant (capacity : Nat) (g : Grant) : Grant :=
  { g with count := if capacity ≤ g.start then 0 else min g.count (capacity - g.start) }

/-- An order held against the capacity (R167): DONE at once beyond it, otherwise limited. -/
def holdOrderToCapacity (o : OrderWork) (c : Chip) : Chip :=
  match c.card.capacity with
  | none => setOrder (some { o with waiting := false }) c
  | some k =>
    if k ≤ o.sector then
      endOrder .done .none (setClamped .cardOrder true (setOrder (some { o with waiting := false }) c))
    else
      setOrder (some { o with waiting := false, count := min o.count (k - o.sector) })
        (setClamped .cardOrder (k - o.sector < o.count) c)

/-- The three commands have answered with a capacity (R162). -/
def cardReady (c : Chip) : Chip :=
  let c1 := enterCard .ready (fun k => { k with init := .none, fault := .none, capacity := some k.found }) c
  let c2 := setStore (fun s => { s with
    space := limitGrant c.card.found s.space, spare := limitGrant c.card.found s.spare }) c1
  let c3 := match c2.store.order with
    | some o => if o.waiting then holdOrderToCapacity o c2 else c2
    | none => c2
  if serviceInCard c3 then finishService .done .none c3 else c3

/-- CARD_DET absent is taken. It ends an order FAILED also in STOPPING, with its run in flight (R169; log 25). -/
def cardRemoved (c : Chip) : Chip :=
  let c1 := enterCard .absent (fun k => { k with fault := .none, init := .none, run := none, capacity := none }) c
  let c2 := endOrder .failed .noCard (requeuePicture c1)
  let c3 := setStore (fun s => { s with space := {}, spare := {} }) c2
  if serviceInCard c3 then finishService .failed .noCard c3 else c3

/-- A CARD_DET level change starts or stops the 20 ms qualification (R162). -/
def cardDetChange (level : Bool) (c : Chip) : Chip :=
  setCard (fun k => { k with detect := level, detectTimer := level != k.present }) c

/-- The CARD_DET level has held for 20 ms (R162). -/
def cardDetTimer (c : Chip) : Chip :=
  if c.card.detectTimer then
    let c1 := setCard (fun k => { k with detectTimer := false, present := k.detect }) c
    if c1.card.present then (if c1.card.state = .absent then beginInit c1 else c1) else cardRemoved c1
  else c

/-! ### Grants (R158) -/

/-- A SPACE or SPARE request by card state: what is done with it when it is taken is `take`. -/
def byCardState (r : RecordId) (q : Request) (take : Nat → Chip → Chip) (c : Chip) : Chip :=
  match c.card.state, c.card.capacity with
  | .absent, _ => refuse r .noCard c
  | .initialising, _ => hold r .heldCardInit q c
  | .ready, some k | .fault, some k => take k c
  | .fault, none => refuse r .cardFault c
  | .ready, none => refuse r .cardFault c

/-- The outcome of a grant that replaced one with remainder `r`. -/
def finishGrant (rec : RecordId) (r : Nat) (c : Chip) : Chip :=
  raise .cardWork (finish rec .done (if r = 0 then .none else .remainderDropped) c)

def takeSpace (start count : Nat) (c : Chip) : Chip :=
  byCardState .space (.space start count) (fun k c =>
    let g := limitGrant k ⟨start, count, start⟩
    let r := remainder c.store.space
    let c1 := setClamped .space (g.count != count) c
    finishGrant .space r (closeExtent (setStore (fun s => { s with space := g, dropped := r }) c1))) c

def takeSpare (start count : Nat) (c : Chip) : Chip :=
  byCardState .spare (.spare start count) (fun k c =>
    let g := limitGrant k ⟨start, count, start⟩
    let r := remainder c.store.spare
    let c1 := setClamped .spare (g.count != count) c
    finishGrant .spare r (setStore (fun s => { s with spare := g, dropped := r }) c1)) c

/-! ### Card orders (R167) -/

/-- A CARD_ORDER is handed over. One that fails at once leaves the sectors done of the order before it (log 25). -/
def takeCardOrder (write : Bool) (count sector address : Nat) (c : Chip) : Chip :=
  let o : OrderWork := { write := write, sector := sector, count := max count 1, address := address }
  let c1 := setClamped .cardOrder (count == 0) c
  let c2 := { c1 with store := { c1.store with sectorsDone := 0 } }
  match c.card.state with
  | .absent => finish .cardOrder .failed .noCard c1
  | .fault => finish .cardOrder .failed .cardFault c1
  | .initialising => setOrder (some { o with waiting := true }) c2
  | .ready => raise .cardWork (holdOrderToCapacity o c2)

/-! ### Allocation (R160) -/

def dataSectorsOf (p : PictureRecord) : Nat := (p.byteLength + 511) / 512

/-- The picture at the head of the queue is taken (R160). -/
def beginPicture (c : Chip) : Chip :=
  match c.store.queue with
  | [] => c
  | n :: rest =>
    let p := slot c n
    let c1 := setSlot n { p with state := .storing, store := .storing, extents := [] } c
    setStore (fun s => { s with
      queue := rest, picture := some { slot := n, dataSectors := dataSectorsOf p } }) c1

/-- The extents with `n` sectors from `start` on, joined to the last extent when it is open and ends there. -/
def allocateExtent (isOpen : Bool) (start n : Nat) (es : List Extent) : List Extent :=
  match es.getLast? with
  | some e => if isOpen && e.start + e.count == start then es.dropLast ++ [{ e with count := e.count + n }]
      else es ++ [⟨start, n⟩]
  | none => [⟨start, n⟩]

/-- Sectors of the next run to allocate from the space grant; the header is allocated after every data sector has been
written (R160, R161). -/
def nextAllocation (p : PictureWork) (left : Nat) : Nat :=
  if p.allocated < p.dataSectors then min (min 64 (p.dataSectors - p.allocated)) left
  else if p.written = p.dataSectors ∧ p.headerAllocated = false then min 1 left
  else 0

/-- A run of the picture in progress is ready (R168). A run that would need a 5th extent counts as one: the picture fails when it is
chosen, and a card order that waits may run before (DESIGN CHOICE, log 25). -/
def pictureReady (c : Chip) : Bool :=
  match c.store.picture with
  | none => false
  | some p => p.next.isSome || 0 < nextAllocation p (remainder c.store.space)

/-- The next run is allocated; none when it would need a 5th extent. -/
def allocateRun (p : PictureWork) (c : Chip) : Option (PlannedRun × Chip) :=
  let cursor := c.store.space.cursor
  let n := nextAllocation p (remainder c.store.space)
  let r := slot c p.slot
  let es := allocateExtent p.openSpace cursor n r.extents
  if Config.maxExtents < es.length then none
  else
    let header := p.allocated == p.dataSectors
    let p1 := { p with
      allocated := if header then p.allocated else p.allocated + n, headerAllocated := header, openSpace := true }
    let c1 := setSlot p.slot { r with extents := es } c
    let c2 := setStore (fun s => { s with picture := some p1, space := { s.space with cursor := cursor + n } }) c1
    some ({ sector := cursor, count := n, firstData := p.allocated, isHeader := header }, c2)

/-! ### Beginning a run (R163) -/

/-- A run begins with the limits in force (R156), at a repeat too (log 25). -/
def beginRun (k : RunKind) (write : Bool) (plan : PlannedRun) (address : Nat) (header : List Byte) (c : Chip) : Chip :=
  let s := (cfg c).capture
  let c1 := setStore (fun s => { s with lastKind := k, failures := plan.failures }) c
  setCard (fun x => { x with run := some {
    kind := k, write := write, plan := plan, address := address, retryLimit := s.retryLimit,
    busyLimit := s.busyLimit, header := header } }) c1

def slotBase (c : Chip) (n : Nat) : Nat := (cfg c).pool.poolBase + n * (cfg c).pool.slotSize

/-- A run of the picture in progress begins; a header run takes its copy now (R161). -/
def beginPictureRun (p : PictureWork) (plan : PlannedRun) (c : Chip) : Chip :=
  let header := if plan.isHeader then headerSector p.slot (slot c p.slot) else []
  beginRun .picture true plan (slotBase c p.slot + 512 * plan.firstData) header
    (setPicture (c.store.picture.map (fun q => { q with next := none })) c)

/-- The picture run that is ready begins, or the picture ends EXTENTS_EXCEEDED (R160). -/
def choosePictureRun (c : Chip) : Chip :=
  match c.store.picture with
  | none => c
  | some p =>
    match p.next with
    | some plan => beginPictureRun p plan c
    | none =>
      match allocateRun p c with
      | some r => beginPictureRun p r.1 r.2
      | none => pictureFailed p.slot .extentsExceeded c

/-- The next run of the ACTIVE order begins (R167). -/
def chooseOrderRun (c : Chip) : Chip :=
  match c.store.order with
  | none => c
  | some o =>
    let plan := o.next.getD { sector := o.sector + o.done, count := min 64 (o.count - o.done), firstData := 0, isHeader := false }
    beginRun .cardOrder o.write plan (o.address + 512 * o.done) [] (setOrder (some { o with next := none }) c)

/-! ### The arbiter (R168) -/

def orderWaits (c : Chip) : Bool :=
  match c.store.order with
  | none => false
  | some o => !o.waiting && o.done < o.count

def chooseRun (c : Chip) : Chip :=
  let picture := pictureReady c
  let order := orderWaits c
  if picture && (freeSlots c ≤ (cfg c).capture.pressure) then choosePictureRun c
  else if picture && order then
    match c.store.lastKind with
    | .picture => chooseOrderRun c
    | .cardOrder => choosePictureRun c
  else if picture then choosePictureRun c
  else if order then chooseOrderRun c
  else c

/-- The store begins a picture when it is idle, and the arbiter chooses the next run (R160, R168). -/
def cardWork (c : Chip) : Chip :=
  let c1 := evalStore c
  let c2 := if c1.store.picture.isNone && c1.store.state == .idle then evalStore (beginPicture c1) else c1
  if c2.card.state = .ready ∧ c2.port.partState = .running ∧ c2.card.run.isNone = true then evalStore (chooseRun c2)
  else c2

/-! ### The end of a run (R163 to R167) -/

/-- A run failure of the picture's or the order's run: repeated, or the card enters FAULT (R164). `repeat_` keeps the run
for its owner. -/
def runFailure (r : Run) (again : PlannedRun → Chip → Chip) (c : Chip) : Chip :=
  let plan := { r.plan with failures := r.plan.failures + 1 }
  let c1 := count .cardRetry (setStore (fun s => { s with failures := plan.failures }) c)
  if plan.failures ≤ r.retryLimit then again plan c1 else cardFault .runFailed c1

/-- WRITE_REJECTED on block `i` of a run of the picture (R166). -/
def remapRun (p : PictureWork) (r : Run) (i : Nat) (c : Chip) : Chip :=
  let n := r.plan.count - i
  let rec0 := slot c p.slot
  let cut := match rec0.extents.getLast? with
    | none => []
    | some e => if e.count ≤ n then rec0.extents.dropLast else rec0.extents.dropLast ++ [{ e with count := e.count - n }]
  let c1 := count .cardRemap (setStore (fun s => { s with badSectors := min (s.badSectors + n) 4294967295 }) c)
  let c2 := setSlot p.slot { slot c1 p.slot with extents := cut } c1
  let spare := c2.store.spare
  if Config.maxExtents ≤ cut.length then pictureFailed p.slot .extentsExceeded c2
  else if remainder spare < n then pictureFailed p.slot .spareExhausted c2
  else
    let c3 := setSlot p.slot { slot c2 p.slot with extents := cut ++ [⟨spare.cursor, n⟩] } c2
    setStore (fun s => { s with
      spare := { spare with cursor := spare.cursor + n },
      picture := some { p with
        written := if r.plan.isHeader then p.written else p.written + i, openSpace := false, remap := true,
        next := some { sector := spare.cursor, count := n, firstData := r.plan.firstData + i, isHeader := r.plan.isHeader } } }) c3

/-- A run of the picture succeeded (R161, R166). -/
def pictureRunDone (p : PictureWork) (r : Run) (c : Chip) : Chip :=
  if r.plan.isHeader then pictureStored p.slot c
  else
    let c1 := setPicture (some { p with written := p.written + r.plan.count, remap := false }) c
    if p.remap then raise .handHeld c1 else c1

/-- The result of a picture run reaches the Picture Store. -/
def pictureRunEnd (p : PictureWork) (r : Run) (c : Chip) : Chip :=
  match r.cause with
  | none | some .none | some .ok => pictureRunDone p r c
  | some .crcRejected | some .readCrc | some .responseTimeout | some .busyTimeout =>
    runFailure r (fun plan => setPicture (some { p with next := some plan })) c
  | some .writeRejected => remapRun p r r.block c
  | some .memoryBusError => pictureFailed p.slot .slotBusError (notice .fault c)

/-- The result of an order's run reaches the order, in RUNNING. -/
def orderRunEnd (o : OrderWork) (r : Run) (c : Chip) : Chip :=
  match r.cause with
  | none | some .none | some .ok =>
    let o1 := { o with done := o.done + r.plan.count }
    let c1 := setStore (fun s => { s with order := some o1, sectorsDone := o1.done }) c
    if o1.count ≤ o1.done then endOrder .done .none c1 else c1
  | some .crcRejected | some .readCrc | some .responseTimeout | some .busyTimeout =>
    runFailure r (fun plan => setOrder (some { o with next := some plan })) c
  | some .writeRejected =>
    endOrder .failed .writeRejected (setStore (fun s => { s with failingSector := r.plan.sector + r.block }) c)
  | some .memoryBusError => endOrder .failed .memoryBusError c

/-- The result of an order's run that ends in STOPPING: it is taken, and the order ends ABANDONED (R17, R167). -/
def orderRunStopped (o : OrderWork) (r : Run) (c : Chip) : Chip :=
  match r.cause with
  | none | some .none | some .ok =>
    endOrder .abandoned .stopped (setStore (fun s => { s with sectorsDone := o.done + r.plan.count }) c)
  | some .crcRejected | some .readCrc | some .responseTimeout | some .busyTimeout =>
    runFailure r (fun _ => id) (endOrder .abandoned .stopped c)
  | some .writeRejected | some .memoryBusError => endOrder .abandoned .stopped c

/-- A run ends, and its result is handed to its owner (R163). -/
def runEnd (r : Run) (c : Chip) : Chip :=
  let c1 := mark .store { c with
    card := { c.card with run := none },
    store := { c.store with
      lastResult := r.cause.getD .ok, lastBlock := if r.cause.isSome then min r.block (r.plan.count - 1) else 0 } }
  let c2 := match r.kind with
    | .picture =>
      match c1.store.picture with
      | some p => pictureRunEnd p r c1
      | none => c1
    | .cardOrder =>
      match c1.store.order with
      | some o => if c1.port.partState = .stopping then orderRunStopped o r c1 else orderRunEnd o r c1
      | none => c1
  raise .cardWork c2

/-! ### The card link (R162, R163) -/

def setRun (f : Run → Run) (c : Chip) : Chip := { c with card := { c.card with run := c.card.run.map f } }

/-- A run ends early: it is closed with STOP. -/
def endRunEarly (cause : RunResult) (c : Chip) : Chip :=
  setRun (fun r => { r with cause := some cause, phase := .stopResponse }) c

/-- The next block, or STOP after the last one. -/
def nextBlock (p : RunPhase) (c : Chip) : Chip :=
  setRun (fun r => { r with
    block := r.block + 1, phase := if r.plan.count ≤ r.block + 1 then .stopResponse else p }) c

/-- An initialisation command is answered (R162). -/
def initResponse (capacity : Nat) (c : Chip) : Chip :=
  match c.card.init with
  | .none => c
  | .goIdle => setCard (fun k => { k with init := .identify }) c
  | .identify =>
    if capacity = 0 then cardFault .initFailed c
    else setCard (fun k => { k with init := .setWide, found := capacity }) c
  | .setWide => cardReady c

def cardResponse (capacity : Nat) (c : Chip) : Chip :=
  match c.card.run with
  | none => initResponse capacity c
  | some r =>
    match r.phase with
    | .response => setRun (fun r => { r with phase := if r.write then .token else .block }) c
    | .stopResponse => setRun (fun r => { r with phase := .stopBusy }) c
    | .token | .busy | .block | .stopBusy => c

def cardStatusToken (t : StatusToken) (c : Chip) : Chip :=
  match c.card.run with
  | none => c
  | some r =>
    if r.phase = .token then
      match t with
      | .accepted => setRun (fun r => { r with phase := .busy }) c
      | .crcRejected => endRunEarly .crcRejected c
      | .writeRejected => endRunEarly .writeRejected c
    else c

def cardBusyEnd (c : Chip) : Chip :=
  match c.card.run with
  | none => c
  | some r =>
    match r.phase with
    | .busy => nextBlock .token c
    | .stopBusy => runEnd r c
    | .response | .token | .block | .stopResponse => c

/-- A read block is written to memory at the order's address plus 512 per block, which does not wrap at 2^32 (R163; DESIGN CHOICE,
log 38). -/
def cardReadBlock (crcOk : Bool) (data : List Byte) (c : Chip) : Chip :=
  match c.card.run with
  | none => c
  | some r =>
    if r.phase = .block then
      if crcOk then nextBlock .block (busWrite (r.address + 512 * r.block) (data.take 512) c)
      else endRunEarly .readCrc c
    else c

def cardResponseTimeout (c : Chip) : Chip :=
  match c.card.run with
  | none => if c.card.init = .none then c else cardFault .initFailed c
  | some r =>
    match r.phase with
    | .response | .token | .block => endRunEarly .responseTimeout c
    | .stopResponse => if r.cause.isSome then runEnd r c else endRunEarly .responseTimeout c
    | .busy | .stopBusy => c

def cardBusyTimeout (c : Chip) : Chip :=
  match c.card.run with
  | none => c
  | some r =>
    match r.phase with
    | .busy => endRunEarly .busyTimeout c
    | .stopBusy => if r.cause.isSome then runEnd r c else endRunEarly .busyTimeout c
    | .response | .token | .block | .stopResponse => c

/-- A bus error on the memory access of the present block; a header run reads no memory. -/
def cardMemoryBusError (c : Chip) : Chip :=
  match c.card.run with
  | none => c
  | some r =>
    if r.plan.isHeader then c
    else match r.phase with
    | .token | .block => endRunEarly .memoryBusError c
    | .response | .busy | .stopResponse | .stopBusy => c

/-! ### What the card link carries (Table 10-2, R162, R163) -/

inductive CardCommand
  | goIdle
  | identify
  | setWide
  | writeMulti (sector : Nat)
  | readMulti (sector : Nat)
  | stop
  deriving DecidableEq, Repr

/-- The command whose response is awaited. -/
def cardCommand (k : Card) : Option CardCommand :=
  match k.run with
  | some r =>
    match r.phase with
    | .response => some (if r.write then .writeMulti r.plan.sector else .readMulti r.plan.sector)
    | .stopResponse => some .stop
    | .token | .busy | .block | .stopBusy => none
  | none =>
    match k.init with
    | .goIdle => some .goIdle
    | .identify => some .identify
    | .setWide => some .setWide
    | .none => none

/-- Bytes of the present block that memory gives: those of a picture end at its byte length (section 10.5). -/
def bytesFromMemory (r : Run) (c : Chip) : Nat :=
  match r.kind, c.store.picture with
  | .picture, some p => min 512 ((slot c p.slot).byteLength - 512 * (r.plan.firstData + r.block))
  | _, _ => 512

/-- The block that a write run has sent and whose token is awaited: the header's copy, or the block in memory with 0 beyond the
picture's byte length (R161, R163). -/
def blockSent (s : State) : Option (List Byte) :=
  match s.chip.card.run with
  | none => none
  | some r =>
    if r.write = true ∧ r.phase = .token then
      if r.plan.isHeader then some r.header
      else
        let n := bytesFromMemory r s.chip
        some ((List.range n).map (fun i => Memory.read s.memory (r.address + 512 * r.block + i)) ++ padding (512 - n))
    else none

/-! ### Settings (R170) -/

/-- A change of a threshold exponent sets or clears the counter's crossed mark. -/
def thresholdChange (old new : Settings) (k : CounterId) (c : Chip) : Chip :=
  let i := k.ctorIdx
  if old.notices.exponents.getD i 0 = new.notices.exponents.getD i 0 then c
  else
    let b : Bool := wearThreshold new k ≤ c.wear.counts.getD i 0
    if c.wear.crossed.getD i false = b then c
    else mark .counters { c with wear := { c.wear with crossed := c.wear.crossed.set i b } }

def thresholdsSettingsDone (old new : Settings) (c : Chip) : Chip :=
  thresholdChange old new .cardRemap (thresholdChange old new .cardRetry (thresholdChange old new .tableRefetch
    (thresholdChange old new .tableCorrected (thresholdChange old new .focusSlip
      (thresholdChange old new .zoomStall c)))))

end Sys2Proof.Machine
end

