-- ==== Sys2Proof/Machine/Requests.lean ====
section
/-! DEFINITION. Requests (sections 1.4, 1.5 and 1.9): adoption, holds, hand-over to the owners, SETTINGS, and the SERVICE
kinds; and the placing of tables, which makes a SETTINGS request DONE. -/

namespace Sys2Proof.Machine

/-! ### SETTINGS (R11) -/

/-- The search settings, window rectangles, enables or coring threshold change (R89). -/
def searchSettingsDiffer (old new : Settings) : Bool :=
  old.search != new.search || old.stats.windows != new.stats.windows || old.stats.enables != new.stats.enables
    || old.stats.coring != new.stats.coring

/-- D takes the fallback D of the first SETTINGS request after a reset (R88). -/
def takeFallback (c : Chip) : Chip :=
  if c.control.awaitFallback then
    setControl (fun k => { k with distance := (cfg c).focus.fallback, awaitFallback := false }) c
  else c

/-- CAPTURE is marked when the number of FREE slots in use differs from that of `before` (R155). -/
def markFreeSlots (before c : Chip) : Chip := if freeSlots c = freeSlots before then c else mark .capture c

/-- The settings take effect together, and the request is DONE (R11). -/
def settingsDone (new : Settings) (c : Chip) : Chip :=
  let old := cfg c
  let c1 := thresholdsSettingsDone old new (markFreeSlots c { c with settings := some new })
  let c2 := takeFallback (flickerSettingsDone old.flicker new.flicker c1)
  let c3 := exposureSettingsDone old new (stabSettingsDone old.stab new.stab c2)
  let c4 := sensorSettingsChanged old.sensor new.sensor c3
  let c5 := if searchSettingsDiffer old new then searchSettingsChanged c4 else c4
  let c6 := finish .settings .done .none c5
  if c6.port.startStep = .awaitSettings then raise .beginZoomStep c6 else c6

/-- The request changes the pool geometry in force. The slot count compared is the limited one (log 20). -/
def geometryChanges (s : Settings) (c : Chip) : Bool :=
  match c.settings with
  | none => false
  | some t => t.pool.poolBase != s.pool.poolBase || t.pool.slotCount != s.pool.slotCount
      || t.pool.slotSize != s.pool.slotSize

/-- The request changes the Lens Table image address or table edition. -/
def tablesChange (s : Settings) (c : Chip) : Bool :=
  c.tables.summary.imageAddress != s.pool.imageAddress || c.tables.summary.edition != s.pool.tableEdition

/-- The hold of R11; where both stand, HELD_GEOMETRY is shown (log 20). -/
def settingsHold (s : Settings) (c : Chip) : Option Detail :=
  if geometryChanges s c && c.slots.any (fun p => p.state != .free) then some .heldGeometry
  else if tablesChange s c && !(zoomIdleForSettings c.zoom && focusIdle c.focus) then some .heldLensBusy
  else none

/-- A SETTINGS request is held, refused or taken (R11). -/
def takeSettings (body : List Byte) (c : Chip) : Chip :=
  let s := settingsOf body
  match settingsHold s c with
  | some d => hold .settings d (.settings body) c
  | none =>
    if s.pool.slotSize < frameBytes s.sensor then refuse .settings .slotTooSmall c
    else
      let c1 := setClamped .settings (settingsClamped body) c
      if tablesChange s c || c.tables.state != .valid then beginLoad s c1 else settingsDone s c1

/-- The passed load places its tables, and its SETTINGS request is DONE (R42). Tables-replaced is taken by every block
before a request held with HELD_TABLES is handed over. New pool geometry is placed with the tables, with no second check of
R11 where a burst has claimed a slot during the load (log 32). -/
def placeTables (l : LoadWork) (c : Chip) : Chip :=
  raise .handHeld (settingsDone l.settings (raise .tablesReplaced (placeBlocks l c)))

/-- A load read completes; a load that passes places its tables at once when the drives are idle (R42). -/
def loadRead (ws : List Word) (c : Chip) : Chip :=
  match c.tables.load with
  | none => c
  | some l =>
    if l.passed || l.waitRefetch then c
    else
      let c1 := loadBlock ws l c
      match c1.tables.load with
      | some l1 => if l1.passed && drivesIdle c1 then placeTables l1 c1 else c1
      | none => c1

def loadReadError (c : Chip) : Chip :=
  match c.tables.load with
  | none => c
  | some l => if l.passed || l.waitRefetch then c else loadBusError l c

/-- A passed load that waits places its tables at the first moment both drives are idle (R42). -/
def tablesPlace (c : Chip) : Chip :=
  match c.tables.load with
  | none => c
  | some l => if l.passed && drivesIdle c then placeTables l c else c

/-! ### SERVICE (R19, R63, R64, R139, R165, R170) -/

/-- A lens SERVICE request is handed to the Zoom Drive, which ends a search (R100). -/
def beginLensService (k : ServiceKind) (c : Chip) : Chip :=
  endEarly .abandoned .serviceTakeover { c with service := some ⟨k, .zoom⟩ }

def takeService (k : ServiceKind) (c : Chip) : Chip :=
  match k with
  | .rehomeLens => serviceRehome (beginLensService .rehomeLens c)
  | .park => servicePark (beginLensService .park c)
  | .unpark => serviceUnpark (beginLensService .unpark c)
  | .clearCounters => finish .service .done .none (clearCounters c)
  | .clearFlags => finish .service .done .none (clearExposureFlags (clearShake c))
  | .restartStabilizer => serviceRestartStabilizer { c with service := some ⟨.restartStabilizer, .stabilizer⟩ }
  | .restartCard => serviceRestartCard { c with service := some ⟨.restartCard, .card⟩ }

/-- The focus part of a lens SERVICE request begins (R87). A step of following still in flight does not end at its target any more,
and no longer sets D at the end of its move (DESIGN CHOICE, log 14). -/
def beginFocusPart (k : ServiceKind) (c : Chip) : Chip :=
  let c1 := { c with
    service := some ⟨k, .focus⟩, following := { c.following with moving := false } }
  match k, c.focus.state with
  | .rehomeLens, _ => startHoming .track c1
  | .park, .idle | .park, .moving | .park, .dwell => handTarget (cfg c).focus.park c1
  | .park, .homing | .park, .lost => startHoming .park c1
  | .unpark, .idle | .unpark, .moving | .unpark, .dwell => unparkRetarget c1
  | .unpark, .homing | .unpark, .lost => startHoming .track c1
  | _, _ => finishService .failed .focusFault c1

/-- The zoom part of a lens SERVICE request has ended as intended (R64). -/
def zoomPartServed (c : Chip) : Chip :=
  match c.service with
  | none => c
  | some w =>
    if w.part = .zoom then
      match w.kind, c.zoom.state with
      | .rehomeLens, .idle => beginFocusPart .rehomeLens c
      | .park, .parked => beginFocusPart .park c
      | .unpark, .idle | .unpark, .moving | .unpark, .held => beginFocusPart .unpark c
      | _, _ => c
    else c

/-- The Focus Drive enters IDLE in the focus part (R87). Homing that ends IDLE at F_REF, with the retarget due, is DONE too
(log 27). -/
def focusPartIdle (fromHoming : Bool) (c : Chip) : Chip :=
  match c.service with
  | none => c
  | some w =>
    if w.part = .focus ∧ c.focus.state = .idle then
      match w.kind with
      | .rehomeLens => if fromHoming then finishService .done .none c else c
      | .unpark => if c.control.due && !fromHoming then c else finishService .done .none c
      | .park | .clearCounters | .clearFlags | .restartStabilizer | .restartCard => finishService .done .none c
    else c

/-! ### Holds (R8, R16, R41, R60, R67) -/

def isLensRequest (q : Request) : Bool :=
  match q with
  | .zoom _ | .focus _ | .unknown .zoom | .unknown .focus => true
  | .service k => isLensService k
  | .settings _ | .exposure _ | .capture _ | .space _ _ | .spare _ _ | .cardOrder _ _ _ _ | .unknown _ => false

/-- Requests that a burst holds (R67). -/
def isBurstHeld (q : Request) : Bool :=
  match q with
  | .zoom _ | .unknown .zoom => true
  | .service k => isLensService k
  | .settings _ | .focus _ | .exposure _ | .capture _ | .space _ _ | .spare _ _ | .cardOrder _ _ _ _ | .unknown _ =>
    false

def isZoomMove (q : Request) : Bool :=
  match q with
  | .zoom (.goto _) | .zoom (.gotoZone _) | .zoom (.run _) => true
  | _ => false

/-- HELD_ZOOM_BUSY, which the refusal of a move without tables precedes (R60). -/
def isZoomBusyHeld (q : Request) (c : Chip) : Bool :=
  match q with
  | .zoom .stop => zoomBusy c.zoom
  | .zoom _ => zoomBusy c.zoom && c.tables.state == .valid
  | _ => false

/-- A remap is in progress (R166). -/
def remapping (c : Chip) : Bool :=
  match c.store.picture with
  | some p => p.remap
  | none => false

/-- The first hold that stands for a request that is handed over. In STARTING a lens request shows HELD_STARTING, also
during a load (log 32). -/
def holdReason (r : RecordId) (q : Request) (c : Chip) : Option Detail :=
  if r ≠ .settings ∧ c.port.partState ≠ .running then some .heldStarting
  else if isLensRequest q && c.tables.load.isSome then some .heldTables
  else if isBurstHeld q && burstInProgress c then some .heldBurst
  else if isZoomBusyHeld q c then some .heldZoomBusy
  else if r = .spare ∧ remapping c = true then some .heldRemap
  else none

/-- The condition of a hold still stands. A SETTINGS hold of R11 is checked at scans only. -/
def holdStands (d : Detail) (e : RecordState) (c : Chip) : Bool :=
  match d with
  | .heldPrevious => e.earlierActive
  | .heldStarting => c.port.partState != .running
  | .heldGeometry | .heldLensBusy => true
  | .heldTables => c.tables.load.isSome
  | .heldBurst => burstInProgress c
  | .heldZoomBusy => zoomBusyStands c.zoom
  | .heldRemap => remapping c
  | .heldCardInit => c.card.state == .initialising
  | _ => false

/-! ### Hand-over and adoption (R8) -/

/-- A move kind taken under the table of R60, in any of its rows, ends a search (R100). -/
def endSearchForZoom (q : Request) (c : Chip) : Chip :=
  if isZoomMove q && c.tables.state == .valid then endEarly .abandoned .zoomRequest c else c

/-- The owner takes the request. -/
def deliver (q : Request) (c : Chip) : Chip :=
  match q with
  | .settings b => takeSettings b c
  | .zoom r => takeZoom r c
  | .focus r => takeFocus r c
  | .exposure r => takeExposure r c
  | .capture r => takeCapture r c
  | .space a n => takeSpace a n c
  | .spare a n => takeSpare a n c
  | .cardOrder w n a m => takeCardOrder w n a m c
  | .service k => takeService k c
  | .unknown .capture => refuseCapture .unknownKind c
  | .unknown r => refuse r .unknownKind c

/-- The request becomes ACTIVE in the hands of its owner. -/
def activate (r : RecordId) (c : Chip) : Chip :=
  mark .ack (setRecord r { record c r with outcome := .active, detail := .none, held := none } c)

/-- A request is handed to its owner, or held. A FOCUS edition that is held, as with HELD_TABLES, leaves a search in progress
to go on until its hand-over (R41, R100; log 14). -/
def handOver (r : RecordId) (q : Request) (c : Chip) : Chip :=
  match holdReason r q c with
  | some d => hold r d q (if d = .heldZoomBusy then endSearchForZoom q c else c)
  | none => deliver q (endSearchForZoom q (activate r c))

/-- The record's last adopted edition becomes `edition`. -/
def newEdition (r : RecordId) (edition : Word) (c : Chip) : Chip :=
  mark .ack (setRecord r { record c r with
    edition := edition, outcome := .active, detail := .none, clamped := false, held := none } c)

/-- A new edition is held behind the previous request, or in the place of a held one. -/
def adoptHeld (r : RecordId) (edition : Word) (q : Request) (d : Detail) (earlier : Bool) (c : Chip) : Chip :=
  mark .ack (setRecord r { record c r with
    edition := edition, outcome := .pending, detail := d, clamped := false, held := some q,
    earlierActive := earlier } c)

/-- The record holds an edition whose condition stands. A SETTINGS hold of R11 belongs to the request's own values. -/
def heldStill (e : RecordState) (c : Chip) : Bool :=
  e.outcome == .pending && e.detail != .heldGeometry && e.detail != .heldLensBusy && holdStands e.detail e c

/-- A newer edition takes the place of a held one, and is held under the same condition (R8). -/
def replaceHeld (r : RecordId) (edition : Word) (q : Request) (c : Chip) : Chip :=
  let e := record c r
  adoptHeld r edition q e.detail e.earlierActive (if e.detail = .heldZoomBusy then endSearchForZoom q c else c)

/-- A new edition of a record is adopted (R8). A FOCUS edition that is only held does not yet end a search (log 14). -/
def adopt (r : RecordId) (edition : Word) (q : Request) (c : Chip) : Chip :=
  let e := record c r
  if heldStill e c then replaceHeld r edition q c
  else if isQueuing r = true ∧ (e.outcome = .active ∨ e.earlierActive = true) then
    adoptHeld r edition q .heldPrevious true c
  else handOver r q (newEdition r edition c)

/-- Requests are read in STARTING and RUNNING; a record with edition 0 or its last adopted edition holds nothing new
(R6, R7), but for SETTINGS until an edition has been handed over in this start (R16). -/
def isNewRequest (r : RecordId) (edition : Word) (c : Chip) : Bool :=
  (c.port.partState == .starting || c.port.partState == .running) && edition != 0
    && (edition != (record c r).edition || (r == .settings && !c.scan.settingsHanded))

/-- A request read from its record (R7, R8). -/
def readNew (r : RecordId) (edition : Word) (q : Request) (c : Chip) : Chip :=
  if isNewRequest r edition c then
    adopt r edition q (if r = .settings then { c with scan := { c.scan with settingsHanded := true } } else c)
  else c

/-- The held request of a record whose hold no longer stands. -/
def heldReady (r : RecordId) (c : Chip) : Option Request :=
  let e := record c r
  if e.outcome = .pending ∧ holdStands e.detail e c = false then e.held else none

/-- The first request that is ready to be handed over, in the order of Table 1-3. -/
def firstReady (c : Chip) : Option (RecordId × Request) :=
  (List.range 9).findSome? (fun i => (heldReady (recordAt i) c).map (recordAt i, ·))

/-- Held requests are handed over one by one in the order of Table 1-3, and the events of each are taken before the next
(R16, R41, R67; log 3). -/
def handNextHeld (c : Chip) : Chip :=
  match firstReady c with
  | some h => raise .handHeld (handOver h.1 h.2 c)
  | none => c

/-- A SETTINGS request held by R11 is checked again at each scan, as it begins (log 20). -/
def recheckSettings (c : Chip) : Chip :=
  let e := record c .settings
  match e.held with
  | some (.settings b) =>
    if e.outcome = .pending ∧ (e.detail = .heldGeometry ∨ e.detail = .heldLensBusy)
        ∧ settingsHold (settingsOf b) c ≠ some e.detail then
      handOver .settings (.settings b) c
    else c
  | _ => c

end Sys2Proof.Machine
end

