-- ==== Sys2Proof/Machine/Part.lean ====
section
/-! DEFINITION. Register Port, Request Scanner and Answer Writer (Chapter 1): register writes, scans, answer writes, the
start and stop sequences, and the resets. -/

namespace Sys2Proof.Machine

def setPort (f : Port → Port) (c : Chip) : Chip := { c with port := f c.port }
def setScan (f : Scan → Scan) (c : Chip) : Chip := { c with scan := f c.scan }

/-- STARTING or RUNNING: the Request Scanner scans (R6). -/
def scanning (c : Chip) : Bool := c.port.partState == .starting || c.port.partState == .running

/-! ### Scans (R6, R7) -/

/-- A scan begins. R11 has a held SETTINGS request checked again "at each scan"; that this is once, as the scan begins and
before any record is read, is the model's (log 20). -/
def scanBegin (c : Chip) : Chip :=
  recheckSettings (setScan (fun s => { s with active := true, position := 0, marked := false }) c)

/-- A scan trigger. -/
def scanTrigger (c : Chip) : Chip :=
  if scanning c then
    if c.scan.active then setScan (fun s => { s with marked := true }) c else scanBegin c
  else c

/-- The scan in progress ends; a marked scan begins at once. -/
def scanEnd (c : Chip) : Chip :=
  let c1 := setScan (fun s => { s with active := false }) c
  if c.scan.marked then scanBegin c1 else c1

/-- The idle period of 8 ms ends. -/
def idleScanTimer (c : Chip) : Chip :=
  if c.pixel.stream ≠ .streaming ∧ c.scan.active = false then scanTrigger c else c

/-- A torn record is skipped and counted (R7, R20). -/
def countTorn (r : RecordId) (c : Chip) : Chip :=
  mark .partState (setRecord r { record c r with torn := (record c r).torn + 1 } c)

/-- The read of the next request record completes (R7). In STOPPING the scan ends after it, and nothing is adopted (R6). -/
def scanRecordRead (leading : Word) (body : List Byte) (trailing : Word) (c : Chip) : Chip :=
  if c.scan.active = true ∧ c.scan.position < 9 then
    let r := recordAt c.scan.position
    let c1 := setScan (fun s => { s with position := s.position + 1, active := scanning c }) c
    if leading ≠ trailing then countTorn r c1 else readNew r leading (readRequest r body) c1
  else c

/-- The release count table read completes (R7, R154). -/
def releaseTableRead (counts : List Half) (c : Chip) : Chip :=
  if c.scan.active = true ∧ c.scan.position = 9 then
    releaseCountsRead counts (setScan (fun s => { s with position := 10, active := scanning c }) c)
  else c

/-- The seen count table read completes, and the scan ends (R7, R14). -/
def seenTableRead (counts : List Half) (c : Chip) : Chip :=
  if c.scan.active = true ∧ c.scan.position = 10 then
    scanEnd { c with notices := { c.notices with seen := counts } }
  else c

/-! ### The Answer Writer (R12) -/

def answerAddress (c : Chip) (a : AnswerId) : Nat := c.port.areaInUse.toNat + 4096 + answerOffset a

/-- The first set place after `last` in cyclic order. -/
def nextMarked (last : Nat) (marks : List Bool) : Option Nat :=
  ((List.range 26).map (fun i => (last + 1 + i) % 26)).find? (fun i => marks.getD i false)

/-- The record write begins: its new stamp and its content, and the leading stamp on the bus. -/
def beginWrite (i : Nat) (c : Chip) : Chip :=
  let a := answerAt i
  let stamp := c.answers.stamps.getD i 0 + 1
  busWrite (answerAddress c a) (put32 stamp.toNat) { c with answers := { c.answers with
    stamps := c.answers.stamps.set i stamp, marks := c.answers.marks.set i false,
    finishing := c.answers.finishing.set i false, last := i, inFlight := some ⟨a, stamp, answerBody a c⟩ } }

/-- The internal copy of LENS takes a drive's part as it stands when an event of R69 or R88 has come in the command (log 37). -/
def takeLensParts (c : Chip) : Chip :=
  { c with answers := { c.answers with
      zoomPart := if c.answers.zoomEvent then zoomPartOf c.zoom else c.answers.zoomPart,
      focusPart := if c.answers.focusEvent then focusPartOf c.focus else c.answers.focusPart,
      zoomEvent := false, focusEvent := false } }

/-- The next marked record is written when no write is in flight. In HALTED only the records marked at its entry are. -/
def writeNext (c : Chip) : Chip :=
  if c.answers.inFlight.isSome then c
  else
    match nextMarked c.answers.last
        (if c.port.partState = .halted then c.answers.finishing else c.answers.marks) with
    | some i => beginWrite i c
    | none => c

/-- The body and the trailing stamp have been written. -/
def answerWritten (c : Chip) : Chip :=
  match c.answers.inFlight with
  | none => c
  | some w =>
    busWrite (answerAddress c w.record + 4) (w.body ++ put32 w.stamp.toNat)
      { c with answers := { c.answers with inFlight := none } }

/-- A bus error on the record write: its mark is cleared, in HALTED among the records still to be written as well, so it is
not written again before its next change (R12, R5; log 21). -/
def answerFailed (c : Chip) : Chip :=
  match c.answers.inFlight with
  | none => c
  | some w =>
    let i := answerIndex w.record
    partFault .answerBusError { c with answers := { c.answers with
      inFlight := none, marks := c.answers.marks.set i false, finishing := c.answers.finishing.set i false } }

/-! ### Start (R2, R16) -/

/-- The fault code is set to NONE by every start that begins (R5). -/
def clearFault (c : Chip) : Chip :=
  if c.port.fault = .none then c else mark .partState (setPort (fun p => { p with fault := .none }) c)

/-- A start begins: AREA_BASE is taken, and the header read begins. -/
def beginStart (areaBase : Word) (c : Chip) : Chip :=
  setPort (fun p => { p with areaInUse := areaBase, startRead := true }) (clearFault c)

/-- Entry to STARTING. Every record is marked, and with it the gathered changes of STABILIZER (R12, R16, R140). -/
def enterStarting (seen : List Half) (c : Chip) : Chip :=
  let c1 := setPartState .starting { c with notices := ⟨seen, seen⟩, stab := { c.stab with gathered := false } }
  let c2 := { c1 with answers := { c1.answers with
    marks := List.replicate 26 true, finishing := List.replicate 26 false, last := 25 } }
  scanBegin (setScan (fun s => { s with settingsHanded := false })
    (setPort (fun p => { p with startRead := false, startStep := .awaitSettings }) c2))

/-- The header and seen count reads of a start complete (R16). -/
def startHeaderRead (layout : Word) (seen : List Half) (c : Chip) : Chip :=
  if c.port.startRead then
    if layout = Config.layoutVersion then enterStarting seen c
    else partFault .badLayout (setPort (fun p => { p with startRead := false }) c)
  else c

/-- A bus error on a Command Page read (R5, R7). -/
def areaBusError (c : Chip) : Chip :=
  if c.port.startRead then partFault .areaBusError (setPort (fun p => { p with startRead := false }) c)
  else if c.scan.active then scanEnd (partFault .areaBusError c)
  else c

/-- Step 5 begins once a SETTINGS request is DONE. -/
def beginZoomStep (c : Chip) : Chip := startZoom (setPort (fun p => { p with startStep := .zoom }) c)

/-- Homing of step 6 has ended, be it with a retarget that moves the drive on; no train still ramps down toward homing or
FAULT (R88; log 27). -/
def focusStartEnded (f : Focus) : Bool := f.state != .homing && f.afterRamp == .none

/-- Step 7 has ended: the writes of the start have set the stream up or put it in FAULT (R22), and the gyro configuration writes
are made. A reconfiguration in the meantime (R24) is no part of the step. -/
def streamsStarted (c : Chip) : Bool := !c.pixel.starting && !c.stab.starting

/-- Entry to RUNNING: presses act, the store state is recomputed and the arbiter chooses, and then the held requests are
handed over (R16, R145, R159, R168). -/
def enterRunning (c : Chip) : Chip :=
  let c1 := setPartState .running (setPort (fun p => { p with startStep := .none }) c)
  raise .handHeld (raise .cardWork (evalPress false false c1))

/-- A step of the start sequence ends and the next begins (R16). -/
def startStepEnd (c : Chip) : Chip :=
  match c.port.startStep with
  | .none | .awaitSettings => c
  | .zoom =>
    if zoomStartEnded c.zoom then startHoming .track (setPort (fun p => { p with startStep := .focus }) c) else c
  | .focus =>
    if focusStartEnded c.focus then
      gyroStart (sensorConfigStart (setPort (fun p => { p with startStep := .streams }) c))
    else c
  | .streams => if streamsStarted c then enterRunning c else c

/-! ### Stop (R17) -/

/-- An entry ends ABANDONED with STOPPED, and so does an earlier request behind it. -/
def abandonRequest (r : RecordId) (c : Chip) : Chip :=
  let e := record c r
  let c1 := if e.earlierActive then
      notice (recordClass r) (setRecord r { e with earlierActive := false } c)
    else c
  if isFinal e.outcome then c1
  else notice (recordClass r) (mark .ack (setRecord r { record c1 r with
    outcome := .abandoned, detail := .stopped, held := none } c1))

/-- The card order has its run in flight: it ends ABANDONED after that run. -/
def orderInFlight (c : Chip) : Bool :=
  match c.card.run with
  | some r => r.kind == .cardOrder && c.store.order.isSome
  | none => false

/-- The CARD_ORDER entry at a stop. -/
def abandonOrder (c : Chip) : Chip :=
  if orderInFlight c then
    let e := record c .cardOrder
    if e.outcome = .pending then
      notice .cardOrder (mark .ack (setRecord .cardOrder { e with
        outcome := .abandoned, detail := .stopped, held := none } c))
    else c
  else setOrder none (abandonRequest .cardOrder c)

def abandonRequests (c : Chip) : Chip :=
  abandonRequest .service (abandonOrder (abandonRequest .spare (abandonRequest .space (abandonRequest .capture
    (abandonRequest .exposure (abandonRequest .focus (abandonRequest .zoom (abandonRequest .settings c))))))))

/-- A load in progress ends (R44). -/
def stopLoad (c : Chip) : Chip :=
  if c.tables.load.isSome then mark .lens { c with tables := { c.tables with load := none } } else c

/-- The frame bytes of the open frame (R36), or those of the settings in force while none is open. -/
def openFrameBytes (c : Chip) : Nat :=
  match c.pixel.frame with
  | some f => f.width * f.height * 3 / 2
  | none => frameBytes (cfg c).sensor

/-- The bytes of a slot buffer after a DMA that ended early (R37). -/
def spoilBuffer (n : Nat) (c : Chip) : Chip :=
  let k := openFrameBytes c
  busWrite (slotBase c n) (freeBytes c.freeIndex k) { c with freeIndex := c.freeIndex + k }

/-- The capture DMA is abandoned with its picture (R37). -/
def abandonDma (c : Chip) : Chip :=
  let c1 := match c.capture.filling, c.pixel.dma with
    | some n, .running => spoilBuffer n c
    | _, _ => c
  { c1 with pixel := { c1.pixel with dma := .abandoned, stopping := .waitDma }, stab := { c1.stab with stopping := .waitDma } }

/-- Sensor and gyro are stopped (R25, R126). -/
def stopStreams (c : Chip) : Chip := gyroStop (writeStreamOff c)

/-- Entry to STOPPING (R17). A scan in progress ends after its current read (R6). -/
def enterStopping (c : Chip) : Chip :=
  let filling := c.capture.filling.isSome
  let c1 := setPartState .stopping (setPort (fun p => { p with startStep := .none }) c)
  let c2 := stopLoad (abandonRequests (setScan (fun s => { s with marked := false }) c1))
  let c3 := if filling then abandonDma c2 else c2
  let c4 := endCaptureHold (stopCapture { c3 with service := none })
  let c5 := stopZoom (stopFocus (stopExposure (stopStab (stopSearch c4))))
  raise .cardWork (if filling then c5 else stopStreams c5)

/-- The Pixel Port reports the end of an abandoned DMA (R37). -/
def dmaAbandonReport (c : Chip) : Chip :=
  if c.pixel.dma = .abandoned then
    let c1 := setPixel (fun p => { p with dma := .idle }) c
    if c1.pixel.stopping = .waitDma then stopStreams c1 else c1
  else c

/-- Every part of the stop sequence has ended (R17). -/
def stopEnded (c : Chip) : Bool :=
  c.port.partState == .stopping && c.card.run.isNone && zoomStopEnded c.zoom && focusAtRest c.focus
    && c.pixel.stopping == .done && stabStopEnded c.stab

/-- Entry to HALTED; with RUN reading 1 a start begins then (R2, R17). -/
def enterHalted (areaBase : Word) (c : Chip) : Chip :=
  let c1 := setControl (fun k => { k with due := false }) (stopExposure (resetFlicker (abortRefetch
    (setScan (fun s => { s with active := false }) c))))
  let c2 := setPartState .halted { c1 with
    pixel := { c1.pixel with stopping := .none }, stab := { c1.stab with stopping := .none } }
  let c3 := { c2 with answers := { c2.answers with finishing := c2.answers.marks } }
  if c3.port.run then beginStart areaBase c3 else c3

def stopSequenceEnd (areaBase : Word) (c : Chip) : Chip := if stopEnded c then enterHalted areaBase c else c

/-! ### Register writes (R1 to R3) -/

/-- A write of the RUN field (R2). -/
def writeRun (areaBase : Word) (run : Bool) (c : Chip) : Chip :=
  let c1 := setPort (fun p => { p with run := run }) c
  match c.port.partState with
  | .halted =>
    if c.port.startRead then
      if run then c1 else clearFault (setPort (fun p => { p with startRead := false }) c1)
    else if run then beginStart areaBase c1 else c1
  | .starting | .running => if run then c1 else enterStopping c1
  | .stopping => c1

/-- A write with NUDGE = 1 and SOFT_RESET = 0 (R3). A start that it begins scans by itself. R3 does not order the two fields of
one write; RUN is taken first, so one with RUN = 0 in STARTING or RUNNING enters STOPPING and its nudge begins and marks no scan
(DESIGN CHOICE, log 24). -/
def writeNudge (areaBase : Word) (run : Bool) (c : Chip) : Chip := scanTrigger (writeRun areaBase run c)

/-! ### Resets (R18) -/

/-- A line at a reset: RELEASED, with a timer for a line that reads pressed (R143). -/
def resetLine (l : Line) : Line := { raw := l.raw, timing := l.raw }

/-- The card at a reset: its state is set from the CARD_DET level (R162). -/
def resetCard (detect : Bool) : Card :=
  { detect := detect, present := detect, state := if detect then .initialising else .absent,
    init := if detect then .goIdle else .none }

/-- Every block in its reset state, with the two counters that the kind of reset gives, which the drives' parts of LENS show too
(R69, R88; log 37). Pins, the time and the free bytes already drawn stay. -/
def resetChip (zoom focus : Int) (c : Chip) : Chip :=
  { answers := { zoomPart := { counter := zoom }, focusPart := { counter := focus, target := focus } }
    zoom := { counter := zoom, reference := c.zoom.reference }
    focus := { counter := focus, target := focus, home := c.focus.home }
    capture := { s1 := resetLine c.capture.s1, s2 := resetLine c.capture.s2 }
    card := resetCard c.card.detect
    busOut := c.busOut, now := c.now, freeIndex := c.freeIndex }

/-- A picture in FILLING at a reset leaves its buffer undefined (R37, R155). -/
def abandonBuffer (c : Chip) : Chip :=
  match c.capture.filling, c.pixel.dma with
  | some n, .running => spoilBuffer n c
  | _, _ => c

def softReset (c : Chip) : Chip := resetChip c.zoom.counter c.focus.counter (abandonBuffer c)

def powerOnReset (c : Chip) : Chip := resetChip 0 0 (abandonBuffer c)

end Sys2Proof.Machine
end

