-- ==== Sys2Proof/Machine/Frames.lean ====
section
/-! DEFINITION. Frames (sections 2.3 and 2.8): what frame start, frame end, truncation and the capture DMA do in each
block that takes them. -/

namespace Sys2Proof.Machine

/-- The DMA once its frame is over: an abandoned one is still to be reported (R37). -/
def dmaAfterFrame : Dma → Dma
  | .idle | .running | .busFailed => .idle
  | .abandoned => .abandoned

/-! ### Truncation (R27, R37) -/

/-- Blocks at the truncation of frame `f`: the picture fails, its window closes, the capture hold ends, and the motion
mark is dropped. -/
def truncateFrame (f : OpenFrame) (c : Chip) : Chip :=
  let c1 := match f.captureSlot, c.pixel.dma with
    | some n, .running => spoilBuffer n c
    | _, _ => c
  let c2 := setFocus (fun x => { x with motion := false })
    (setPixel (fun p => { p with frame := none, nextStart := none, dma := dmaAfterFrame p.dma }) c1)
  match f.captureSlot with
  | none => c2
  | some n => if c.pixel.dma = .abandoned then c2 else endCaptureHold (closeWindow (failPicture n .truncated c2))

/-- The open frame, if any, is truncated. -/
def truncateOpen (c : Chip) : Chip :=
  match c.pixel.frame with
  | none => c
  | some f => truncateFrame f c

/-! ### Frame start (R26, R31, R36) -/

/-- The number of the next frame. -/
def nextFrame (c : Chip) : Word := c.pixel.frameCounter + 1

/-- Frame counter, pipeline and stream state at a frame start. -/
def countFrame (c : Chip) : Chip :=
  let n := nextFrame c
  setStream .streaming (setPixel (fun p => advancePipeline n { p with frameCounter := n }) c)

/-- The frame is open, with the slot that Capture Control claimed for it. It is held to the frame width and height in force now
(log 30). -/
def openFrame (c : Chip) : Chip :=
  let s := cfg c
  setPixel (fun p => { p with
    dma := if c.capture.filling.isSome then .running else p.dma
    frame := some {
      number := p.frameCounter, effective := p.effective, metered := p.pipeline.isEmpty,
      captureSlot := c.capture.filling, geometry := s.stats, width := s.sensor.width, height := s.sensor.height } }) c

/-- The Focus Drive and the Stabilizer at a frame start (R76, R136). The capture hold of a capture frame is in force by then. -/
def beginCaptureFrame (c : Chip) : Chip :=
  let c1 := setFocus (fun x => { x with motion := false }) c
  if c.capture.filling.isSome then openWindow (endRampAtHold c1) else c1

/-- Focus Control and Focus Search at a frame start (R85, R93). -/
def focusFrameStart (c : Chip) : Chip :=
  let c1 := if zoomInMotion c.zoom then retarget c else c
  searchWaitCheck c1

/-- Capture Control at a frame start that has been counted. Where the frame becomes a capture frame the capture hold is in force
first, so a final target that ends a search here is taken into SUSPENDED (R76). -/
def claimFrame (time : Nat) (c : Chip) : Chip :=
  let start := captureFrameStart time c.pixel.frameCounter c.pixel.effective
  if (start c).capture.filling.isSome then start (beginCaptureHold c) else start c

/-- A frame start in STREAMING or STALLED, with no frame open. -/
def takeFrameStart (time : Nat) (c : Chip) : Chip :=
  let c2 := claimFrame time (countFrame c)
  scanTrigger (focusFrameStart (exposureFrameStart (beginCaptureFrame (openFrame c2))))

/-- A frame start from the sensor truncates an open frame first, and after a complete one that waits for its last DMA
write it is raised later (R26 to R28). While a reconfiguration waits for the open frame, it is no more than that frame's
truncation (R24; log 30). `settle` takes the events of the truncation. -/
def frameStart (settle : Chip → Chip) (time : Nat) (upsets : List Upset) (c0 : Chip) : Chip :=
  let c := { c0 with now := max c0.now time, tables := addUpsets upsets c0.tables }
  if streamRunning c.pixel then
    match c.pixel.frame with
    | none => takeFrameStart time c
    | some f =>
      if f.received.isSome then setPixel (fun p => { p with nextStart := some time }) c
      else if c.pixel.reconfigure then truncateOpen c
      else takeFrameStart time (settle (truncateOpen c))
  else c

/-- The end `c1` of a frame is followed by the frame start that waited for it, if any, with the time at which the sensor began
it (R28; log 30). A reconfiguration that
waited for the frame comes first (R24; log 30). -/
def takeNextStart (settle : Chip → Chip) (waited : Option Nat) (c1 : Chip) : Chip :=
  match waited with
  | none => c1
  | some time =>
    let c := settle c1
    if streamRunning c.pixel && !c.pixel.reconfigure then takeFrameStart time c else c

/-- The open frame is truncated by command (R27), and a frame start that waited for its end is raised (R28). -/
def cutFrame (settle : Chip → Chip) (c : Chip) : Chip := takeNextStart settle c.pixel.nextStart (truncateOpen c)

/-! ### Frame end (R28, R32, R33) -/

/-- Capture Control at the frame end of a capture frame: the frame is in the slot, or its DMA failed (R36, R151, R153). -/
def captureFrameEnd (f : OpenFrame) (frame : List (List Nat)) (dma : Dma) (c : Chip) : Chip :=
  match f.captureSlot with
  | none => c
  | some n =>
    let c1 := match dma with
      | .running =>
        let bytes := packFrame frame
        completePicture n bytes.length (busWrite (slotBase c n) bytes c)
      | .busFailed => failPicture n .dmaBusError c
      | .idle | .abandoned => c
    closeWindow c1

/-- A complete frame: its frame end is raised. -/
def completeFrame (f : OpenFrame) (lines : List (List (BitVec 12))) (c : Chip) : Chip :=
  let frame := activeFrame f.width f.height lines
  let dma := c.pixel.dma
  let c1 := setPixel (fun p => { p with frame := none, nextStart := none, dma := dmaAfterFrame p.dma }) c
  let c2 := captureFrameEnd f frame dma (meterFrame f (zoneMeans f.geometry frame) c1)
  let c3 := focusSample f.metered (focusValues f.geometry frame) c2
  let c4 := if f.captureSlot.isSome then endCaptureHold c3 else c3
  markGatheredStab (markGatheredExposure c4)

/-- All of the frame is received. A capture frame whose last DMA write is not acknowledged waits for it (R28, R37). -/
def receiveFrame (f : OpenFrame) (lines : List (List (BitVec 12))) (written : Bool) (c : Chip) : Chip :=
  if f.captureSlot.isSome && !written then setPixel (fun p => { p with frame := some { f with received := some lines } }) c
  else completeFrame f lines c

/-- The frame-valid period ends: the frame is received, or truncated when lines or pixels are missing (R27, R28). On a
frame that has been received, its last DMA write is acknowledged, and a frame start that waited is raised. The lines of a later
frame that the sensor ends in that wait are dropped: its FRAME_END is taken as that acknowledgement, or as nothing (DESIGN CHOICE,
log 30). -/
def frameEnd (settle : Chip → Chip) (lines : List (List (BitVec 12))) (written : Bool) (c : Chip) : Chip :=
  match c.pixel.frame with
  | none => c
  | some f =>
    match f.received with
    | some received => if written then takeNextStart settle c.pixel.nextStart (completeFrame f received c) else c
    | none => if frameReceived f.width f.height lines then receiveFrame f lines written c else truncateFrame f c

/-! ### DMA (R37) -/

/-- A bus error on a slot write ends the DMA; the frame goes on. -/
def dmaBusError (c : Chip) : Chip :=
  match c.pixel.dma, c.capture.filling with
  | .running, some n => setPixel (fun p => { p with dma := .busFailed }) (spoilBuffer n c)
  | _, _ => c

end Sys2Proof.Machine
end

