-- ==== Sys2Proof/Machine/Events.lean ====
section
/-! DEFINITION. Which blocks take an event that a block raises (section 0.2.1), and the end of every command: events
are taken, LENS takes the drives' parts that changed, the notice lines are evaluated, the next answer write begins, and
the bus writes reach memory. -/

namespace Sys2Proof.Machine

/-- The motor has come back to tracking at an entry to IDLE: homing with goal tracking, or the focus part of a SERVICE, has
ended, and no retarget is due. -/
def motorReturns (fromHoming : Bool) (before after : Chip) : Bool :=
  after.focus.state == .idle && !after.control.due && retargetAllowed after && trackingHolds after
    && ((fromHoming && after.focus.homingGoal == .track) || serviceInFocus before)

/-- The Focus Drive enters IDLE: the step of an episode (R103), the focus part of a SERVICE (R87), and on-track (R86). When
the motor comes back to tracking, the retarget for events that came meanwhile is made first, and the entry to IDLE that ends it
raises on-track (R81, R86, R87; log 27). -/
def focusEntersIdle (fromHoming : Bool) (c : Chip) : Chip :=
  let c1 := if c.focus.state = .idle then followingMoveEnd c else c
  let c2 := focusPartIdle fromHoming c1
  if motorReturns fromHoming c1 c2 then doRetarget c2
  else if c2.focus.state = .idle ∧ (c2.control.mode = .tracking ∨ c2.control.mode = .manual) ∧ c2.control.due = false
      ∧ c2.control.lastTarget = some c2.focus.counter then
    raise .onTrack c2
  else c2

/-- The Focus Drive enters FAULT or LOST (R80, R100, R146). -/
def focusStopsWork (c : Chip) : Chip :=
  let c1 := { c with following := { c.following with moving := false } }
  waitZoomCheck (if c1.focus.state = .fault then endEarly .failed c1.focus.fault c1 else c1)

/-- The zoom ceases to be still (R100). -/
def searchZoomStirred (c : Chip) : Chip :=
  if c.search.phase = .searchWait then c else endEarly .abandoned .zoomMoved c

/-- A tables-replaced event (R42, R54, R80, R85, R100, R109, R137). -/
def tablesReplaced (c : Chip) : Chip :=
  retargetAgain (endEarly .abandoned .tablesReplaced
    (readGains (readLensCopy (focusTablesReplaced (zoomTablesReplaced c)))))

/-- A block-restored event (R54, R85, R93, R109, R137). -/
def blockRestored (b : TableBlock) (c : Chip) : Chip :=
  let c1 := match b with
    | .zp => readGains (readLensCopy (zoomPointsRestored c))
    | .tr0 | .tr1 => c
  searchBlockRestored (retargetIfDue c1)

/-- The hand-over of held requests follows every other event that has been raised (log 3). -/
def takeHandHeld (c : Chip) : Chip :=
  if c.events = [] then handNextHeld c
  else if c.events.contains .handHeld then c
  else raise .handHeld c

/-- What each event does in the blocks that take it (log 3 for the order). -/
def handle (e : Event) (c : Chip) : Chip :=
  match e with
  | .zoneCrossing z _ => retarget (stabCrossing z (exposureCrossing z c))
  | .zoomSettled => searchWaitCheck (retarget c)
  | .zoomStirred => searchZoomStirred c
  | .zoomResume => resumeZoom c
  | .blockLost => holdZoom c
  | .blockRestored b => blockRestored b c
  | .tablesReplaced => tablesReplaced c
  | .lensTableFault => focusTableFault (zoomTableFault c)
  | .focusIdle h => focusEntersIdle h c
  | .focusStopped => focusStopsWork c
  | .onTrack => waitZoomCheck (finish .focus .done .none c)
  | .pressChange h f => evalPress h f c
  | .halfPress => searchHalfPress (exposureHalfPress c)
  | .halfPressEnd => searchHalfPressEnd (exposureHalfPressEnd c)
  | .captureEngaged => captureEngaged c
  | .captureReleased => captureReleased c
  | .waitZoomCheck => waitZoomCheck c
  | .burstEnd => raise .handHeld c
  | .streamFault => captureStreamFault c
  | .searchHoldBegin => searchHoldBegin c
  | .searchHoldEnd => searchHoldEnd c
  | .searchOver k => captureSearchOver k c
  | .creditChange n => exposureCredit n c
  | .flickerChange => limitChange c
  | .beginZoomStep => beginZoomStep c
  | .zoomServed => zoomPartServed c
  | .handHeld => takeHandHeld c
  | .cardWork => cardWork c

/-- Events are taken in the order raised, up to a number that no command reaches (log 3). -/
def drain : Nat → Chip → Chip
  | 0, c => c
  | n + 1, c =>
    match c.events with
    | [] => c
    | e :: es => drain n (handle e { c with events := es })

def eventLimit : Nat := 256

def settle (c : Chip) : Chip := drain eventLimit c

/-- The end of a command: events, continuous following, the drives' parts of LENS, notice lines, and the next answer write. -/
def conclude (c : Chip) : Chip := writeNext (evalLines (takeLensParts (evalFollowing (settle c))))

/-- The state after a command whose own effect left the part at `c`: the command is concluded, and the bus writes
reach memory. -/
def concluded (c : Chip) (s : State) : State :=
  let d := conclude c
  { s with memory := Memory.writeAll s.memory d.busOut, chip := { d with busOut := [] } }

/-- A meaning whose own effect on the part is `f`. -/
def commit (f : Chip → Chip) (s : State) : Host.Outcome State Fault Refusal := .next (concluded (f s.chip) s)

end Sys2Proof.Machine
end

