-- ==== Sys2Proof/Machine/CmdPart.lean ====
section
/-! DEFINITION. Meanings of the commands of Chapter 1: resets, register writes, start and stop, scans and answer
writes. -/

namespace Sys2Proof.Machine

/-- What every meaning answers. -/
abbrev Result := Host.Outcome State Fault Refusal

/-- POWER_ON_RESET (R18): AREA_BASE becomes 0. -/
def execPowerOnReset (s : State) : Result := commit powerOnReset { s with areaBase := 0 }

/-- SOFT_RESET (R18): AREA_BASE keeps its value. -/
def execSoftReset (s : State) : Result := commit softReset s

/-- The value with its low 12 bits taken as 0 (R1). -/
def alignedBase (value : Word) : Word := value &&& 0xFFFFF000#32

/-- AREA_BASE_WRITE (R1): stored while HALTED, ignored otherwise. -/
def execAreaBaseWrite (value : Word) (s : State) : Result :=
  .next (if s.chip.port.partState = .halted then { s with areaBase := alignedBase value } else s)

/-- RUN_WRITE (R2). -/
def execRunWrite (run : Bool) (s : State) : Result := commit (writeRun s.areaBase run) s

/-- NUDGE (R3); the write carries a RUN value. -/
def execNudge (run : Bool) (s : State) : Result := commit (writeNudge s.areaBase run) s

/-- REGISTER_WRITE_IGNORED (R4). -/
def execRegisterWriteIgnored (_register : ReadOnlyRegister) (_value : Word) (s : State) : Result := .next s

/-- START_HEADER_READ (R16). -/
def execStartHeaderRead (layout seen : List Byte) (s : State) : Result :=
  commit (startHeaderRead (wordOf layout) (halvesOf seen)) s

/-- AREA_BUS_ERROR (R5). -/
def execAreaBusError (s : State) : Result := commit areaBusError s

/-- START_STEP_END (R16). -/
def execStartStepEnd (s : State) : Result := commit startStepEnd s

/-- STOP_SEQUENCE_END (R17). -/
def execStopSequenceEnd (s : State) : Result := commit (stopSequenceEnd s.areaBase) s

/-- IDLE_SCAN_TIMER (R6). -/
def execIdleScanTimer (s : State) : Result := commit idleScanTimer s

/-- SCAN_RECORD_READ (R7). -/
def execScanRecordRead (leading body trailing : List Byte) (s : State) : Result :=
  commit (scanRecordRead (wordOf leading) body (wordOf trailing)) s

/-- RELEASE_COUNT_READ (R154). -/
def execReleaseCountRead (counts : List Byte) (s : State) : Result :=
  commit (releaseTableRead (halvesOf counts)) s

/-- SEEN_COUNT_READ (R14). -/
def execSeenCountRead (counts : List Byte) (s : State) : Result :=
  commit (seenTableRead (halvesOf counts)) s

/-- ANSWER_RECORD_WRITE (R12). -/
def execAnswerRecordWrite (s : State) : Result := commit answerWritten s

/-- ANSWER_BUS_ERROR (R12). -/
def execAnswerBusError (s : State) : Result := commit answerFailed s

end Sys2Proof.Machine
end

