-- ==== Sys2Proof/Machine/CmdCapture.lean ====
section
/-! DEFINITION. Meanings of the commands of the Stabilizer and of Capture Control (Chapters 8 and 9). -/

namespace Sys2Proof.Machine

/-- GYRO_CONFIG_WRITE_DONE (R126). -/
def execGyroConfigWriteDone (s : State) : Result := commit gyroConfigWriteDone s

/-- GYRO_DATA_READY (R126). -/
def execGyroDataReady (s : State) : Result := commit gyroDataReady s

/-- A signed rate from its two bytes, the low one first (R126). -/
def rateOf (b : RateBytes) : Int := (b.high ++ b.low).toInt

/-- GYRO_SAMPLE (R131): the 4 bytes of the read, x and then y. -/
def execGyroSample (rateX rateY : RateBytes) (s : State) : Result := commit (gyroSample (rateOf rateX) (rateOf rateY)) s

/-- GYRO_LOST (R127). -/
def execGyroLost (s : State) : Result := commit gyroLost s

/-- GYRO_STOP_WRITE_DONE (R126). -/
def execGyroStopWriteDone (s : State) : Result := commit gyroStopWriteDone s

/-- LEARN_TIMER (R130). -/
def execLearnTimer (s : State) : Result := commit learnTimer s

/-- RAMP_TIMER (R133). -/
def execRampTimer (s : State) : Result := commit rampTimer s

/-- STABILIZER_RECORD_TIMER (R140). -/
def execStabilizerRecordTimer (s : State) : Result := commit markGatheredStab s

/-- BUTTON_LINE_CHANGE (R143). -/
def execButtonLineChange (line : Button) (pressed : Bool) (s : State) : Result :=
  commit (buttonChange line pressed) s

/-- QUALIFICATION_TIMER (R143). -/
def execQualificationTimer (line : Button) (s : State) : Result := commit (qualificationTimer line) s

/-- FOCUS_WAIT_TIMER (R147). -/
def execFocusWaitTimer (s : State) : Result := commit focusWaitTimer s

end Sys2Proof.Machine
end

