-- ==== Sys2Proof/Machine/CmdCard.lean ====
section
/-! DEFINITION. Meanings of the commands of the Card Port (Chapter 10). -/

namespace Sys2Proof.Machine

/-- CARD_DET_CHANGE (R162). -/
def execCardDetChange (present : Bool) (s : State) : Result := commit (cardDetChange present) s

/-- CARD_DET_TIMER (R162). -/
def execCardDetTimer (s : State) : Result := commit cardDetTimer s

/-- CARD_RESPONSE (R163); the capacity is that of IDENTIFY. -/
def execCardResponse (capacity : Word) (s : State) : Result := commit (cardResponse capacity.toNat) s

/-- CARD_STATUS_TOKEN (R163). -/
def execCardStatusToken (token : StatusToken) (s : State) : Result := commit (cardStatusToken token) s

/-- CARD_BUSY_END (R163). -/
def execCardBusyEnd (s : State) : Result := commit cardBusyEnd s

/-- CARD_READ_BLOCK (R163). -/
def execCardReadBlock (crcOk : Bool) (data : List Byte) (s : State) : Result := commit (cardReadBlock crcOk data) s

/-- CARD_RESPONSE_TIMEOUT (R163). -/
def execCardResponseTimeout (s : State) : Result := commit cardResponseTimeout s

/-- CARD_BUSY_TIMEOUT (R163). -/
def execCardBusyTimeout (s : State) : Result := commit cardBusyTimeout s

/-- CARD_MEMORY_BUS_ERROR (R163). -/
def execCardMemoryBusError (s : State) : Result := commit cardMemoryBusError s

end Sys2Proof.Machine
end

