-- ==== Sys2Proof/Machine/CmdLens.lean ====
section
/-! DEFINITION. Meanings of the commands of the Lens Table Memory, the Zoom Drive and the Focus Drive (Chapters 3 to
5). -/

namespace Sys2Proof.Machine

/-- TABLE_BLOCK_READ (R42). -/
def execTableBlockRead (block : List Byte) (s : State) : Result := commit (loadRead (wordsOf block)) s

/-- TABLE_LOAD_BUS_ERROR (R42). -/
def execTableLoadBusError (s : State) : Result := commit loadReadError s

/-- TABLES_PLACE (R42). -/
def execTablesPlace (s : State) : Result := commit tablesPlace s

/-- The next queued refetch begins (R47). -/
def startRefetch (c : Chip) : Chip :=
  if canRefetch c then
    match nextRefetch c.tables with
    | some b => beginRefetch b c
    | none => c
  else c

/-- REFETCH_BEGIN (R47). -/
def execRefetchBegin (s : State) : Result := commit startRefetch s

/-- A refetch read completes (R47). -/
def refetchRead (words : List Word) (c : Chip) : Chip :=
  match c.tables.refetch with
  | some w => finishRefetch words w c
  | none => c

/-- REFETCH_READ (R47). -/
def execRefetchRead (block : List Byte) (s : State) : Result := commit (refetchRead (wordsOf block)) s

/-- A bus error on a refetch read (R47). -/
def refetchReadError (c : Chip) : Chip :=
  match c.tables.refetch with
  | some w => refetchBusFault w c
  | none => c

/-- REFETCH_BUS_ERROR (R47). -/
def execRefetchBusError (s : State) : Result := commit refetchReadError s

/-- ENCODER_TRANSITION (R52). -/
def execEncoderTransition (transition : EncoderStep) (s : State) : Result := commit (encoderStep transition) s

/-- REFERENCE_EDGE (R63). -/
def execReferenceEdge (level : SensorLevel) (s : State) : Result := commit (referenceChange level) s

/-- ZOOM_BRAKE_TIMER (R56). -/
def execZoomBrakeTimer (s : State) : Result := commit brakeTimer s

/-- ZOOM_SETTLE_TIMER (R57). -/
def execZoomSettleTimer (s : State) : Result := commit settleTimer s

/-- ZOOM_STALL_TIMER (R61). -/
def execZoomStallTimer (s : State) : Result := commit stallTimer s

/-- HOMING_TIMER (R63). -/
def execHomingTimer (s : State) : Result := commit homingTimeout s

/-- DRIFT_TIMER (R68). -/
def execDriftTimer (s : State) : Result := commit driftEnd s

/-- FOCUS_PULSE (R73). -/
def execFocusPulse (time : Nat) (s : State) : Result := commit (focusPulse time) s

/-- REVERSAL_DWELL_END (R74). -/
def execReversalDwellEnd (s : State) : Result := commit dwellEnd s

/-- HOME_SENSOR_CHANGE (R77). -/
def execHomeSensorChange (level : SensorLevel) (s : State) : Result := commit (homeChange level) s

/-- HOME_PULSE_LIMIT (R79). -/
def execHomePulseLimit (s : State) : Result := commit homePulseLimit s

end Sys2Proof.Machine
end

