-- ==== Sys2Proof/Machine/CmdRequests.lean ====
section
/-! DEFINITION. Meanings of the request commands: each is a new edition read from its record (R7, R8), dealt with as the
record's owner states. -/

namespace Sys2Proof.Machine

/-- SETTINGS (R11). -/
def execSettings (edition : Word) (body : List Byte) (s : State) : Result :=
  commit (readNew .settings edition (.settings body)) s

/-- SERVICE REHOME_LENS (R63). -/
def execRehomeLens (edition : Word) (s : State) : Result :=
  commit (readNew .service edition (.service .rehomeLens)) s

/-- SERVICE PARK (R64). -/
def execPark (edition : Word) (s : State) : Result := commit (readNew .service edition (.service .park)) s

/-- SERVICE UNPARK (R64). -/
def execUnpark (edition : Word) (s : State) : Result := commit (readNew .service edition (.service .unpark)) s

/-- SERVICE CLEAR_COUNTERS (R170). -/
def execClearCounters (edition : Word) (s : State) : Result :=
  commit (readNew .service edition (.service .clearCounters)) s

/-- SERVICE CLEAR_FLAGS (R139). -/
def execClearFlags (edition : Word) (s : State) : Result :=
  commit (readNew .service edition (.service .clearFlags)) s

/-- SERVICE RESTART_STABILIZER (R139). -/
def execRestartStabilizer (edition : Word) (s : State) : Result :=
  commit (readNew .service edition (.service .restartStabilizer)) s

/-- SERVICE RESTART_CARD (R165). -/
def execRestartCard (edition : Word) (s : State) : Result :=
  commit (readNew .service edition (.service .restartCard)) s

/-- ZOOM GOTO (R59). -/
def execZoomGoto (edition position : Word) (s : State) : Result :=
  commit (readNew .zoom edition (zoomGotoRequest position)) s

/-- ZOOM GOTO_ZONE (R59). -/
def execZoomGotoZone (edition zone : Word) (s : State) : Result :=
  commit (readNew .zoom edition (zoomGotoZoneRequest zone)) s

/-- ZOOM RUN (R59). -/
def execZoomRun (edition direction : Word) (s : State) : Result :=
  commit (readNew .zoom edition (zoomRunRequest direction)) s

/-- ZOOM STOP (R59). -/
def execZoomStop (edition : Word) (s : State) : Result := commit (readNew .zoom edition (.zoom .stop)) s

/-- FOCUS SET_DISTANCE (R81). -/
def execSetDistance (edition : Word) (distance : Half) (s : State) : Result :=
  commit (readNew .focus edition (.focus (.setDistance distance.toNat))) s

/-- FOCUS RESUME_TRACKING (R81). -/
def execResumeTracking (edition : Word) (s : State) : Result :=
  commit (readNew .focus edition (.focus .resumeTracking)) s

/-- FOCUS SEARCH (R92). -/
def execSearch (edition : Word) (s : State) : Result := commit (readNew .focus edition (.focus .search)) s

/-- FOCUS CONTINUOUS_ON (R101). -/
def execContinuousOn (edition : Word) (s : State) : Result :=
  commit (readNew .focus edition (.focus .continuousOn)) s

/-- EXPOSURE AUTO (R121). -/
def execExposureAuto (edition : Word) (compensation : Half) (s : State) : Result :=
  commit (readNew .exposure edition (.exposure (.auto compensation.toInt))) s

/-- EXPOSURE LOCK (R121). -/
def execExposureLock (edition : Word) (s : State) : Result :=
  commit (readNew .exposure edition (.exposure .lock)) s

/-- EXPOSURE MANUAL (R121). -/
def execExposureManual (edition : Word) (xt xg xa : Half) (s : State) : Result :=
  commit (readNew .exposure edition (.exposure (.manual xt.toNat xg.toNat xa.toNat))) s

/-- CAPTURE PREPARE (R144). -/
def execCapturePrepare (edition : Word) (s : State) : Result :=
  commit (readNew .capture edition (.capture .prepare)) s

/-- CAPTURE START_BURST (R144). -/
def execStartBurst (edition : Word) (count : Byte) (s : State) : Result :=
  commit (readNew .capture edition (.capture (.startBurst count.toNat))) s

/-- CAPTURE STOP (R144). -/
def execCaptureStop (edition : Word) (s : State) : Result :=
  commit (readNew .capture edition (.capture .stop)) s

/-- SPACE (R158). -/
def execSpace (edition start count : Word) (s : State) : Result :=
  commit (readNew .space edition (.space start.toNat count.toNat)) s

/-- SPARE (R158). -/
def execSpare (edition start count : Word) (s : State) : Result :=
  commit (readNew .spare edition (.spare start.toNat count.toNat)) s

/-- CARD_ORDER (R167). -/
def execCardOrder (edition : Word) (kind : Byte) (count : Half) (sector address : Word) (s : State) : Result :=
  commit (readNew .cardOrder edition (cardOrderRequest kind count sector address)) s

end Sys2Proof.Machine
end

