-- ==== Sys2Proof/Machine/CmdSensor.lean ====
section
/-! DEFINITION. Meanings of the commands of the Pixel Port, the Flicker Detector and the Exposure Unit's record timer
(Chapters 2 and 7). -/

namespace Sys2Proof.Machine

/-- CONFIG_WRITE_DONE (R22). -/
def execConfigWriteDone (acknowledged : Bool) (s : State) : Result := commit (configWriteDone acknowledged) s

/-- SENSOR_RECONFIGURE (R24). -/
def execSensorReconfigure (s : State) : Result := commit beginReconfigure s

/-- STALL_TIMEOUT (R23). -/
def execStallTimeout (s : State) : Result := commit stallTimeout s

/-- FRAME_START (R26). -/
def execFrameStart (time : Nat) (upsets : List Upset) (s : State) : Result :=
  commit (frameStart settle time upsets) s

/-- FRAME_END (R28): the frame-valid period ends; on a frame that waits for its last DMA write, that write is
acknowledged. -/
def execFrameEnd (frame : ReceivedFrame) (s : State) : Result := commit (frameEnd settle frame.lines frame.written) s

/-- FRAME_TRUNCATED (R27): the frame-valid period ends short. -/
def execFrameTruncated (s : State) : Result := commit (cutFrame settle) s

/-- TRUNCATION_TIMEOUT (R27): no frame end within 2 frame periods. -/
def execTruncationTimeout (s : State) : Result := commit (cutFrame settle) s

/-- SENSOR_WRITE_DONE (R30). -/
def execSensorWriteDone (s : State) : Result := commit sensorWriteDone s

/-- SENSOR_WRITE_NOT_ACKNOWLEDGED (R29): the write and its repeat are not acknowledged. -/
def execSensorWriteNotAcknowledged (s : State) : Result := commit sensorWriteLost s

/-- DMA_BUS_ERROR (R37). -/
def execDmaBusError (s : State) : Result := commit dmaBusError s

/-- DMA_ABANDON_REPORT (R37). -/
def execDmaAbandonReport (s : State) : Result := commit dmaAbandonReport s

/-- STREAM_OFF_WRITE_DONE (R25): a missing acknowledgement is ignored. -/
def execStreamOffWriteDone (_acknowledged : Bool) (s : State) : Result := commit streamOffDone s

/-- FLK_EDGE (R34). -/
def execFlkEdge (time : Nat) (s : State) : Result := commit (flkEdge time) s

/-- FLICKER_TIMEOUT (R35). -/
def execFlickerTimeout (s : State) : Result := commit flickerTimeout s

/-- EXPOSURE_RECORD_TIMER (R123). -/
def execExposureRecordTimer (s : State) : Result := commit markGatheredExposure s

end Sys2Proof.Machine
end

