-- ==== Sys2Proof/Machine/Dispatch.lean ====
section
/-! DEFINITION. One meaning per command. -/

namespace Sys2Proof.Machine

def exec (i : Instr) (s : State) : Host.Outcome State Fault Refusal :=
  match i with
  | .powerOnReset => Sys2Proof.Machine.execPowerOnReset s
  | .softReset => Sys2Proof.Machine.execSoftReset s
  | .areaBaseWrite value => Sys2Proof.Machine.execAreaBaseWrite value s
  | .runWrite run => Sys2Proof.Machine.execRunWrite run s
  | .nudge run => Sys2Proof.Machine.execNudge run s
  | .registerWriteIgnored register value => Sys2Proof.Machine.execRegisterWriteIgnored register value s
  | .startHeaderRead layout seen => Sys2Proof.Machine.execStartHeaderRead layout seen s
  | .areaBusError => Sys2Proof.Machine.execAreaBusError s
  | .startStepEnd => Sys2Proof.Machine.execStartStepEnd s
  | .stopSequenceEnd => Sys2Proof.Machine.execStopSequenceEnd s
  | .idleScanTimer => Sys2Proof.Machine.execIdleScanTimer s
  | .scanRecordRead leading body trailing => Sys2Proof.Machine.execScanRecordRead leading body trailing s
  | .releaseCountRead counts => Sys2Proof.Machine.execReleaseCountRead counts s
  | .seenCountRead counts => Sys2Proof.Machine.execSeenCountRead counts s
  | .answerRecordWrite => Sys2Proof.Machine.execAnswerRecordWrite s
  | .answerBusError => Sys2Proof.Machine.execAnswerBusError s
  | .settings edition body => Sys2Proof.Machine.execSettings edition body s
  | .rehomeLens edition => Sys2Proof.Machine.execRehomeLens edition s
  | .park edition => Sys2Proof.Machine.execPark edition s
  | .unpark edition => Sys2Proof.Machine.execUnpark edition s
  | .clearCounters edition => Sys2Proof.Machine.execClearCounters edition s
  | .clearFlags edition => Sys2Proof.Machine.execClearFlags edition s
  | .restartStabilizer edition => Sys2Proof.Machine.execRestartStabilizer edition s
  | .restartCard edition => Sys2Proof.Machine.execRestartCard edition s
  | .configWriteDone acknowledged => Sys2Proof.Machine.execConfigWriteDone acknowledged s
  | .sensorReconfigure => Sys2Proof.Machine.execSensorReconfigure s
  | .stallTimeout => Sys2Proof.Machine.execStallTimeout s
  | .frameStart time upsets => Sys2Proof.Machine.execFrameStart time upsets s
  | .frameEnd frame => Sys2Proof.Machine.execFrameEnd frame s
  | .frameTruncated => Sys2Proof.Machine.execFrameTruncated s
  | .truncationTimeout => Sys2Proof.Machine.execTruncationTimeout s
  | .sensorWriteDone => Sys2Proof.Machine.execSensorWriteDone s
  | .sensorWriteNotAcknowledged => Sys2Proof.Machine.execSensorWriteNotAcknowledged s
  | .dmaBusError => Sys2Proof.Machine.execDmaBusError s
  | .dmaAbandonReport => Sys2Proof.Machine.execDmaAbandonReport s
  | .flkEdge time => Sys2Proof.Machine.execFlkEdge time s
  | .flickerTimeout => Sys2Proof.Machine.execFlickerTimeout s
  | .tableBlockRead words => Sys2Proof.Machine.execTableBlockRead words s
  | .tableLoadBusError => Sys2Proof.Machine.execTableLoadBusError s
  | .tablesPlace => Sys2Proof.Machine.execTablesPlace s
  | .refetchBegin => Sys2Proof.Machine.execRefetchBegin s
  | .refetchRead words => Sys2Proof.Machine.execRefetchRead words s
  | .refetchBusError => Sys2Proof.Machine.execRefetchBusError s
  | .encoderTransition transition => Sys2Proof.Machine.execEncoderTransition transition s
  | .referenceEdge level => Sys2Proof.Machine.execReferenceEdge level s
  | .zoomBrakeTimer => Sys2Proof.Machine.execZoomBrakeTimer s
  | .zoomSettleTimer => Sys2Proof.Machine.execZoomSettleTimer s
  | .zoomStallTimer => Sys2Proof.Machine.execZoomStallTimer s
  | .homingTimer => Sys2Proof.Machine.execHomingTimer s
  | .driftTimer => Sys2Proof.Machine.execDriftTimer s
  | .zoomGoto edition position => Sys2Proof.Machine.execZoomGoto edition position s
  | .zoomGotoZone edition zone => Sys2Proof.Machine.execZoomGotoZone edition zone s
  | .zoomRun edition direction => Sys2Proof.Machine.execZoomRun edition direction s
  | .zoomStop edition => Sys2Proof.Machine.execZoomStop edition s
  | .focusPulse time => Sys2Proof.Machine.execFocusPulse time s
  | .reversalDwellEnd => Sys2Proof.Machine.execReversalDwellEnd s
  | .homeSensorChange level => Sys2Proof.Machine.execHomeSensorChange level s
  | .homePulseLimit => Sys2Proof.Machine.execHomePulseLimit s
  | .setDistance edition distance => Sys2Proof.Machine.execSetDistance edition distance s
  | .resumeTracking edition => Sys2Proof.Machine.execResumeTracking edition s
  | .search edition => Sys2Proof.Machine.execSearch edition s
  | .continuousOn edition => Sys2Proof.Machine.execContinuousOn edition s
  | .exposureAuto edition compensation => Sys2Proof.Machine.execExposureAuto edition compensation s
  | .exposureLock edition => Sys2Proof.Machine.execExposureLock edition s
  | .exposureManual edition xt xg xa => Sys2Proof.Machine.execExposureManual edition xt xg xa s
  | .exposureRecordTimer => Sys2Proof.Machine.execExposureRecordTimer s
  | .gyroConfigWriteDone => Sys2Proof.Machine.execGyroConfigWriteDone s
  | .gyroDataReady => Sys2Proof.Machine.execGyroDataReady s
  | .gyroSample rateX rateY => Sys2Proof.Machine.execGyroSample rateX rateY s
  | .gyroLost => Sys2Proof.Machine.execGyroLost s
  | .gyroStopWriteDone => Sys2Proof.Machine.execGyroStopWriteDone s
  | .learnTimer => Sys2Proof.Machine.execLearnTimer s
  | .rampTimer => Sys2Proof.Machine.execRampTimer s
  | .stabilizerRecordTimer => Sys2Proof.Machine.execStabilizerRecordTimer s
  | .buttonLineChange line pressed => Sys2Proof.Machine.execButtonLineChange line pressed s
  | .qualificationTimer line => Sys2Proof.Machine.execQualificationTimer line s
  | .capturePrepare edition => Sys2Proof.Machine.execCapturePrepare edition s
  | .startBurst edition count => Sys2Proof.Machine.execStartBurst edition count s
  | .captureStop edition => Sys2Proof.Machine.execCaptureStop edition s
  | .focusWaitTimer => Sys2Proof.Machine.execFocusWaitTimer s
  | .space edition start count => Sys2Proof.Machine.execSpace edition start count s
  | .spare edition start count => Sys2Proof.Machine.execSpare edition start count s
  | .cardOrder edition kind count sector address => Sys2Proof.Machine.execCardOrder edition kind count sector address s
  | .cardDetChange present => Sys2Proof.Machine.execCardDetChange present s
  | .cardDetTimer => Sys2Proof.Machine.execCardDetTimer s
  | .cardResponse capacity => Sys2Proof.Machine.execCardResponse capacity s
  | .cardStatusToken token => Sys2Proof.Machine.execCardStatusToken token s
  | .cardBusyEnd => Sys2Proof.Machine.execCardBusyEnd s
  | .cardReadBlock crcOk data => Sys2Proof.Machine.execCardReadBlock crcOk data s
  | .cardResponseTimeout => Sys2Proof.Machine.execCardResponseTimeout s
  | .cardBusyTimeout => Sys2Proof.Machine.execCardBusyTimeout s
  | .cardMemoryBusError => Sys2Proof.Machine.execCardMemoryBusError s
  | .streamOffWriteDone acknowledged => Sys2Proof.Machine.execStreamOffWriteDone acknowledged s

end Sys2Proof.Machine
end

