-- ==== Sys2Proof/Safety.lean ====
section
/-! DEFINITION. What it is for a run of the part to be safe, and the state properties that every step should keep. -/

namespace Sys2Proof.Machine

/-- The step at `s` ends the run. -/
def Stops (s : State) : Prop := (∃ r, step s = .fault r) ∨ ∃ r, step s = .refused r

/-- `t` follows from `s` in `n` steps, each of which answers a next state. -/
inductive Reaches : Nat → State → State → Prop
  | refl (s : State) : Reaches 0 s s
  | step {n : Nat} {s t u : State} : Reaches n s t → Machine.step t = .next u → Reaches (n + 1) s u

/-- No state reached from `s` stops. -/
def Safe (s : State) : Prop := ∀ n t, Reaches n s t → ¬ Stops t

/-- A state property that every step keeps. -/
def Kept (inv : State → Prop) : Prop := ∀ s t, inv s → step s = .next t → inv t

/-- Some enabled class whose steering code is one of `codes` has unequal counts, outside HALTED; before any settings are
in force every class is enabled and its code is 1 (R14). -/
def raisesLine (codes : List Nat) (c : Chip) : Prop :=
  c.port.partState ≠ .halted ∧ ∃ k < 10,
    (∀ t, c.settings = some t → t.notices.enables.getD k false = true ∧ t.notices.steering.getD k 1 ∈ codes)
      ∧ (c.settings = none → 1 ∈ codes) ∧ c.notices.counts.getD k 0 ≠ c.notices.seen.getD k 0

/-- NOTICE_A and NOTICE_B are as R14 says; code 1 steers to A, 2 to B and 3 to both. -/
def LinesFollow (s : State) : Prop :=
  (s.chip.port.noticeA = true ↔ raisesLine [1, 3] s.chip) ∧ (s.chip.port.noticeB = true ↔ raisesLine [2, 3] s.chip)

/-- The low 12 bits of AREA_BASE read 0 (R1). -/
def BaseAligned (s : State) : Prop := s.areaBase &&& 0xFFF#32 = 0

/-- Memory is in canonical form, and no bus write waits between commands. -/
def MemoryCanonical (s : State) : Prop := Memory.wf s.memory ∧ s.chip.busOut = []

/-- The tables of Chapter 1 and the pool keep their sizes: 9 records, 10 notice counts, 26 answer records, 16 slots and 6
error counters. -/
def Shaped (s : State) : Prop :=
  s.chip.records.length = 9 ∧ s.chip.notices.counts.length = 10 ∧ s.chip.answers.stamps.length = 26
    ∧ s.chip.answers.marks.length = 26 ∧ s.chip.slots.length = 16 ∧ s.chip.wear.counts.length = 6
    ∧ s.chip.wear.crossed.length = 6

end Sys2Proof.Machine
end

