-- ==== Sys2Proof/Certificates/Slice0/Obligations.lean ====
section
/-! DEFINITION. The statements for the provers. `concluded c s` is the state after a command whose own effect left the part at
`c`: the events it raised are taken, the notice lines are evaluated, and the next answer write begins. -/

open Sys2Proof Sys2Proof.Machine

/-! ### The queue, reset, and what every command leaves -/

/-- A step executes the command at the front of the queue on the state with the queue's rest. The queue is the model's
(log 17). -/
def Obligations.StepRunsFrontCommand : Prop :=
  ∀ (i : Instr) (rest : List Instr) (s : State),
    step { s with pending := i :: rest } = exec i { s with pending := rest }

/-- The part after power-on reset, by the reset tables of the chapters. The values of the state that the reset tables
leave out are the model's (log 6). -/
def Obligations.ResetState : Prop :=
  let s := State.reset
  let c := s.chip
  s.pending = [] ∧ s.areaBase = 0 ∧ c.port.run = false ∧ c.port.partState = .halted ∧ c.port.fault = .none
    ∧ c.port.noticeA = false ∧ c.port.noticeB = false
    ∧ (∀ r : RecordId, (record c r).edition = 0 ∧ (record c r).outcome = .done ∧ (record c r).detail = .none
        ∧ (record c r).clamped = false ∧ (record c r).torn = 0)
    ∧ c.answers.stamps = List.replicate 26 0 ∧ c.answers.marks = List.replicate 26 false
    ∧ c.notices.counts = List.replicate 10 0 ∧ c.notices.seen = List.replicate 10 0 ∧ c.settings = none
    ∧ c.pixel.stream = .stopped ∧ c.pixel.frameCounter = 0 ∧ c.pixel.pipeline = []
    ∧ c.flicker.cls = .none ∧ c.tables.state = .empty ∧ c.wear.counts = List.replicate 6 0
    ∧ c.zoom.state = .lost ∧ c.zoom.counter = 0 ∧ c.zoom.known = false
    ∧ c.focus.state = .lost ∧ c.focus.counter = 0 ∧ c.focus.homed = false
    ∧ c.control.distance = 64 ∧ c.control.mode = .tracking ∧ c.search.phase = .none
    ∧ c.exposure.mode = .auto ∧ c.exposure.metering = .converging ∧ c.exposure.compensation = 0
    ∧ c.stab.mode = .off ∧ c.stab.linkRunning = false
    ∧ c.capture.state = .idle ∧ c.capture.nextNumber = 1
    ∧ (∀ n < 16, (slot c n).state = .free ∧ (slot c n).fill = 0)
    ∧ c.store.queue = [] ∧ c.store.state = .paused

/-- No command touches the queue, and AREA_BASE changes by its own write in HALTED and by power-on reset alone. The
queue is the model's (log 17). -/
def Obligations.QueueAndAreaBaseFrame : Prop :=
  ∀ (i : Instr) (s t : State), exec i s = .next t →
    t.pending = s.pending ∧
      t.areaBase = match i with
        | .areaBaseWrite v => if s.chip.port.partState = .halted then v &&& 0xFFFFF000#32 else s.areaBase
        | .powerOnReset => 0
        | _ => s.areaBase

/-- The commands that can change the part state, the RUN field or the Common Area in use. -/
def Sys2Proof.Said.changesPart : Instr → Bool
  | .powerOnReset | .softReset | .runWrite _ | .nudge _ | .startHeaderRead _ _ | .startStepEnd | .stopSequenceEnd => true
  | _ => false

/-- Every other command leaves them, and the fault code but for the two bus errors. -/
def Obligations.PartStateFrame : Prop :=
  ∀ (i : Instr) (s t : State), Said.changesPart i = false → exec i s = .next t →
    t.chip.port.partState = s.chip.port.partState ∧ t.chip.port.run = s.chip.port.run
      ∧ t.chip.port.areaInUse = s.chip.port.areaInUse
      ∧ (i ≠ .areaBusError → i ≠ .answerBusError → t.chip.port.fault = s.chip.port.fault)

/-- The commands that store bytes other than the leading stamp of the record write that begins at their end. -/
def Sys2Proof.Said.stores : Instr → Bool
  | .powerOnReset | .softReset | .runWrite _ | .nudge _ | .answerRecordWrite | .answerBusError | .frameStart _ _
  | .frameEnd _ | .frameTruncated | .truncationTimeout | .dmaBusError | .cardReadBlock _ _ => true
  | _ => false

/-- A command that stores nothing changes no byte of memory, but for the 4 bytes of the leading stamp of the record
write that begins at its end. What memory lists is the model's (log 4), and so is that a record write begins within the
command that leaves it to be written (log 18). -/
def Obligations.MemoryFrame : Prop :=
  ∀ (i : Instr) (s t : State), Said.stores i = false → s.chip.busOut = [] → exec i s = .next t →
    ∀ a : Nat,
      (∀ w, s.chip.answers.inFlight = none → t.chip.answers.inFlight = some w →
        a < t.chip.port.areaInUse.toNat + 4096 + answerOffset w.record
          ∨ t.chip.port.areaInUse.toNat + 4096 + answerOffset w.record + 4 ≤ a) →
      Memory.read t.memory a = Memory.read s.memory a

/-- The bytes of the slot buffer that a frame, its abandonment or its failure may store: `size` bytes from the slot's
base. -/
def Sys2Proof.Said.inBuffer (c : Chip) (n a : Nat) : Prop :=
  let size := max (frameBytes (cfg c).sensor)
    (match c.pixel.frame with
      | some f => f.width * f.height * 3 / 2
      | none => 0)
  (cfg c).pool.poolBase + n * (cfg c).pool.slotSize ≤ a
    ∧ a < (cfg c).pool.poolBase + n * (cfg c).pool.slotSize + size

/-- The commands of a frame, of its DMA, of a stop and of a reset store into the buffer of the slot being filled and
nowhere else, but for the leading stamp of the record write that begins at their end. The bytes after an early end are
free, memory lists what the part has written, and a record write begins within a command by the model's choice (logs 4, 5
and 18). -/
def Obligations.FrameStoresFrame : Prop :=
  ∀ (i : Instr) (s t : State),
    (match i with
      | .frameStart _ _ | .frameEnd _ | .frameTruncated | .truncationTimeout | .dmaBusError | .runWrite _ | .nudge _
      | .powerOnReset | .softReset => True
      | _ => False) →
    s.chip.busOut = [] → exec i s = .next t → ∀ a : Nat,
      (∀ n, s.chip.capture.filling = some n ∨ (∃ f, s.chip.pixel.frame = some f ∧ f.captureSlot = some n) →
        ¬ Said.inBuffer s.chip n a) →
      (∀ w, s.chip.answers.inFlight = none → t.chip.answers.inFlight = some w →
        a < t.chip.port.areaInUse.toNat + 4096 + answerOffset w.record
          ∨ t.chip.port.areaInUse.toNat + 4096 + answerOffset w.record + 4 ≤ a) →
      Memory.read t.memory a = Memory.read s.memory a

/-! ### Invariants -/

/-- NOTICE_A and NOTICE_B follow R14 after every step, a completed seen count table read sets the seen counts last read, and
both resets set them to 0. -/
def Obligations.NoticeLinesFollow : Prop :=
  Kept LinesFollow ∧ LinesFollow State.reset
    ∧ (∀ (counts : List Byte) (s : State), s.chip.scan.active = true → s.chip.scan.position = 10 →
        ∃ t, exec (.seenCountRead counts) s = .next t ∧ t.chip.notices.seen = halvesOf counts ∧ LinesFollow t)
    ∧ ∀ s : State,
        (∃ t, exec .powerOnReset s = .next t ∧ t.chip.notices.seen = List.replicate 10 0)
          ∧ ∃ t, exec .softReset s = .next t ∧ t.chip.notices.seen = List.replicate 10 0

/-- Memory keeps its canonical form at every step. The form of memory is the model's (log 4). -/
def Obligations.MemoryStaysCanonical : Prop := Kept MemoryCanonical

/-- The low 12 bits of AREA_BASE read 0 after every step. -/
def Obligations.AreaBaseStaysAligned : Prop := Kept BaseAligned

/-- The tables keep their sizes at every step whose command is well formed. The sizes are those of the model's lists. -/
def Obligations.TablesKeepTheirSizes : Prop :=
  ∀ (i : Instr) (s t : State), i.wellFormed = true → Shaped s → exec i s = .next t → Shaped t

/-- The state after power-on reset meets the invariants. -/
def Obligations.ResetMeetsInvariants : Prop :=
  LinesFollow State.reset ∧ MemoryCanonical State.reset ∧ BaseAligned State.reset ∧ Shaped State.reset

/-! ### Registers, start and stop -/

/-- A part-level fault code is shown; PART_STATE is marked when it changes. -/
def Sys2Proof.Said.showFault (f : FaultCode) (c : Chip) : Chip :=
  { (if c.port.fault = f then c else mark .partState c) with port := { c.port with fault := f } }

/-- A write of AREA_BASE stores the value with its low 12 bits 0 while HALTED, and is ignored otherwise. -/
def Obligations.AreaBaseWrite : Prop :=
  ∀ (v : Word) (s : State),
    exec (.areaBaseWrite v) s
      = .next (if s.chip.port.partState = .halted then { s with areaBase := v &&& 0xFFFFF000#32 } else s)

/-- PART_STATUS shows state, fault code and lines at every read, PART_IDENT is constant, and writes to both are ignored. -/
def Obligations.StatusRegisters : Prop :=
  ∀ s : State,
    readPartIdent s = 0x31400001#32
      ∧ readPartStatus s = BitVec.ofNat 32
          ((match s.chip.port.partState with
              | .halted => 0 | .starting => 1 | .running => 2 | .stopping => 3)
            + 16 * (match s.chip.port.fault with
              | .none => 0 | .badLayout => 1 | .areaBusError => 2 | .answerBusError => 3)
            + 256 * (if s.chip.port.noticeA then 1 else 0) + 512 * (if s.chip.port.noticeB then 1 else 0))
      ∧ ∀ (r : ReadOnlyRegister) (v : Word), exec (.registerWriteIgnored r v) s = .next s

/-- Power-on reset and soft reset put every block in its reset state. The counters are 0 or kept, lines and pins stay,
and memory changes only where a slot was being filled. The free bytes, the values that the reset tables leave out, and
that the drives' parts of LENS show the reset values are the model's (logs 5, 6 and 37). -/
def Obligations.ResetsActOnTheWholePart : Prop :=
  ∀ s : State, s.chip.busOut = [] →
    (∃ t, exec .powerOnReset s = .next t ∧ t.areaBase = 0 ∧ t.chip.zoom = { reference := s.chip.zoom.reference }
        ∧ t.chip.focus = { home := s.chip.focus.home })
      ∧ (∃ t, exec .softReset s = .next t ∧ t.areaBase = s.areaBase
        ∧ t.chip.zoom = { counter := s.chip.zoom.counter, reference := s.chip.zoom.reference }
        ∧ t.chip.focus = { counter := s.chip.focus.counter, target := s.chip.focus.counter, home := s.chip.focus.home })
      ∧ ∀ i t, i = Instr.powerOnReset ∨ i = .softReset → exec i s = .next t →
        (∃ n, t.chip = {
          answers := {
            zoomPart := { counter := t.chip.zoom.counter },
            focusPart := { counter := t.chip.focus.counter, target := t.chip.focus.target } }
          zoom := t.chip.zoom, focus := t.chip.focus,
          capture := {
            s1 := { raw := s.chip.capture.s1.raw, timing := s.chip.capture.s1.raw },
            s2 := { raw := s.chip.capture.s2.raw, timing := s.chip.capture.s2.raw } },
          card := if s.chip.card.detect then { detect := true, present := true, state := .initialising, init := .goIdle }
            else {},
          now := s.chip.now, freeIndex := n })
        ∧ (s.chip.capture.filling = none ∨ s.chip.pixel.dma ≠ .running → t.memory = s.memory)

/-- A write of the RUN field, by part state (R2). A stop abandons the requests that are not final with STOPPED, but for a
card order with its run in flight, and each block takes it (R17). In a zoom move the drive brakes for the park move, but
for a lens table fault that waits (log 26). That with a slot FILLING the gyro's stop too waits for the report of the DMA is the
model's (log 29). -/
def Obligations.RunWrite : Prop :=
  ∀ (s : State) (r : Bool),
    -- HALTED, no start in progress, RUN 1: a start begins.
    (s.chip.port.partState = .halted → s.chip.port.startRead = false →
      exec (.runWrite true) s = .next (concluded
        { (Said.showFault .none s.chip) with
          port := { s.chip.port with run := true, fault := .none, areaInUse := s.areaBase, startRead := true } } s))
    -- RUN 0 cancels a start in its header read.
    ∧ (s.chip.port.partState = .halted → s.chip.port.startRead = true →
      exec (.runWrite false) s = .next (concluded
        { (Said.showFault .none s.chip) with
          port := { s.chip.port with run := false, fault := .none, startRead := false } } s))
    -- The value is stored and nothing else happens.
    ∧ ((s.chip.port.partState = .halted ∧ r = s.chip.port.startRead)
          ∨ ((s.chip.port.partState = .starting ∨ s.chip.port.partState = .running) ∧ r = true)
          ∨ s.chip.port.partState = .stopping →
      exec (.runWrite r) s = .next (concluded { s.chip with port := { s.chip.port with run := r } } s))
    -- RUN 0 in STARTING and RUNNING: the part enters STOPPING.
    ∧ (s.chip.port.partState = .starting ∨ s.chip.port.partState = .running →
      ∃ t, exec (.runWrite false) s = .next t ∧ t.chip.port.partState = .stopping ∧ t.chip.port.run = false
        ∧ t.chip.port.fault = s.chip.port.fault)
    -- What the requests and the blocks take at that entry.
    ∧ (s.chip.port.partState = .starting ∨ s.chip.port.partState = .running → s.chip.records.length = 9 →
      ∃ c, exec (.runWrite false) s = .next (concluded c s)
        ∧ (∀ q, q ≠ RecordId.cardOrder → isFinal (record s.chip q).outcome = false →
            (record c q).outcome = .abandoned ∧ (record c q).detail = .stopped ∧ (record c q).held = none)
        ∧ (s.chip.card.run = none ∨ s.chip.store.order = none → isFinal (record s.chip .cardOrder).outcome = false →
            (record c .cardOrder).outcome = .abandoned ∧ (record c .cardOrder).detail = .stopped ∧ c.store.order = none)
        ∧ (∀ r o, s.chip.card.run = some r → r.kind = .cardOrder → s.chip.store.order = some o →
            (record s.chip .cardOrder).outcome = .active →
            record c .cardOrder = record s.chip .cardOrder ∧ c.store.order = some o)
        ∧ c.port.startStep = .none ∧ c.tables.load = none ∧ c.service = none ∧ c.search.phase = .none
        ∧ c.capture.state = .idle ∧ c.capture.press = .none ∧ c.capture.filling = none
        ∧ c.exposure.hold = false ∧ c.exposure.s1Lock = false ∧ c.exposure.resplitDue = false
        ∧ c.exposure.writeDue = false ∧ c.stab.mode = .off ∧ c.stab.engaged = false
        ∧ (s.chip.zoom.state = .idle ∨ s.chip.zoom.state = .held → c.zoom.state = .parking ∧ c.zoom.after = .parked)
        ∧ (s.chip.zoom.state = .lost → c.zoom.state = .homing ∧ c.zoom.homingGoal = .park)
        ∧ (s.chip.zoom.state = .homing →
            c.zoom = { s.chip.zoom with homingGoal := .park })
        ∧ (s.chip.zoom.state = .moving ∨ s.chip.zoom.state = .unparking →
            c.zoom.after = if s.chip.zoom.after = .tableFault then .tableFault else .park)
        ∧ (s.chip.zoom.state = .parking ∨ s.chip.zoom.state = .parked ∨ s.chip.zoom.state = .fault →
            c.zoom = s.chip.zoom)
        ∧ (s.chip.focus.state = .idle → s.chip.focus.train = .none →
            c.focus.target = max 0 (min ((cfg s.chip).focus.park : Int) (fMax s.chip)))
        ∧ (s.chip.focus.state = .moving → s.chip.focus.train = .counted →
            let park := max 0 (min ((cfg s.chip).focus.park : Int) (fMax s.chip))
            c.focus.target = park
              ∧ (s.chip.focus.afterRamp = .fault → c.focus = { s.chip.focus with target := park, hold := false }))
        ∧ (s.chip.focus.state = .homing → s.chip.focus.train = .continuous → s.chip.focus.homing ≠ .goal →
            c.focus.state = .lost ∧ c.focus.train = .none)
        ∧ (s.chip.capture.filling = none → c.pixel.stopping = .writing ∧ c.pixel.frame = none
            ∧ c.stab.stopping = (if s.chip.stab.reading then .waitRead else .writing))
        ∧ ∀ n, s.chip.capture.filling = some n → c.pixel.stopping = .waitDma ∧ c.pixel.dma = .abandoned
            ∧ c.stab.stopping = .waitDma
            ∧ (n < s.chip.slots.length → (slot c n).state = .free ∧ (slot c n).result = .abandoned))

/-- NUDGE is a scan trigger in STARTING and RUNNING: a scan begins, or one further scan is marked. In HALTED and STOPPING only
the RUN field of the write acts. The idle period of 8 ms begins a scan while the stream state is not STREAMING. That the NUDGE
row carries the RUN field, and that a write with RUN = 0 in STARTING or RUNNING takes RUN first, so that it stops the part and
gives no scan, is the model's choice (log 24): section 1.1 does not order the two fields. -/
def Obligations.ScanTriggers : Prop :=
  ∀ (s : State) (r : Bool),
    (s.chip.port.partState = .halted ∨ s.chip.port.partState = .stopping ∨ r = false →
      exec (.nudge r) s = exec (.runWrite r) s)
    ∧ (s.chip.port.partState = .starting ∨ s.chip.port.partState = .running → s.chip.scan.active = true →
      exec (.nudge true) s = .next (concluded
        { s.chip with port := { s.chip.port with run := true }, scan := { s.chip.scan with marked := true } } s))
    ∧ (s.chip.port.partState = .starting ∨ s.chip.port.partState = .running → s.chip.scan.active = false →
      (record s.chip .settings).held = none →
      exec (.nudge true) s = .next (concluded
        { s.chip with
          port := { s.chip.port with run := true },
          scan := { s.chip.scan with active := true, position := 0, marked := false } } s))
    ∧ (s.chip.port.partState = .starting ∨ s.chip.port.partState = .running → s.chip.pixel.stream ≠ .streaming →
      s.chip.scan.active = false → (record s.chip .settings).held = none →
      exec .idleScanTimer s = .next (concluded
        { s.chip with scan := { s.chip.scan with active := true, position := 0, marked := false } } s))

/-- Multi-byte fields are read low byte first (R172): a word alone, the counts of a count table, and the words of a Lens Table
block. -/
def Sys2Proof.Said.LittleEndian : Prop :=
  ∀ (b0 b1 b2 b3 : Byte) (rest : List Byte),
    let half := b0.toNat + 256 * b1.toNat
    let word := half + 65536 * (b2.toNat + 256 * b3.toNat)
    wordOf (b0 :: b1 :: b2 :: b3 :: rest) = BitVec.ofNat 32 word
      ∧ halvesOf (b0 :: b1 :: rest) = BitVec.ofNat 16 half :: halvesOf rest
      ∧ wordsOf (b0 :: b1 :: b2 :: b3 :: rest) = BitVec.ofNat 32 word :: wordsOf rest

/-- What is read is read low byte first. The header read of a start ends: with layout 1 the part is STARTING, every notice count equals its seen count, every
record is marked, the gathered changes of STABILIZER with it, and the first scan begins; with another layout the start ends
with BAD_LAYOUT. A bus error on a Command Page read ends the start, or the scan, and outside HALTED the FAULT notice counts.
One command stands for the whole header read (log 18). -/
def Obligations.CommandPageReads : Prop :=
  Said.LittleEndian ∧ ∀ (s : State) (layout seen : List Byte),
    (s.chip.port.startRead = true → wordOf layout = 1 → (record s.chip .settings).held = none →
      exec (.startHeaderRead layout seen) s = .next (concluded
        { s.chip with
          notices := ⟨halvesOf seen, halvesOf seen⟩
          port := { s.chip.port with partState := .starting, startRead := false, startStep := .awaitSettings }
          answers := { s.chip.answers with
            marks := List.replicate 26 true, finishing := List.replicate 26 false, last := 25 }
          scan := { active := true, position := 0, marked := false, settingsHanded := false }
          stab := { s.chip.stab with gathered := false } } s))
    ∧ (s.chip.port.startRead = true → wordOf layout ≠ 1 → s.chip.port.partState = .halted →
      exec (.startHeaderRead layout seen) s = .next (concluded
        { (Said.showFault .badLayout s.chip) with
          port := { s.chip.port with fault := .badLayout, startRead := false } } s))
    ∧ (s.chip.port.startRead = true → s.chip.port.partState = .halted →
      exec .areaBusError s = .next (concluded
        { (Said.showFault .areaBusError s.chip) with
          port := { s.chip.port with fault := .areaBusError, startRead := false } } s))
    ∧ (s.chip.port.startRead = false → s.chip.port.partState ≠ .halted → s.chip.scan.active = true →
      s.chip.scan.marked = false →
      exec .areaBusError s = .next (concluded
        { (notice .fault (Said.showFault .areaBusError s.chip)) with
          scan := { s.chip.scan with active := false } } s))

/-- The steps of a start: homing of the focus follows the zoom's step, but for a train that ramps down toward FAULT and goes on
to it; when homing has ended, the streams follow the focus step, the sensor's configuration with the applied triple and the
gyro's configuration list; and RUNNING follows the streams once the start's own writes have ended, whatever reconfiguration has
begun since: the store and the card arbiter take the entry, and then the held requests are handed over. The end of a start step
is a command (log 24), the order of the events of one command is the model's (log 3), and so is what a ramp toward homing or
FAULT is to the focus step (log 27). -/
def Obligations.StartSteps : Prop :=
  ∀ s : State,
    (s.chip.port.startStep = .zoom → s.chip.zoom.state = .idle ∨ s.chip.zoom.state = .parked ∨ s.chip.zoom.state = .fault →
      s.chip.focus.train ≠ .counted →
      ∃ c, exec .startStepEnd s = .next (concluded c s) ∧ c.port.startStep = .focus ∧ c.focus.state = .homing
        ∧ c.focus.homed = false ∧ c.focus.homingGoal = .track ∧ c.focus.train = .continuous)
    ∧ (s.chip.port.startStep = .zoom → s.chip.zoom.state = .idle ∨ s.chip.zoom.state = .parked ∨ s.chip.zoom.state = .fault →
      s.chip.focus.train = .counted → s.chip.focus.afterRamp = .fault →
      exec .startStepEnd s = .next (concluded { s.chip with port := { s.chip.port with startStep := .focus } } s))
    ∧ (s.chip.port.startStep = .focus → s.chip.focus.state ≠ .homing → s.chip.focus.afterRamp = .none →
      ∀ t, s.chip.exposure.applied = some t →
      let writes := (cfg s.chip).stab.config
      ∃ c, exec .startStepEnd s = .next (concluded c s) ∧ c.port.startStep = .streams ∧ c.pixel.stream = .configuring
        ∧ c.pixel.config = some ⟨0, false, t⟩ ∧ c.pixel.starting = true ∧ c.pixel.carried = (cfg s.chip).sensor
        ∧ c.stab.rateAddress = (cfg s.chip).stab.rateAddress
        ∧ (writes ≠ [] → c.stab.starting = true ∧ c.stab.configLeft = writes)
        ∧ (writes = [] → c.stab.starting = false ∧ c.stab.linkRunning = true ∧ c.stab.mode = .starting))
    ∧ (s.chip.port.startStep = .streams → s.chip.pixel.starting = false → s.chip.stab.starting = false →
      s.chip.capture.state = .idle → s.chip.capture.s1.pressed = false → s.chip.capture.s2.pressed = false →
      s.chip.capture.press = .none →
      exec .startStepEnd s = .next (concluded (raise .handHeld (raise .cardWork (mark .partState
        { s.chip with port := { s.chip.port with partState := .running, startStep := .none } }))) s))

/-- The stop sequence ends when card run, zoom, focus, sensor and gyro have ended: the part is HALTED and its lines
are low, and with RUN reading 1 a start begins. The end of the stop sequence is a command (log 24). -/
def Obligations.StopSequenceEnd : Prop :=
  ∀ s : State, s.chip.port.partState = .stopping → s.chip.card.run = none →
    s.chip.zoom.state = .parked ∨ s.chip.zoom.state = .fault →
    s.chip.focus.state = .idle ∨ s.chip.focus.state = .lost ∨ s.chip.focus.state = .fault →
    s.chip.pixel.stopping = .done → s.chip.stab.stopping = .done → s.chip.stab.x.output = 0 →
    s.chip.stab.y.output = 0 →
    ∃ t, exec .stopSequenceEnd s = .next t ∧ t.chip.port.partState = .halted ∧ t.chip.port.noticeA = false
      ∧ t.chip.port.noticeB = false
      ∧ (s.chip.port.run = false → t.chip.port.fault = s.chip.port.fault)
      ∧ (s.chip.port.run = true →
          t.chip.port.startRead = true ∧ t.chip.port.areaInUse = s.areaBase ∧ t.chip.port.fault = .none)

/-! ### Scans and answers -/

/-- A scanned record: a torn one is skipped and counted, one with edition 0 or the last adopted edition holds nothing
new, and a new edition of a record other than SETTINGS is adopted. In STOPPING the scan ends after the read. A scanned
record and a request row share one adoption (log 8). -/
def Obligations.ScannedRecord : Prop :=
  ∀ (s : State) (leadingBytes trailingBytes body : List Byte), s.chip.scan.active = true → s.chip.scan.position < 9 →
    let r := recordAt s.chip.scan.position
    let leading := wordOf leadingBytes
    let trailing := wordOf trailingBytes
    let c := { s.chip with scan := { s.chip.scan with
      position := s.chip.scan.position + 1
      active := s.chip.port.partState == .starting || s.chip.port.partState == .running } }
    (leading ≠ trailing →
      exec (.scanRecordRead leadingBytes body trailingBytes) s
        = .next (concluded (mark .partState (setRecord r { record c r with torn := (record c r).torn + 1 } c)) s))
    ∧ (leading = trailing →
      leading = 0 ∨ (leading = (record c r).edition ∧ (r ≠ .settings ∨ s.chip.scan.settingsHanded = true)) →
      exec (.scanRecordRead leadingBytes body trailingBytes) s = .next (concluded c s))
    ∧ (leading = trailing → leading ≠ 0 → leading ≠ (record c r).edition → r ≠ .settings →
      s.chip.port.partState = .starting ∨ s.chip.port.partState = .running →
      exec (.scanRecordRead leadingBytes body trailingBytes) s
        = .next (concluded (adopt r leading (readRequest r body) c) s))

/-- The release count table read: the counts are kept, and exactly the slots in use that meet one of the four cases of
R154 become FREE, with their records kept. -/
def Obligations.ReleaseCounts : Prop :=
  ∀ (s : State) (bytes : List Byte), s.chip.scan.active = true → s.chip.scan.position = 9 →
    let counts := halvesOf bytes
    ∃ c, exec (.releaseCountRead bytes) s = .next (concluded c s) ∧ c.capture.releases = counts
      ∧ c.scan.position = 10
      ∧ ∀ n, (n < (cfg s.chip).pool.slotCount →
          let p := slot s.chip n
          let released : Prop := counts.getD n 0 = p.fill
          ((p.state = .stored ∧ (p.flags.autoRelease = true ∨ released))
              ∨ (p.state = .filled ∧ p.flags.storeOn = false ∧ released) ∨ (p.state = .storeFailed ∧ released) →
            slot c n = { p with state := .free })
          ∧ (¬ ((p.state = .stored ∧ (p.flags.autoRelease = true ∨ released))
              ∨ (p.state = .filled ∧ p.flags.storeOn = false ∧ released) ∨ (p.state = .storeFailed ∧ released)) →
            slot c n = p))
        ∧ ((cfg s.chip).pool.slotCount ≤ n → slot c n = slot s.chip n)

/-- The end of a record write: the body and the trailing stamp follow the leading stamp in memory. A bus error ends
it: ANSWER_BUS_ERROR is shown, the mark is cleared, in HALTED among the records still to be written as well, and outside HALTED
the FAULT notice counts. Two moments stand for a record write (log 18). -/
def Obligations.AnswerRecordWrites : Prop :=
  ∀ (s : State) (w : AnswerWrite), s.chip.answers.inFlight = some w →
    exec .answerRecordWrite s = .next (concluded
      { s.chip with
        answers := { s.chip.answers with inFlight := none }
        busOut := s.chip.busOut ++ [(s.chip.port.areaInUse.toNat + 4096 + answerOffset w.record + 4,
          w.body ++ put32 w.stamp.toNat)] } s)
    ∧ let c := Said.showFault .answerBusError
        { s.chip with answers := { s.chip.answers with
            inFlight := none
            marks := s.chip.answers.marks.set (answerIndex w.record) false
            finishing := s.chip.answers.finishing.set (answerIndex w.record) false } }
      exec .answerBusError s
        = .next (concluded (if s.chip.port.partState = .halted then c else notice .fault c) s)

/-- With no record write in flight, the first marked record after the one last written, in the cyclic order of Table
1-5, is written next: its stamp plus 1 leads, the body is the content as it stands, and its mark is cleared. When a
record write begins within a command is the model's (log 18). -/
def Obligations.AnswerOrder : Prop :=
  ∀ (c : Chip) (i : Nat), c.answers.inFlight = none → c.port.partState ≠ .halted → i < 26 →
    c.answers.marks.getD ((c.answers.last + 1 + i) % 26) false = true →
    (∀ j < i, c.answers.marks.getD ((c.answers.last + 1 + j) % 26) false = false) →
    let k := (c.answers.last + 1 + i) % 26
    let stamp := c.answers.stamps.getD k 0 + 1
    writeNext c = { c with
      answers := { c.answers with
        stamps := c.answers.stamps.set k stamp, marks := c.answers.marks.set k false,
        finishing := c.answers.finishing.set k false, last := k,
        inFlight := some ⟨answerAt k, stamp, answerBody (answerAt k) c⟩ }
      busOut := c.busOut ++ [(c.port.areaInUse.toNat + 4096 + answerOffset (answerAt k), put32 stamp.toNat)] }

/-- What the end of a command leaves when no event waits: every block but the notice lines, the answer writer and the
mark of continuous following. A drive's part of LENS is taken as the drive stands when an event that marks it has come in the
command, and stays otherwise; LENS is written with the counters taken. The order of a command's events is the model's (log 3),
and so are the time at which a part is taken and the same holding of the focus part (log 37). -/
def Obligations.ConcludeFrame : Prop :=
  ∀ c : Chip, c.events = [] →
    (conclude c).scan = c.scan ∧ (conclude c).records = c.records ∧ (conclude c).service = c.service
      ∧ (conclude c).notices = c.notices ∧ (conclude c).settings = c.settings ∧ (conclude c).pixel = c.pixel
      ∧ (conclude c).flicker = c.flicker ∧ (conclude c).tables = c.tables ∧ (conclude c).wear = c.wear
      ∧ (conclude c).zoom = c.zoom ∧ (conclude c).focus = c.focus ∧ (conclude c).control = c.control
      ∧ (conclude c).search = c.search ∧ (conclude c).exposure = c.exposure ∧ (conclude c).stab = c.stab
      ∧ (conclude c).capture = c.capture ∧ (conclude c).slots = c.slots ∧ (conclude c).store = c.store
      ∧ (conclude c).card = c.card ∧ (conclude c).port.partState = c.port.partState
      ∧ (conclude c).port.run = c.port.run ∧ (conclude c).port.fault = c.port.fault
      ∧ (conclude c).answers.zoomPart = (if c.answers.zoomEvent then zoomPartOf c.zoom else c.answers.zoomPart)
      ∧ (conclude c).answers.focusPart = (if c.answers.focusEvent then focusPartOf c.focus else c.answers.focusPart)
      ∧ (conclude c).answers.zoomEvent = false ∧ (conclude c).answers.focusEvent = false
      ∧ ((answerBody .lens c).drop 24).take 4 = putSigned32 c.answers.zoomPart.counter
      ∧ ((answerBody .lens c).drop 40).take 2 = putSigned16 c.answers.focusPart.counter

/-! ### Requests -/

/-- An edition of record `r` is held under a hold that stands, other than a grant under that of the card's initialisation. -/
def Sys2Proof.Said.heldBefore (r : RecordId) (c : Chip) : Bool :=
  heldStill (record c r) c && !((r == .space || r == .spare) && (record c r).detail == .heldCardInit)

/-- A new edition `e` of record `r` is read in RUNNING, and no hold of R8, R41, R60 or R67 stands for it or for a held edition
of the record, but for a grant held while the card initialises. A queuing record's previous request is final; a superseding
record's may have any outcome. -/
def Sys2Proof.Said.NewRequest (r : RecordId) (e : Word) (c : Chip) : Prop :=
  c.port.partState = .running ∧ e ≠ 0 ∧ e ≠ (record c r).edition ∧ (record c r).earlierActive = false
    ∧ c.records.length = 9 ∧ (isQueuing r = true → isFinal (record c r).outcome = true) ∧ c.tables.load = none
    ∧ burstInProgress c = false ∧ zoomBusy c.zoom = false ∧ remapping c = false
    ∧ Said.heldBefore r c = false

/-- The acknowledgement entry of record `r` after edition `e` of it. -/
def Sys2Proof.Said.entry (r : RecordId) (e : Word) (o : ReqOutcome) (d : Detail) (k : Bool) (c : Chip) : RecordState :=
  { record c r with edition := e, outcome := o, detail := d, clamped := k, held := none }

/-- A SETTINGS request: it is DONE at once when it changes no table, the tables are VALID and its slot size suffices; a change of
table address or edition begins a load, and so do unchanged tables that are not VALID; a slot size below the frame bytes is
refused; and a change of geometry with a slot not FREE, or of the tables with a drive busy, holds it. Where both holds stand, that
HELD_GEOMETRY is shown is the model's, and so is that the limited slot count is compared (log 20), and that a rounding sets the
clamped flag (log 11). -/
def Obligations.SettingsRequest : Prop :=
  ∀ (e : Word) (body : List Byte) (s : State),
    let new := settingsOf body
    s.chip.port.partState = .starting ∨ s.chip.port.partState = .running → e ≠ 0 →
    e ≠ (record s.chip .settings).edition → (record s.chip .settings).earlierActive = false →
    isFinal (record s.chip .settings).outcome = true → s.chip.records.length = 9 →
    (∀ t, s.chip.settings = some t → (t.pool.poolBase ≠ new.pool.poolBase ∨ t.pool.slotCount ≠ new.pool.slotCount
        ∨ t.pool.slotSize ≠ new.pool.slotSize) → (∃ p ∈ s.chip.slots, p.state ≠ .free) →
      ∃ c, exec (.settings e body) s = .next (concluded c s) ∧ c.settings = s.chip.settings
        ∧ record c .settings = { (Said.entry .settings e .pending .heldGeometry false s.chip) with
            held := some (.settings body) })
    ∧ ((∀ t, s.chip.settings = some t →
          t.pool.poolBase = new.pool.poolBase ∧ t.pool.slotCount = new.pool.slotCount
            ∧ t.pool.slotSize = new.pool.slotSize) →
      let changed := s.chip.tables.summary.imageAddress ≠ new.pool.imageAddress
        ∨ s.chip.tables.summary.edition ≠ new.pool.tableEdition
      let idle := (s.chip.zoom.state = .idle ∨ s.chip.zoom.state = .parked ∨ s.chip.zoom.state = .lost
          ∨ s.chip.zoom.state = .fault)
        ∧ (s.chip.focus.state = .idle ∨ s.chip.focus.state = .lost ∨ s.chip.focus.state = .fault)
      (changed → ¬ idle →
        ∃ c, exec (.settings e body) s = .next (concluded c s) ∧ c.settings = s.chip.settings
          ∧ record c .settings = { (Said.entry .settings e .pending .heldLensBusy false s.chip) with
              held := some (.settings body) })
      ∧ (¬ changed ∨ idle → new.pool.slotSize < frameBytes new.sensor →
        ∃ c, exec (.settings e body) s = .next (concluded c s) ∧ c.settings = s.chip.settings
          ∧ record c .settings = Said.entry .settings e .refused .slotTooSmall false s.chip)
      ∧ ((changed ∧ idle) ∨ (¬ changed ∧ s.chip.tables.state ≠ .valid) → frameBytes new.sensor ≤ new.pool.slotSize →
        ∃ c, exec (.settings e body) s = .next (concluded c s) ∧ c.settings = s.chip.settings
          ∧ record c .settings = Said.entry .settings e .active .none (settingsClamped body) s.chip
          ∧ c.tables.load = some { settings := new, waitRefetch := s.chip.tables.refetch.isSome }
          ∧ c.tables.queued = [])
      ∧ (¬ changed → s.chip.tables.state = .valid → frameBytes new.sensor ≤ new.pool.slotSize →
        s.chip.search.phase = .none →
        ∃ c, exec (.settings e body) s = .next (concluded c s) ∧ c.settings = some new
          ∧ record c .settings = Said.entry .settings e .done .none (settingsClamped body) s.chip))

/-- The limits of R21 on the sensor settings, in the order of Table 2-1, and the clamped flag that they set: a SETTINGS request
that changes no geometry and no table is served with the limited settings, or refused when its slot size is below the frame
bytes of the limited width and height. -/
def Obligations.SensorSettingsLimits : Prop :=
  ∀ body : List Byte,
    let f := readSensor body
    let g := (settingsOf body).sensor
    (g.address = min f.address 127
      ∧ g.latency = (if f.latency = 0 then 1 else if 3 < f.latency then 3 else f.latency)
      ∧ g.width = max 64 (min 8192 (f.width - f.width % 2)) ∧ g.height = max 64 (min 8192 f.height)
      ∧ g.frameLines = max (g.height + 4) (min 16383 f.frameLines)
      ∧ g.linePeriod = max 1000 (min 200000 f.linePeriod)
      ∧ g.shutterRegister = f.shutterRegister ∧ g.gainRegister = f.gainRegister
      ∧ (g ≠ f → settingsClamped body = true))
    ∧ ∀ (e : Word) (s : State),
      let p := (settingsOf body).pool
      s.chip.port.partState = .starting ∨ s.chip.port.partState = .running → e ≠ 0 →
      e ≠ (record s.chip .settings).edition → (record s.chip .settings).earlierActive = false →
      isFinal (record s.chip .settings).outcome = true → s.chip.records.length = 9 →
      (∀ t, s.chip.settings = some t → t.pool.poolBase = p.poolBase ∧ t.pool.slotCount = p.slotCount
        ∧ t.pool.slotSize = p.slotSize) →
      s.chip.tables.summary.imageAddress = p.imageAddress → s.chip.tables.summary.edition = p.tableEdition →
      s.chip.tables.state = .valid → s.chip.search.phase = .none →
      (g.width * g.height * 3 / 2 ≤ p.slotSize →
        ∃ c, exec (.settings e body) s = .next (concluded c s) ∧ c.settings = some (settingsOf body)
          ∧ record c .settings = Said.entry .settings e .done .none (settingsClamped body) s.chip)
      ∧ (p.slotSize < g.width * g.height * 3 / 2 →
        ∃ c, exec (.settings e body) s = .next (concluded c s) ∧ c.settings = s.chip.settings
          ∧ record c .settings = Said.entry .settings e .refused .slotTooSmall false s.chip)

/-- A new edition of a queuing record whose previous request is ACTIVE is held PENDING with HELD_PREVIOUS. Counting
the earlier request is the model's reading (log 20). -/
def Obligations.HeldBehindPrevious : Prop :=
  ∀ (e : Word) (s : State),
    s.chip.port.partState = .starting ∨ s.chip.port.partState = .running → e ≠ 0 →
    (∀ (r : RecordId) (q : Request) (i : Instr),
      (r = .service ∧ (∃ k, q = .service k ∧
          i = match k with
            | .rehomeLens => .rehomeLens e | .park => .park e | .unpark => .unpark e | .clearCounters => .clearCounters e
            | .clearFlags => .clearFlags e | .restartStabilizer => .restartStabilizer e | .restartCard => .restartCard e))
        ∨ (r = .cardOrder ∧ ∃ kind n sector address, q = cardOrderRequest kind n sector address
            ∧ i = .cardOrder e kind n sector address) →
      e ≠ (record s.chip r).edition → (record s.chip r).outcome = .active →
      exec i s = .next (concluded (mark .ack (setRecord r
        { (Said.entry r e .pending .heldPrevious false s.chip) with held := some q, earlierActive := true } s.chip)) s))
    ∧ ∀ body : List Byte, e ≠ (record s.chip .settings).edition → (record s.chip .settings).outcome = .active →
      exec (.settings e body) s = .next (concluded (mark .ack (setRecord .settings
        { (Said.entry .settings e .pending .heldPrevious false s.chip) with
          held := some (.settings body), earlierActive := true }
        { s.chip with scan := { s.chip.scan with settingsHanded := true } })) s)

/-- CLEAR_COUNTERS sets the six counters to 0 and CLEAR_FLAGS clears the sticky flags; both are DONE at once. -/
def Obligations.ClearingServices : Prop :=
  ∀ (e : Word) (s : State), Said.NewRequest .service e s.chip →
    (∃ c, exec (.clearCounters e) s = .next (concluded c s) ∧ c.wear = { counts := List.replicate 6 0 }
      ∧ record c .service = Said.entry .service e .done .none false s.chip)
    ∧ ∃ c, exec (.clearFlags e) s = .next (concluded c s) ∧ c.exposure.darkSeen = false
      ∧ c.exposure.writeFailed = false ∧ c.stab.shakeSeen = false ∧ c.wear = s.chip.wear
      ∧ record c .service = Said.entry .service e .done .none false s.chip

/-- The lens SERVICE kinds from rest: homing, a park move and an unpark move begin with the request ACTIVE in its zoom part;
REHOME_LENS from HELD or MOVING ends an active ZOOM request, and the drive brakes and settles before homing; and the refusals of
REHOME_LENS, PARK and UNPARK. That NO_TABLES precedes ZOOM_LOST and ZOOM_FAULT for UNPARK, that a drive that was HELD shows
MOVING in BRAKING, and that the lens table fault of a move that brakes toward it stands, is the model's (log 26). -/
def Obligations.LensServices : Prop :=
  ∀ (e : Word) (s : State), Said.NewRequest .service e s.chip → s.chip.search.phase = .none →
    (s.chip.tables.state = .valid →
      s.chip.zoom.state = .idle ∨ s.chip.zoom.state = .parked ∨ s.chip.zoom.state = .lost ∨ s.chip.zoom.state = .fault →
      ∃ c, exec (.rehomeLens e) s = .next (concluded c s) ∧ c.service = some ⟨.rehomeLens, .zoom⟩
        ∧ record c .service = Said.entry .service e .active .none false s.chip
        ∧ c.zoom.state = .homing ∧ c.zoom.known = false ∧ c.zoom.homingGoal = .unpark ∧ c.zoom.fault = .none
        ∧ c.zoom.motor = .drive (match s.chip.zoom.reference with | .inside => .tele | .out => .wide))
    ∧ (s.chip.tables.state = .valid → s.chip.zoom.state = .held ∨ s.chip.zoom.state = .moving →
      ∃ c, exec (.rehomeLens e) s = .next (concluded c s) ∧ c.service = some ⟨.rehomeLens, .zoom⟩
        ∧ record c .service = Said.entry .service e .active .none false s.chip
        ∧ c.zoom.state = .moving ∧ c.zoom.holdMark = false
        ∧ c.zoom.after = (if s.chip.zoom.state = .moving ∧ s.chip.zoom.after = .tableFault then .tableFault else .home .unpark)
        ∧ (s.chip.zoom.state = .held ∨ (∃ d, s.chip.zoom.motor = .drive d) →
          c.zoom.phase = .braking ∧ c.zoom.motor = .brake)
        ∧ ((record s.chip .zoom).earlierActive = false → (record s.chip .zoom).outcome = .active →
          (record c .zoom).outcome = .abandoned ∧ (record c .zoom).detail = .serviceTakeover))
    ∧ (s.chip.zoom.state = .idle →
      ∃ c, exec (.park e) s = .next (concluded c s) ∧ c.service = some ⟨.park, .zoom⟩
        ∧ record c .service = Said.entry .service e .active .none false s.chip
        ∧ c.zoom.state = .parking ∧ c.zoom.after = .parked
        ∧ c.zoom.motor = (let goal := (cfg s.chip).zoom.zPark
          if (goal - s.chip.zoom.counter).natAbs ≤ (cfg s.chip).zoom.brakeLead then Motor.brake
          else .drive (if s.chip.zoom.counter < goal then .tele else .wide)))
    ∧ (s.chip.tables.state = .valid → s.chip.zoom.state = .parked →
      ∃ c, exec (.unpark e) s = .next (concluded c s) ∧ c.service = some ⟨.unpark, .zoom⟩
        ∧ record c .service = Said.entry .service e .active .none false s.chip
        ∧ c.zoom.state = .unparking ∧ c.zoom.after = .unparked
        ∧ c.zoom.motor = (if s.chip.zoom.counter.natAbs ≤ (cfg s.chip).zoom.brakeLead then Motor.brake
          else .drive (if s.chip.zoom.counter < 0 then .tele else .wide)))
    ∧ ∀ (i : Instr) (d : Detail),
      (i = .rehomeLens e ∧ s.chip.tables.state ≠ .valid ∧ d = .noTables)
        ∨ (i = .unpark e ∧ s.chip.tables.state ≠ .valid ∧ d = .noTables)
        ∨ (i = .unpark e ∧ s.chip.tables.state = .valid ∧ s.chip.zoom.state = .lost ∧ d = .zoomLost)
        ∨ (i = .unpark e ∧ s.chip.tables.state = .valid ∧ s.chip.zoom.state = .fault ∧ d = .zoomFault)
        ∨ (i = .park e ∧ s.chip.zoom.state = .fault ∧ d = .zoomFault) →
      ∃ c, exec i s = .next (concluded c s) ∧ c.zoom = s.chip.zoom ∧ c.service = none
        ∧ record c .service = Said.entry .service e .refused d false s.chip

/-- RESTART_STABILIZER begins a gyro start from FAULT with the rate address in force, and an empty configuration list ends
that start at once; RESTART_CARD begins initialisation from FAULT; both are refused in other states. -/
def Obligations.RestartServices : Prop :=
  ∀ (e : Word) (s : State), Said.NewRequest .service e s.chip →
    (s.chip.stab.mode = .fault → (cfg s.chip).stab.config ≠ [] →
      ∃ c, exec (.restartStabilizer e) s = .next (concluded c s) ∧ c.stab.starting = true
        ∧ c.stab.configLeft = (cfg s.chip).stab.config ∧ c.stab.rateAddress = (cfg s.chip).stab.rateAddress
        ∧ c.service = some ⟨.restartStabilizer, .stabilizer⟩
        ∧ record c .service = Said.entry .service e .active .none false s.chip)
    ∧ (s.chip.stab.mode = .fault → (cfg s.chip).stab.config = [] →
      ∃ c, exec (.restartStabilizer e) s = .next (concluded c s) ∧ c.stab.linkRunning = true ∧ c.stab.mode = .starting
        ∧ c.stab.fault = .none ∧ c.stab.starting = false ∧ c.stab.rateAddress = (cfg s.chip).stab.rateAddress
        ∧ c.service = some ⟨.restartStabilizer, .stabilizer⟩
        ∧ record c .service = Said.entry .service e .active .none false s.chip)
    ∧ (s.chip.stab.mode ≠ .fault →
      ∃ c, exec (.restartStabilizer e) s = .next (concluded c s) ∧ c.stab = s.chip.stab ∧ c.service = none
        ∧ record c .service = Said.entry .service e .refused .notInFault false s.chip)
    ∧ (s.chip.card.state = .fault →
      ∃ c, exec (.restartCard e) s = .next (concluded c s) ∧ c.card.state = .initialising ∧ c.card.init = .goIdle
        ∧ c.service = some ⟨.restartCard, .card⟩
        ∧ record c .service = Said.entry .service e .active .none false s.chip)
    ∧ (s.chip.card.state ≠ .fault →
      ∃ c, exec (.restartCard e) s = .next (concluded c s) ∧ c.card = s.chip.card ∧ c.service = none
        ∧ record c .service = Said.entry .service e .refused
            (if s.chip.card.state = .absent then .noCard else .notInFault) false s.chip)

/-- Row `i` is a ZOOM move of edition `e` whose target is `t`, `k` telling whether the argument was limited. R59 limits a
position and a zone; that a RUN direction outside 0..1 is limited, with the clamped flag, is the model's (log 26). -/
def Sys2Proof.Said.ZoomMove (e : Word) (c : Chip) (i : Instr) (t : Int) (k : Bool) : Prop :=
  (∃ p : Word, i = .zoomGoto e p ∧ t = max 0 (min p.toInt (zMax c)) ∧ k = (t != p.toInt))
    ∨ (∃ z : Word, let n := max 0 (min z.toInt 31)
        i = .zoomGotoZone e z ∧ t = (c.zoom.points.getD n.toNat 0 : Nat) ∧ k = (n != z.toInt))
    ∨ ∃ d : Word, let n := max 0 (min d.toInt 1)
        i = .zoomRun e d ∧ t = (if n = 0 then zMax c else 0) ∧ k = (n != d.toInt)

/-- GOTO, GOTO_ZONE and RUN from IDLE drive toward the target, FAST beyond the slow distance and SLOW within it. Of the rest
of the part the command changes nothing but what the end of every command may: the notice lines, the answer writer and its bus
writes, and continuous following. -/
def Obligations.ZoomMoves : Prop :=
  ∀ (e : Word) (s : State) (i : Instr) (t : Int) (k : Bool),
    Said.NewRequest .zoom e s.chip → s.chip.search.phase = .none → s.chip.events = [] →
    Said.ZoomMove e s.chip i t k → s.chip.tables.state = .valid → s.chip.zoom.state = .idle →
    let m := (cfg s.chip).zoom
    let distance := (t - s.chip.zoom.counter).natAbs
    let d := if s.chip.zoom.counter < t then ZoomDir.tele else .wide
    m.brakeLead < distance → m.tolerance < distance →
    ∃ u, exec i s = .next u ∧ record u.chip .zoom = Said.entry .zoom e .active .none k s.chip
      ∧ u.chip.zoom = { s.chip.zoom with
          state := .moving, phase := if m.slowDistance < distance then .fast else .slow, target := t, kept := m,
          corrections := 0, retries := 0, stallAt := none, after := .none, holdMark := false, drift := false,
          afterHoming := false, motor := .drive d, lastDrive := d, goalDir := d }
      ∧ (∀ r, r ≠ RecordId.zoom → record u.chip r = record s.chip r)
      ∧ u.chip.port = { s.chip.port with noticeA := u.chip.port.noticeA, noticeB := u.chip.port.noticeB }
      ∧ s.chip = { u.chip with
          records := s.chip.records, zoom := s.chip.zoom, answers := s.chip.answers, port := s.chip.port,
          following := s.chip.following, busOut := s.chip.busOut }

/-- STOP by zoom state: DONE in IDLE, PARKED and HELD, which becomes IDLE; braking in a driving phase of a move; and ACTIVE in a
move that brakes toward its lens table fault, which goes on to FAULT; and the refusals of the moves and of STOP, which leave the
zoom as it is. -/
def Obligations.ZoomStopAndRefusals : Prop :=
  ∀ (e : Word) (s : State), Said.NewRequest .zoom e s.chip → s.chip.search.phase = .none → s.chip.events = [] →
    (s.chip.zoom.state = .idle ∨ s.chip.zoom.state = .parked →
      ∃ u, exec (.zoomStop e) s = .next u ∧ u.chip.zoom = s.chip.zoom
        ∧ record u.chip .zoom = Said.entry .zoom e .done .none false s.chip)
    ∧ (s.chip.zoom.state = .held →
      ∃ c, exec (.zoomStop e) s = .next (concluded c s) ∧ c.zoom.state = .idle ∧ .zoomSettled ∈ c.events
        ∧ record c .zoom = Said.entry .zoom e .done .none false s.chip)
    ∧ (∀ d, s.chip.zoom.state = .moving → s.chip.zoom.motor = .drive d → s.chip.zoom.after ≠ .tableFault →
      ∃ u, exec (.zoomStop e) s = .next u
        ∧ u.chip.zoom = { s.chip.zoom with
            phase := .braking, motor := .brake, after := .stop, holdMark := false, faultStop := false }
        ∧ record u.chip .zoom = Said.entry .zoom e .active .none false s.chip)
    ∧ (s.chip.zoom.state = .moving → s.chip.zoom.motor = .brake → s.chip.zoom.after = .tableFault →
      ∃ u, exec (.zoomStop e) s = .next u
        ∧ u.chip.zoom = { s.chip.zoom with holdMark := false, faultStop := true }
        ∧ record u.chip .zoom = Said.entry .zoom e .active .none false s.chip)
    ∧ ∀ (i : Instr) (d : Detail),
      (∃ t k, Said.ZoomMove e s.chip i t k ∧
        ((s.chip.tables.state ≠ .valid ∧ d = .noTables)
          ∨ (s.chip.tables.state = .valid ∧ s.chip.zoom.state = .lost ∧ d = .zoomLost)
          ∨ (s.chip.tables.state = .valid ∧ s.chip.zoom.state = .fault ∧ d = .zoomFault)
          ∨ (s.chip.tables.state = .valid ∧ s.chip.zoom.state = .parked ∧ d = .zoomParked)))
        ∨ (i = .zoomStop e ∧ s.chip.zoom.state = .lost ∧ d = .zoomLost)
        ∨ (i = .zoomStop e ∧ s.chip.zoom.state = .fault ∧ d = .zoomFault) →
      ∃ u, exec i s = .next u ∧ u.chip.zoom = s.chip.zoom
        ∧ record u.chip .zoom = Said.entry .zoom e .refused d false s.chip

/-- SET_DISTANCE sets D, limited to 448, and the mode MANUAL; RESUME_TRACKING sets the mode TRACKING; CONTINUOUS_ON sets the
mode CONTINUOUS and follows the lowest enabled window. Where no move can be made SET_DISTANCE and RESUME_TRACKING are DONE
with NOT_MOVED. -/
def Obligations.FocusModes : Prop :=
  ∀ (e : Word) (d : Half) (s : State), Said.NewRequest .focus e s.chip → s.chip.search.phase = .none →
    (∃ c, exec (.setDistance e d) s = .next (concluded c s) ∧ c.control.distance = min d.toNat 448
      ∧ c.control.mode = .manual)
    ∧ (∃ c, exec (.resumeTracking e) s = .next (concluded c s) ∧ c.control.distance = s.chip.control.distance
      ∧ c.control.mode = .tracking)
    ∧ (∃ c, exec (.continuousOn e) s = .next (concluded c s) ∧ c.control.mode = .continuous
      ∧ c.control.distance = s.chip.control.distance ∧ c.following.lastNear = true ∧ c.following.reference = none
      ∧ (∀ w < 5, (cfg s.chip).stats.enables.getD w false = true →
          (∀ v < w, (cfg s.chip).stats.enables.getD v false = false) → c.following.window = w)
      ∧ record c .focus = Said.entry .focus e .done .none false s.chip)
    ∧ (s.chip.events = [] → s.chip.focus.state ≠ .homing →
      s.chip.focus.homed = false ∨ s.chip.focus.state = .fault ∨ s.chip.zoom.state = .parking
        ∨ s.chip.zoom.state = .parked →
      (∃ u, exec (.setDistance e d) s = .next u ∧ u.chip.focus = s.chip.focus
        ∧ record u.chip .focus = Said.entry .focus e .done .notMoved (448 < d.toNat) s.chip)
      ∧ ∃ u, exec (.resumeTracking e) s = .next u ∧ u.chip.focus = s.chip.focus
        ∧ record u.chip .focus = Said.entry .focus e .done .notMoved false s.chip)

/-- A new edition `e` of superseding record `r` is read in RUNNING, with no edition of it held and no load in progress. A burst
may be in progress. -/
def Sys2Proof.Said.Superseding (r : RecordId) (e : Word) (c : Chip) : Prop :=
  c.port.partState = .running ∧ e ≠ 0 ∧ e ≠ (record c r).edition ∧ (record c r).earlierActive = false
    ∧ c.records.length = 9 ∧ (record c r).outcome ≠ .pending ∧ c.tables.load = none

/-- No condition of R92 before LENS_SERVICE refuses a search. -/
def Sys2Proof.Said.CanSearch (c : Chip) : Prop :=
  c.tables.state = .valid ∧ c.focus.state ≠ .fault ∧ c.focus.homed = true

/-- The zoom is parking or parked. -/
def Sys2Proof.Said.ZoomParks (c : Chip) : Prop := c.zoom.state = .parking ∨ c.zoom.state = .parked

/-- What a SEARCH request does (R92, R93). -/
def Sys2Proof.Said.SearchBegins : Prop :=
  ∀ (e : Word) (s : State), Said.NewRequest .focus e s.chip → s.chip.search.phase = .none →
    (∀ d, s.chip.events = [] →
      (s.chip.tables.state ≠ .valid ∧ d = Detail.noTables)
        ∨ (s.chip.tables.state = .valid ∧ s.chip.focus.state = .fault ∧ d = .focusFault)
        ∨ (s.chip.tables.state = .valid ∧ s.chip.focus.state ≠ .fault ∧ s.chip.focus.homed = false
            ∧ d = .focusNotHomed)
        ∨ (Said.CanSearch s.chip ∧ (∃ w, s.chip.service = some w ∧ (w.part = .zoom ∨ w.part = .focus))
            ∧ d = .lensService)
        ∨ (Said.CanSearch s.chip ∧ s.chip.service = none ∧ Said.ZoomParks s.chip ∧ d = .zoomParked) →
      ∃ u, exec (.search e) s = .next u ∧ u.chip.search = s.chip.search ∧ u.chip.control = s.chip.control
        ∧ record u.chip .focus = Said.entry .focus e .refused d false s.chip)
    ∧ (Said.CanSearch s.chip → s.chip.service = none → ¬ Said.ZoomParks s.chip →
      let begun : Search := { s.chip.search with
        phase := .searchWait, origin := .request, kept := (cfg s.chip).search, enabled := (cfg s.chip).stats.enables,
        fromContinuous := false, motor := false, record := [], peaks := List.replicate 5 none }
      (zoomStill s.chip.zoom = false ∨ (readTrack s.chip.zoom.counter s.chip).1 = none →
        ∃ c, exec (.search e) s = .next (concluded c s) ∧ c.search = begun
          ∧ c.control.mode = .search ∧ c.control.result = .none ∧ .searchHoldBegin ∈ c.events
          ∧ (zoomStill s.chip.zoom = false → c.events = s.chip.events ++ [.searchHoldBegin])
          ∧ record c .focus = Said.entry .focus e .active .none false s.chip)
      ∧ ∀ t, zoomStill s.chip.zoom = true → (readTrack s.chip.zoom.counter s.chip).1 = some t →
        let margin : Int := (cfg s.chip).search.margin
        let lo := max 0 (min ((trackAt t 0 : Int) - margin) (fMax s.chip))
        let hi := max 0 (min ((trackAt t 448 : Int) + margin) (fMax s.chip))
        let low : Bool := (s.chip.focus.counter - lo).natAbs ≤ (s.chip.focus.counter - hi).natAbs
        ∃ c, exec (.search e) s = .next (concluded c s)
          ∧ c.search = { begun with
              phase := .coarse, lo := lo, hi := hi, sweepNear := low, wanted := if low then lo else hi, motor := true }
          ∧ c.control.mode = .search ∧ c.control.result = .none ∧ .searchHoldBegin ∈ c.events
          ∧ (s.chip.focus.state = .idle → s.chip.focus.train = .none → c.focus.target = if low then lo else hi)
          ∧ record c .focus = Said.entry .focus e .active .none false s.chip)

/-- SEARCH in a burst is refused with BURST_ACTIVE (R92). -/
def Sys2Proof.Said.SearchInBurst : Prop :=
  ∀ (e : Word) (s : State), Said.Superseding .focus e s.chip → s.chip.search.phase = .none →
    burstInProgress s.chip = true → Said.CanSearch s.chip → s.chip.service = none → ¬ Said.ZoomParks s.chip →
    s.chip.events = [] →
    ∃ u, exec (.search e) s = .next u ∧ u.chip.search = s.chip.search ∧ u.chip.control = s.chip.control
      ∧ record u.chip .focus = Said.entry .focus e .refused .burstActive false s.chip

/-- One window's peak summary at a coarse sample with focus value `v` at position `p` (R95). -/
def Sys2Proof.Said.PeakSummary : Prop :=
  ∀ (drop v : Nat) (p : Int), updatePeak drop p v none = ⟨v, p, 0, false⟩ ∧ ∀ k : Peak,
    (k.passed = true → updatePeak drop p v (some k) = k)
    ∧ (k.passed = false → k.maximum < v → updatePeak drop p v (some k) = ⟨v, p, 0, false⟩)
    ∧ (k.passed = false → v ≤ k.maximum → v < k.maximum * (256 - drop) / 256 →
        updatePeak drop p v (some k) = { k with below := k.below + 1, passed := k.below + 1 == 2 })
    ∧ (k.passed = false → v ≤ k.maximum → k.maximum * (256 - drop) / 256 ≤ v →
        updatePeak drop p v (some k) = { k with below := 0 })

/-- The position after `wanted` of a sweep by `step` toward `last` (R94, R97). -/
def Sys2Proof.Said.furtherOn (near : Bool) (step : Nat) (wanted last : Int) : Int :=
  if near then min last (wanted + step) else max last (wanted - step)

/-- A frame end in COARSE with the focus at rest: the sample joins the record, the summaries are updated, and the sweep goes on
to the next position or the phase ends (R90, R94). -/
def Sys2Proof.Said.CoarseSample : Prop :=
  ∀ (f : OpenFrame) (input : ReceivedFrame) (values : List Nat) (s : State), s.chip.pixel.frame = some f →
    f.received = none → f.captureSlot = none → f.metered = true → f.height ≤ input.lines.length →
    (∀ l ∈ input.lines.take f.height, f.width ≤ l.length) → s.chip.search.phase = .coarse →
    s.chip.search.motor = true → s.chip.focus.state = .idle → s.chip.focus.train = .none →
    s.chip.focus.motion = false → s.chip.following.active = false →
    enabledValues s.chip.search.enabled
      (focusValues f.geometry (activeFrame f.width f.height input.lines)) = some values →
    let k := s.chip.search
    let p := s.chip.focus.counter
    let last := if k.sweepNear then k.hi else k.lo
    let peaks := updatePeaks k.kept.drop p k.enabled values k.peaks
    let ends := p = last ∨ 63 ≤ k.record.length
      ∨ ∀ w < 5, k.enabled.getD w false = true → ∃ q, peaks.getD w none = some q ∧ q.passed = true
    let next := Said.furtherOn k.sweepNear k.kept.coarse k.wanted last
    (¬ ends → ∃ c, exec (.frameEnd input) s = .next (concluded c s)
      ∧ c.search = { k with record := k.record ++ [⟨p, values, false⟩], peaks := peaks, wanted := next }
      ∧ c.focus.target = max 0 (min next (fMax s.chip)))
    ∧ (ends → ∃ c, exec (.frameEnd input) s = .next (concluded c s) ∧ c.search.phase ≠ .coarse
      ∧ c.search.record = k.record ++ [⟨p, values, false⟩] ∧ c.search.peaks = peaks)

/-- CHOOSE: of the candidates the one with the largest inv is chosen, the lower window number at a tie; without a candidate the
search finishes NOT_FOUND with the fallback D (R96, R99). -/
def Sys2Proof.Said.WindowChoice : Prop :=
  (∀ (t : TrackData) (x : Nat × Int) (xs : List (Nat × Int)), ∃ before after,
    x :: xs = before ++ nearest t x xs :: after
      ∧ (∀ y ∈ before, invAt t y.2 < invAt t (nearest t x xs).2)
      ∧ ∀ y ∈ after, invAt t y.2 ≤ invAt t (nearest t x xs).2)
    ∧ ∀ c : Chip, (∀ w < 5, ∀ q, c.search.peaks.getD w none = some q →
        q.passed = false ∨ q.maximum < c.search.kept.minContrast) →
      let d := applyChoose c
      d.search.phase = .none ∧ d.search.motor = false ∧ d.control.distance = (cfg c).focus.fallback
        ∧ d.control.result = .notFound ∧ .searchHoldEnd ∈ d.events ∧ .searchOver false ∈ d.events
        ∧ d.control.mode = (if c.search.fromContinuous then .continuous else .tracking)

/-- FINE: its range and start end, and its sweep (R97). -/
def Sys2Proof.Said.FineSweep : Prop :=
  ∀ c : Chip, c.focus.state = .idle → c.focus.train = .none →
    (∀ (w : Nat) (peak : Int), c.search.record.length < 64 →
      let lo := max (peak - (c.search.kept.coarse : Int)) c.search.lo
      let hi := min (peak + (c.search.kept.coarse : Int)) c.search.hi
      let low : Bool := (c.focus.counter - lo).natAbs ≤ (c.focus.counter - hi).natAbs
      let start := if low then lo else hi
      (enterFine w peak c).search = { c.search with
          phase := .fine, chosen := some w, fineLo := lo, fineHi := hi, sweepNear := low, wanted := start }
        ∧ (enterFine w peak c).focus.target = max 0 (min start (fMax c)))
    ∧ ∀ values : List Nat,
      let k := c.search
      let last := if k.sweepNear then k.fineHi else k.fineLo
      let next := Said.furtherOn k.sweepNear k.kept.fine k.wanted last
      c.focus.counter ≠ last → k.record.length < 63 →
      (fineSample values c).search = { k with
          record := k.record ++ [⟨c.focus.counter, values, true⟩], wanted := next }
        ∧ (fineSample values c).focus.target = max 0 (min next (fMax c))

/-- The offset of the estimated peak: 0 where the denominator is 0 or greater, otherwise the quotient to the nearest integer,
halves away from zero, limited to half a fine step (R98). -/
def Sys2Proof.Said.PeakOffset : Prop :=
  ∀ (fs : Nat) (below top above : Int),
    let d := 2 * (below - 2 * top + above)
    let n := fs * (below - above)
    (0 ≤ d → peakOffset fs below top above = 0)
    ∧ (d < 0 → ∃ q : Int, 2 * (n - q * d).natAbs ≤ d.natAbs
        ∧ (2 * (n - q * d).natAbs = d.natAbs → n.natAbs ≤ (q * d).natAbs)
        ∧ peakOffset fs below top above = max (-((fs / 2 : Nat) : Int)) (min q ((fs / 2 : Nat) : Int)))

/-- FINISH: D is inv of the estimated peak, CONFIRMED, and the phase, the motor, the exposure hold and the mode are given back;
while a read is unavailable the search stays (R99). -/
def Sys2Proof.Said.SearchFinish : Prop :=
  ∀ c : Chip,
    let d := applyFinish c
    (∀ t, (readTrack c.zoom.counter c).1 = some t →
      d.search.phase = .none ∧ d.search.motor = false ∧ d.control.distance = invAt t c.search.peak
        ∧ d.control.result = .confirmed ∧ .searchHoldEnd ∈ d.events ∧ .searchOver true ∈ d.events
        ∧ d.control.mode = (if c.search.fromContinuous then .continuous else .tracking))
    ∧ ((readTrack c.zoom.counter c).1 = none → d.search = c.search ∧ d.control = c.control)

/-- SEARCH is refused under the first condition of R92 that holds; otherwise a search begins and the exposure hold with it: in
SEARCH_WAIT while the zoom is not still or a table read is unavailable, and otherwise in COARSE over the range of R93, from its
nearer end. A coarse sample joins the record and the peak summaries, and the sweep goes on or ends; CHOOSE takes the nearest
subject among the candidates or finishes NOT_FOUND; FINE sweeps around the chosen peak; and FINISH sets D from the interpolated
peak. That the chosen window, the ranges and p* of the last search stand when the next one begins is the model's (log 14). -/
def Obligations.SearchRequest : Prop :=
  Said.SearchBegins ∧ Said.SearchInBurst ∧ Said.PeakSummary ∧ Said.CoarseSample ∧ Said.WindowChoice ∧ Said.FineSweep
    ∧ Said.PeakOffset ∧ Said.SearchFinish

/-- AUTO, LOCK and MANUAL are DONE at once: AUTO takes the compensation limited to -48..48, LOCK keeps the triple, and MANUAL
applies its triple limited to the limits in force, to be written at the next frame start while the stream runs. MANUAL is
refused under the search hold. That the mode of AUTO and LOCK changes at once under the search hold too is the model's (log 28). -/
def Obligations.ExposureRequests : Prop :=
  ∀ (e : Word) (s : State), Said.NewRequest .exposure e s.chip → s.chip.events = [] →
    (∀ v : Half, ∃ u, exec (.exposureAuto e v) s = .next u ∧ u.chip.exposure.mode = .auto
      ∧ u.chip.exposure.compensation = max (-48) (min v.toInt 48)
      ∧ record u.chip .exposure
          = Said.entry .exposure e .done .none (max (-48) (min v.toInt 48) != v.toInt) s.chip)
    ∧ (∃ u, exec (.exposureLock e) s = .next u ∧ u.chip.exposure.mode = .lock
      ∧ u.chip.exposure.applied = s.chip.exposure.applied
      ∧ u.chip.exposure.compensation = s.chip.exposure.compensation
      ∧ record u.chip .exposure = Said.entry .exposure e .done .none false s.chip)
    ∧ ∀ xt xg xa : Half,
      (s.chip.exposure.hold = false →
        let l := limits s.chip
        let t : Triple := withSensorValues (cfg s.chip).sensor l.xaMin
          { xt := max l.xtLo (min xt.toNat l.xtFrame), xg := min xg.toNat l.xgMax,
            xa := max l.xaMin (min xa.toNat l.xaHi) }
        ∃ u, exec (.exposureManual e xt xg xa) s = .next u ∧ u.chip.exposure.mode = .manual
          ∧ u.chip.exposure.applied = some t
          ∧ u.chip.exposure.writeDue = (s.chip.pixel.stream == .streaming || s.chip.pixel.stream == .stalled)
          ∧ record u.chip .exposure = Said.entry .exposure e .done .none
              (t.xt != xt.toNat || t.xg != xg.toNat || t.xa != xa.toNat) s.chip)
      ∧ (s.chip.exposure.hold = true →
        ∃ u, exec (.exposureManual e xt xg xa) s = .next u ∧ u.chip.exposure = s.chip.exposure
          ∧ record u.chip .exposure = Said.entry .exposure e .refused .searchHold false s.chip)

/-- The part after the first event that waits has been taken. -/
def Sys2Proof.Said.takeEvent (c : Chip) : Chip :=
  match c.events with
  | [] => c
  | e :: es => handle e { c with events := es }

/-- A burst of part `c` waits for the zoom with the parameters in force. -/
def Sys2Proof.Said.BurstStarts (s c : Chip) : Prop :=
  c.capture.state = .waitZoom ∧ c.capture.burst.priority = (cfg s).capture.priority
    ∧ c.capture.burst.rateMask = (cfg s).capture.rateMask

/-- STOP in a burst that a request holds, with no line pressed: before a picture the burst ends at once, with its events, and in
FILLING it ends with the picture (R145, R151). -/
def Sys2Proof.Said.StopInBurst : Prop :=
  ∀ (e : Word) (s : State), Said.Superseding .capture e s.chip → s.chip.capture.press = .full →
    s.chip.capture.s1.pressed = false → s.chip.capture.s2.pressed = false →
    (s.chip.capture.state = .waitZoom ∨ s.chip.capture.state = .waitFocus ∨ s.chip.capture.state = .waitFrame
        ∨ s.chip.capture.state = .waitRoom →
      ∃ c, exec (.captureStop e) s = .next (concluded c s) ∧ c.capture.state = .idle ∧ c.capture.press = .none
        ∧ .halfPressEnd ∈ c.events ∧ .captureReleased ∈ c.events ∧ .burstEnd ∈ c.events
        ∧ record c .capture = Said.entry .capture e .done .none false s.chip)
    ∧ (s.chip.capture.state = .filling →
      ∃ c, exec (.captureStop e) s = .next (concluded c s) ∧ c.capture.state = .filling ∧ c.capture.press = .none
        ∧ c.capture.burst.released = true
        ∧ record c .capture = Said.entry .capture e .done .none false s.chip)

/-- PREPARE, START_BURST and STOP set the request press; from IDLE the first two prepare, a full press starts a burst, from
PREPARED at once and from IDLE with the third event of the command, after the half press, and STOP with no line pressed goes
back to IDLE, or ends the burst. START_BURST is refused while the stream is in FAULT. That the remaining count is 0 from a STOP
on is the model's (log 16). -/
def Obligations.CaptureRequests : Prop :=
  Said.StopInBurst ∧ ∀ (e : Word) (n : Byte) (s : State), Said.NewRequest .capture e s.chip →
    (∃ c, exec (.capturePrepare e) s = .next (concluded c s) ∧ c.capture.press = .half
      ∧ record c .capture = Said.entry .capture e .done .none false s.chip
      ∧ (s.chip.capture.state = .idle → halfHeld s.chip.capture = false → c.capture.state = .prepared))
    ∧ (s.chip.pixel.stream ≠ .fault →
      ∃ c, exec (.startBurst e n) s = .next (concluded c s) ∧ c.capture.press = .full ∧ c.capture.count = n.toNat
        ∧ c.capture.left = n.toNat
        ∧ record c .capture = Said.entry .capture e .active .none false s.chip
        ∧ (s.chip.capture.state = .idle → halfHeld s.chip.capture = false → c.capture.state = .prepared
            ∧ c.events = s.chip.events ++ [.captureEngaged, .halfPress, .pressChange true false]
            ∧ (s.chip.events = [] → Said.BurstStarts s.chip (Said.takeEvent (Said.takeEvent (Said.takeEvent c)))))
        ∧ (s.chip.capture.state = .prepared → fullHeld s.chip.capture = false → Said.BurstStarts s.chip c))
    ∧ (s.chip.pixel.stream = .fault →
      ∃ c, exec (.startBurst e n) s = .next (concluded c s) ∧ c.capture.press = s.chip.capture.press
        ∧ c.capture.lastRefusal = .noStream
        ∧ record c .capture = Said.entry .capture e .refused .noStream false s.chip)
    ∧ ∃ c, exec (.captureStop e) s = .next (concluded c s) ∧ c.capture.press = .none ∧ c.capture.count = 0
        ∧ c.capture.left = 0 ∧ record c .capture = Said.entry .capture e .done .none false s.chip
        ∧ (s.chip.capture.state = .prepared → s.chip.capture.s1.pressed = false → s.chip.capture.s2.pressed = false →
            c.capture.state = .idle)

/-- A picture begins when the store is idle on a READY card: the head of the queue becomes STORING, its first run takes up to
64 sectors from the space cursor as its first extent, and the run writes from the slot buffer (R160, R163). -/
def Sys2Proof.Said.PictureBegins : Prop :=
  ∀ (c : Chip) (n : Nat) (rest : List Nat), c.port.partState = .running → c.card.state = .ready → c.card.run = none →
    c.store.picture = none → c.store.order = none → c.store.queue = n :: rest → n < c.slots.length →
    c.store.space.cursor < c.store.space.start + c.store.space.count → 0 < (slot c n).byteLength →
    let space := c.store.space
    let k := min (min 64 (((slot c n).byteLength + 511) / 512)) (space.start + space.count - space.cursor)
    let d := handle .cardWork c
    d.store.queue = rest ∧ d.store.picture.map (·.slot) = some n
      ∧ d.store.space = { space with cursor := space.cursor + k }
      ∧ (slot d n).state = .storing ∧ (slot d n).store = .storing ∧ (slot d n).extents = [⟨space.cursor, k⟩]
      ∧ ∃ r, d.card.run = some r ∧ r.kind = .picture ∧ r.write = true ∧ r.phase = .response
        ∧ r.plan = { sector := space.cursor, count := k, firstData := 0, isHeader := false }
        ∧ r.address = (cfg c).pool.poolBase + n * (cfg c).pool.slotSize

/-- SPACE and SPARE by card state: refused without a card, held while it initialises, and taken with the count limited to the
capacity, the old remainder dropped and the cursor at the start; and the first run of a picture allocates from the space
cursor. That the dropped remainder is shown for SPARE as for SPACE is the model's (log 25). -/
def Obligations.Grants : Prop :=
  Said.PictureBegins ∧ ∀ (e start n : Word) (s : State),
    (∀ r i q, (r = RecordId.space ∧ i = Instr.space e start n ∧ q = Request.space start.toNat n.toNat)
        ∨ (r = .spare ∧ i = .spare e start n ∧ q = .spare start.toNat n.toNat) →
      Said.NewRequest r e s.chip →
      (s.chip.card.state = .absent →
        ∃ c, exec i s = .next (concluded c s) ∧ c.store = s.chip.store
          ∧ record c r = Said.entry r e .refused .noCard false s.chip)
      ∧ (s.chip.card.state = .initialising →
        ∃ c, exec i s = .next (concluded c s) ∧ c.store = s.chip.store
          ∧ record c r = { (Said.entry r e .pending .heldCardInit false s.chip) with held := some q })
      ∧ (s.chip.card.state = .fault → s.chip.card.capacity = none →
        ∃ c, exec i s = .next (concluded c s) ∧ c.store = s.chip.store
          ∧ record c r = Said.entry r e .refused .cardFault false s.chip))
    ∧ ∀ k, s.chip.card.state = .ready ∨ s.chip.card.state = .fault → s.chip.card.capacity = some k →
      let m := if k ≤ start.toNat then 0 else min n.toNat (k - start.toNat)
      (Said.NewRequest .space e s.chip →
        let dropped := s.chip.store.space.start + s.chip.store.space.count - s.chip.store.space.cursor
        ∃ c, exec (.space e start n) s = .next (concluded c s) ∧ c.store.space = ⟨start.toNat, m, start.toNat⟩
          ∧ c.store.dropped = dropped ∧ c.store.spare = s.chip.store.spare
          ∧ record c .space = Said.entry .space e .done (if dropped = 0 then .none else .remainderDropped)
              (m != n.toNat) s.chip)
      ∧ (Said.NewRequest .spare e s.chip →
        let dropped := s.chip.store.spare.start + s.chip.store.spare.count - s.chip.store.spare.cursor
        ∃ c, exec (.spare e start n) s = .next (concluded c s) ∧ c.store.spare = ⟨start.toNat, m, start.toNat⟩
          ∧ c.store.dropped = dropped ∧ c.store.space = s.chip.store.space
          ∧ record c .spare = Said.entry .spare e .done (if dropped = 0 then .none else .remainderDropped)
              (m != n.toNat) s.chip)

/-- The card arbiter: a picture run goes first at the store pressure level, otherwise picture and order runs alternate, and an
order's run covers up to 64 of its sectors left (R167, R168). -/
def Sys2Proof.Said.ArbiterChoice : Prop :=
  ∀ c : Chip,
    let order := ∃ o, c.store.order = some o ∧ o.waiting = false ∧ o.done < o.count
    (pictureReady c = true → freeSlots c ≤ (cfg c).capture.pressure → chooseRun c = choosePictureRun c)
    ∧ (pictureReady c = true → (cfg c).capture.pressure < freeSlots c → order →
        (c.store.lastKind = .picture → chooseRun c = chooseOrderRun c)
          ∧ (c.store.lastKind = .cardOrder → chooseRun c = choosePictureRun c))
    ∧ (pictureReady c = true → ¬ order → chooseRun c = choosePictureRun c)
    ∧ (pictureReady c = false → order → chooseRun c = chooseOrderRun c)
    ∧ (pictureReady c = false → ¬ order → chooseRun c = c)
    ∧ ∀ o, c.store.order = some o → o.next = none →
      (chooseOrderRun c).store.lastKind = .cardOrder ∧ (chooseOrderRun c).card.run = some {
        kind := .cardOrder, write := o.write, address := o.address + 512 * o.done,
        plan := { sector := o.sector + o.done, count := min 64 (o.count - o.done), firstData := 0, isHeader := false },
        retryLimit := (cfg c).capture.retryLimit, busyLimit := (cfg c).capture.busyLimit }

/-- A CARD_ORDER on a READY card is held against the capacity and becomes ACTIVE, or is DONE at once with 0 sectors done
beyond it; while the card initialises it waits, ACTIVE; without a ready card it fails; an unknown kind is refused; and the
arbiter chooses between the runs of orders and pictures. That the kind served is set when a run begins is the model's (log
25). -/
def Obligations.CardOrders : Prop :=
  Said.ArbiterChoice ∧ ∀ (e : Word) (kind : Byte) (n : Half) (sector address : Word) (s : State), Said.NewRequest .cardOrder e s.chip →
    let asked := max n.toNat 1
    (2 ≤ kind.toNat →
      ∃ c, exec (.cardOrder e kind n sector address) s = .next (concluded c s) ∧ c.store.order = s.chip.store.order
        ∧ record c .cardOrder = Said.entry .cardOrder e .refused .unknownKind false s.chip)
    ∧ (kind.toNat < 2 →
      (∀ k, s.chip.card.state = .ready → s.chip.card.capacity = some k → sector.toNat < k →
        ∃ c, exec (.cardOrder e kind n sector address) s = .next (concluded c s)
          ∧ c.store.order = some {
              write := kind == 1, sector := sector.toNat, count := min asked (k - sector.toNat), address := address.toNat }
          ∧ c.store.sectorsDone = 0
          ∧ record c .cardOrder = Said.entry .cardOrder e .active .none
              (n.toNat == 0 || k - sector.toNat < asked) s.chip)
      ∧ (∀ k, s.chip.card.state = .ready → s.chip.card.capacity = some k → k ≤ sector.toNat →
        ∃ c, exec (.cardOrder e kind n sector address) s = .next (concluded c s) ∧ c.store.order = none
          ∧ c.store.sectorsDone = 0
          ∧ record c .cardOrder = Said.entry .cardOrder e .done .none true s.chip)
      ∧ (s.chip.card.state = .initialising →
        ∃ c, exec (.cardOrder e kind n sector address) s = .next (concluded c s)
          ∧ c.store.order = some {
              write := kind == 1, sector := sector.toNat, count := asked, address := address.toNat, waiting := true }
          ∧ c.store.sectorsDone = 0
          ∧ record c .cardOrder = Said.entry .cardOrder e .active .none (n.toNat == 0) s.chip)
      ∧ (s.chip.card.state = .absent ∨ s.chip.card.state = .fault →
        ∃ c, exec (.cardOrder e kind n sector address) s = .next (concluded c s) ∧ c.store.order = s.chip.store.order
          ∧ record c .cardOrder = Said.entry .cardOrder e .failed
              (if s.chip.card.state = .absent then .noCard else .cardFault) (n.toNat == 0) s.chip))

/-! ### Sensor, frames and the capture DMA -/

/-- Configuration writes: each acknowledged one leads to the next, stream on makes the stream STREAMING with the
written triple in effect, a first missing acknowledgement repeats the write and a second puts the stream in FAULT. A
reconfiguration writes the waiting triple, otherwise the newest entry of the pipeline, otherwise the effective triple, once no
frame is open and no write is in flight. Each write goes to the sensor address and carries its value of the settings in force at
the entry to CONFIGURING. A missing frame start stalls the stream. The configuration writes are counted as the
model does (log 23), and that the pipeline is emptied at the entry to CONFIGURING is the model's (log 15). -/
def Obligations.StreamConfiguration : Prop :=
  ∀ s : State,
    (∀ w : ConfigWork, s.chip.pixel.config = some w → s.chip.pixel.inFlight = none → s.chip.pixel.stopping ≠ .writing →
      let k := s.chip.pixel.carried
      sensorTransaction s.chip = some ⟨k.address, match w.write with
        | 0 => .streamOff
        | 1 => .frameWidth k.width
        | 2 => .frameHeight k.height
        | 3 => .frameLines k.frameLines
        | 4 => .linePeriod k.linePeriod
        | 5 => .exposure k.shutterRegister w.triple.lineCount k.gainRegister w.triple.gainCode
        | _ => .streamOn⟩)
    ∧ (∀ (ack : Bool) (w : ConfigWork), s.chip.pixel.config = some w →
      (ack = true → w.write ≠ 6 →
        exec (.configWriteDone ack) s = .next (concluded
          { s.chip with pixel := { s.chip.pixel with
              config := some { w with write := w.write + 1, repeated := false } } } s))
      ∧ (ack = true → w.write = 6 →
        ∃ c, exec (.configWriteDone ack) s = .next (concluded c s) ∧ c.pixel.stream = .streaming
          ∧ c.pixel.config = none ∧ c.pixel.effective = some w.triple ∧ c.pixel.pipeline = []
          ∧ c.notices = s.chip.notices)
      ∧ (ack = false → w.repeated = false →
        exec (.configWriteDone ack) s = .next (concluded
          { s.chip with pixel := { s.chip.pixel with config := some { w with repeated := true } } } s))
      ∧ (ack = false → w.repeated = true →
        ∃ c, exec (.configWriteDone ack) s = .next (concluded c s) ∧ c.pixel.stream = .fault
          ∧ c.pixel.config = none ∧ c.events = s.chip.events ++ [.streamFault]
          ∧ c.notices.counts = s.chip.notices.counts.modify 8 (· + 1)))
    ∧ (∀ t, s.chip.pixel.reconfigure = true →
      s.chip.pixel.stream = .streaming ∨ s.chip.pixel.stream = .stalled → s.chip.pixel.frame = none →
      s.chip.pixel.inFlight = none →
      s.chip.pixel.waiting = some t
        ∨ (s.chip.pixel.waiting = none ∧ s.chip.pixel.pipeline = [] ∧ s.chip.pixel.effective = some t)
        ∨ (s.chip.pixel.waiting = none ∧ ∃ e ∈ s.chip.pixel.pipeline, e.triple = t
            ∧ ∀ x ∈ s.chip.pixel.pipeline, x ≠ e → x.order < e.order) →
      ∃ c, exec .sensorReconfigure s = .next (concluded c s) ∧ c.pixel.stream = .configuring
        ∧ c.pixel.config = some ⟨0, false, t⟩ ∧ c.pixel.pipeline = [] ∧ c.pixel.iris = t.iris
        ∧ c.pixel.carried = (cfg s.chip).sensor)
    ∧ (s.chip.pixel.stream = .streaming →
      exec .stallTimeout s = .next (concluded (notice .fault (mark .exposure
        { s.chip with pixel := { s.chip.pixel with stream := .stalled } })) s))

/-- Nothing but the frame itself and a search waits for the next frame start: no work due in the Exposure Unit, no zoom motion
and no held SETTINGS request. -/
def Sys2Proof.Said.CalmButSearch (c : Chip) : Prop :=
  (c.pixel.stream = .streaming ∨ c.pixel.stream = .stalled) ∧ c.pixel.frame = none ∧ c.exposure.reread = false
    ∧ c.exposure.resplitDue = false ∧ c.exposure.writeDue = false ∧ zoomInMotion c.zoom = false
    ∧ (record c .settings).held = none

/-- Nothing but the frame itself waits for the next frame start. -/
def Sys2Proof.Said.CalmFrame (c : Chip) : Prop := Said.CalmButSearch c ∧ c.search.phase = .none

/-- Slot `n` is the lowest FREE slot in use. -/
def Sys2Proof.Said.LowestFree (n : Nat) (c : Chip) : Prop :=
  c.slots.length = 16 ∧ n < (cfg c).pool.slotCount ∧ n < 16 ∧ (slot c n).state = .free
    ∧ ∀ m < n, (slot c m).state ≠ .free

/-- A frame start in WAIT_ZOOM that ends a search, because the burst does not wait for one, is a capture frame at once: a move
of the focus is suspended, and the final target of the search's end is taken into SUSPENDED (R76, R146, R147). That the frame
start that ends WAIT_ZOOM is the one that claims the slot is the model's (log 16). -/
def Sys2Proof.Said.CaptureEndsSearch : Prop :=
  ∀ (time n : Nat) (s : State), Said.CalmButSearch s.chip → s.chip.search.phase ≠ .none →
    s.chip.capture.state = .waitZoom → s.chip.capture.filling = none → zoomStill s.chip.zoom = true →
    s.chip.capture.burst.priority ≠ 1 ∨ s.chip.capture.burst.focusWait = 0 → s.chip.now ≤ time →
    Said.LowestFree n s.chip →
    s.chip.focus.state ≠ .homing → s.chip.focus.afterRamp = .none → s.chip.focus.train ≠ .continuous →
    ∃ c, exec (.frameStart time []) s = .next (concluded c s) ∧ c.capture.filling = some n
      ∧ c.search.phase = .none ∧ (slot c n).flags.focusUnconfirmed = true ∧ c.focus.hold = true
      ∧ c.focus.counter = s.chip.focus.counter
      ∧ ((c.focus.train = .suspended ∧ (s.chip.focus.train = .suspended ∨ c.focus.state = .moving))
        ∨ (s.chip.focus.train = .none ∧ c.focus = { s.chip.focus with hold := true, motion := false }))

/-- The first entry of the pipeline is due at the next frame start, and no other is. -/
def Sys2Proof.Said.EntryDue (p : Pixel) (e : PipelineEntry) (rest : List PipelineEntry) : Prop :=
  p.pipeline = e :: rest ∧ e.frame = p.frameCounter + 1 ∧ ∀ x ∈ rest, x.frame ≠ p.frameCounter + 1

/-- The time of the next picture has come in WAIT_FRAME, or the burst waits for room. -/
def Sys2Proof.Said.PictureWanted (time : Nat) (k : Capture) : Prop :=
  (k.state = .waitFrame ∧ ∀ t, k.burst.earliest = some t → t ≤ time) ∨ k.state = .waitRoom

/-- A frame start counts the frame, opens it with the triple in effect, and returns a stalled stream to STREAMING. An entry of
the pipeline that is due leaves it and takes effect with its iris level, and the metered mark is set exactly when no entry is
left. A claim at a frame start in WAIT_FRAME whose time has come, or in WAIT_ROOM: the lowest FREE slot becomes FILLING with its
fill count and the picture number counted, the picture number and the burst's picture count advance, and the DMA, the capture
window and the capture hold begin, which suspends a move of the focus. With no slot FREE, WAIT_FRAME goes to WAIT_ROOM and the
picture to come is DELAYED. A frame start that ends a search for the burst is a capture frame too. Times come with the commands
(log 2). That a frame start that ends WAIT_ZOOM, with the search, claims a slot at that same frame start, and that the last
picture number changes at the claim, is the model's (log 16). -/
def Obligations.FrameStarts : Prop :=
  Said.CaptureEndsSearch ∧ (∀ (time : Nat) (s : State), Said.CalmFrame s.chip →
    s.chip.capture.state = .idle ∨ s.chip.capture.state = .prepared → s.chip.capture.filling = none →
    let opened := fun (t : Option Triple) (metered : Bool) => ({
      number := s.chip.pixel.frameCounter + 1, effective := t, metered := metered, captureSlot := none,
      geometry := (cfg s.chip).stats, width := (cfg s.chip).sensor.width, height := (cfg s.chip).sensor.height } : OpenFrame)
    ∃ c, exec (.frameStart time []) s = .next (concluded c s) ∧ c.pixel.stream = .streaming
      ∧ c.pixel.frameCounter = s.chip.pixel.frameCounter + 1
      ∧ ((∀ x ∈ s.chip.pixel.pipeline, x.frame ≠ s.chip.pixel.frameCounter + 1) →
          c.pixel.frame = some (opened s.chip.pixel.effective s.chip.pixel.pipeline.isEmpty)
            ∧ c.pixel.pipeline = s.chip.pixel.pipeline ∧ c.pixel.effective = s.chip.pixel.effective
            ∧ c.pixel.iris = s.chip.pixel.iris)
      ∧ (∀ e rest, Said.EntryDue s.chip.pixel e rest →
          c.pixel.frame = some (opened (some e.triple) rest.isEmpty) ∧ c.pixel.pipeline = rest
            ∧ c.pixel.effective = some e.triple ∧ c.pixel.iris = e.triple.iris)
      ∧ c.focus = { s.chip.focus with motion := false } ∧ c.notices = s.chip.notices ∧ c.capture = s.chip.capture)
    ∧ (∀ (time : Nat) (s : State), Said.CalmFrame s.chip → s.chip.capture.state = .waitFrame →
      s.chip.capture.filling = none →
      ((∀ t, s.chip.capture.burst.earliest = some t → t ≤ time) →
        (∀ m < (cfg s.chip).pool.slotCount, (slot s.chip m).state ≠ .free) →
        ∃ c, exec (.frameStart time []) s = .next (concluded c s) ∧ c.capture.state = .waitRoom
          ∧ c.capture.burst.delayed = true ∧ c.capture.filling = none ∧ c.slots = s.chip.slots)
      ∧ (∀ t, s.chip.capture.burst.earliest = some t → time < t →
        ∃ c, exec (.frameStart time []) s = .next (concluded c s) ∧ c.capture = s.chip.capture
          ∧ c.slots = s.chip.slots))
    ∧ ∀ (time n : Nat) (s : State), Said.CalmFrame s.chip → Said.PictureWanted time s.chip.capture →
    Said.LowestFree n s.chip →
    ∃ c, exec (.frameStart time []) s = .next (concluded c s)
      ∧ c.capture.state = .filling ∧ c.capture.filling = some n
      ∧ c.capture.nextNumber = s.chip.capture.nextNumber + 1
      ∧ c.capture.lastNumber = s.chip.capture.nextNumber
      ∧ c.capture.burst.pictures = s.chip.capture.burst.pictures + 1
      ∧ c.capture.burst.previousStart = some time
      ∧ (slot c n).state = .filling ∧ (slot c n).result = .filling
      ∧ (slot c n).number = s.chip.capture.nextNumber ∧ (slot c n).fill = (slot s.chip n).fill + 1
      ∧ (slot c n).frame = s.chip.pixel.frameCounter + 1
      ∧ (slot c n).flags.delayed = s.chip.capture.burst.delayed
      ∧ c.pixel.dma = .running ∧ c.focus.hold = true
      ∧ (s.chip.focus.train = .none → c.focus = { s.chip.focus with hold := true, motion := false })
      ∧ (s.chip.focus.train = .counted ∨ s.chip.focus.train = .dwell → s.chip.focus.afterRamp = .none →
        s.chip.focus.state ≠ .homing →
        c.focus = { s.chip.focus with hold := true, motion := false, state := .moving, train := .suspended })
      ∧ (∃ w, c.stab.window = some w ∧ w.mode = s.chip.stab.mode)

/-- All lines and pixels of frame `f` are in what the frame end command brings. -/
def Sys2Proof.Said.Complete (f : OpenFrame) (input : ReceivedFrame) : Prop :=
  f.height ≤ input.lines.length ∧ ∀ l ∈ input.lines.take f.height, f.width ≤ l.length

/-- The active frame `data` of capture frame `f` is complete and its last DMA write acknowledged: with the frame end, or by the
command that follows a frame end without it. -/
def Sys2Proof.Said.InSlot (f : OpenFrame) (input : ReceivedFrame) (data : List (List Nat)) : Prop :=
  input.written = true ∧ ∃ lines, data = activeFrame f.width f.height lines
    ∧ ((f.received = none ∧ Said.Complete f input ∧ lines = input.lines) ∨ f.received = some lines)

/-- A frame end: the frame closes, and the metering figures of a metered frame in RUNNING are those of R112 and R113.
A capture frame whose DMA ran is in its slot: its bytes are written, the slot is FILLED with result OK, it joins the
store queue with store mode ON, and the CAPTURE notice counts; one whose DMA met a bus error fails DMA_BUS_ERROR, its slot
FREE. A complete capture frame whose last DMA write is not acknowledged waits for it, and a frame start that comes meanwhile
is held. The pixel data and that acknowledgement come with the command (log 19), and a held frame start is raised by the
command that ends the frame (log 30). -/
def Obligations.FrameEnd : Prop :=
  (∀ (f : OpenFrame) (input : ReceivedFrame) (s : State), s.chip.pixel.frame = some f → s.chip.search.motor = false →
    s.chip.following.active = false →
    (f.received = none → Said.Complete f input → f.captureSlot = none → s.chip.port.partState = .running →
      f.metered = true → ∀ t, f.effective = some t →
      ∃ c, exec (.frameEnd input) s = .next (concluded c s) ∧ c.pixel.frame = none
        ∧ c.exposure.figures = meter (cfg s.chip).meter s.chip.exposure.compensation
            ((t.xt : Int) + t.xg - t.xa) f.number (zoneMeans f.geometry (activeFrame f.width f.height input.lines))
        ∧ c.slots = s.chip.slots ∧ c.busOut = s.chip.busOut)
    ∧ ∀ n data, f.captureSlot = some n → n < s.chip.slots.length → s.chip.pixel.nextStart = none →
      Said.InSlot f input data →
      -- Neither a metering step nor the end of a counted burst adds a notice.
      let quiet := s.chip.capture.press ≠ .full ∧ (f.metered = false ∨ s.chip.port.partState ≠ .running)
      (s.chip.pixel.dma = .running →
        ∃ c, exec (.frameEnd input) s = .next (concluded c s) ∧ c.pixel.frame = none ∧ c.pixel.dma = .idle
          ∧ c.busOut = s.chip.busOut
              ++ [((cfg s.chip).pool.poolBase + n * (cfg s.chip).pool.slotSize, packFrame data)]
          ∧ (slot c n).result = .ok ∧ c.capture.filling = none ∧ c.stab.window = none ∧ c.focus.hold = false
          ∧ (quiet → c.notices.counts = s.chip.notices.counts.modify 5 (· + 1))
          ∧ ((slot s.chip n).flags.storeOn = true →
              (slot c n).state = .filled ∧ (slot c n).store = .queued ∧ c.store.queue = s.chip.store.queue ++ [n]))
      ∧ (s.chip.pixel.dma = .busFailed →
        ∃ c, exec (.frameEnd input) s = .next (concluded c s) ∧ c.pixel.frame = none ∧ c.pixel.dma = .idle
          ∧ c.busOut = s.chip.busOut ∧ (slot c n).state = .free ∧ (slot c n).result = .failed
          ∧ (slot c n).resultDetail = .dmaBusError ∧ c.capture.filling = none ∧ c.stab.window = none
          ∧ c.focus.hold = false
          ∧ (quiet → c.notices.counts = (s.chip.notices.counts.modify 8 (· + 1)).modify 5 (· + 1))))
    ∧ ∀ (f : OpenFrame) (input : ReceivedFrame) (s : State), s.chip.pixel.frame = some f → f.captureSlot.isSome = true →
      (f.received = none → Said.Complete f input → input.written = false →
        exec (.frameEnd input) s = .next (concluded
          { s.chip with pixel := { s.chip.pixel with
              frame := some { f with received := some input.lines } } } s))
      ∧ ∀ lines, f.received = some lines →
        (input.written = false → exec (.frameEnd input) s = .next (concluded s.chip s))
        ∧ ∀ time, s.chip.pixel.stream = .streaming ∨ s.chip.pixel.stream = .stalled →
          exec (.frameStart time []) s = .next (concluded
            { s.chip with now := max s.chip.now time, pixel := { s.chip.pixel with nextStart := some time } } s)

/-- A truncated frame raises no frame end: the frame closes, and the picture of a capture frame fails TRUNCATED with
its slot FREE and the FAULT and CAPTURE notices counted. A frame is truncated by the sensor, by the time limit, and by a frame end
with lines or pixels missing. A truncation while the DMA's outcome stands is read as in log 30. -/
def Obligations.FrameTruncation : Prop :=
  ∀ (i : Instr) (f : OpenFrame) (s : State), s.chip.pixel.frame = some f → s.chip.pixel.nextStart = none →
    (i = .frameTruncated ∨ i = .truncationTimeout
      ∨ ∃ input, i = .frameEnd input ∧ f.received = none ∧ ¬ Said.Complete f input) →
    (f.captureSlot = none → s.chip.pixel.dma = .idle →
      exec i s = .next (concluded
        { s.chip with
          pixel := { s.chip.pixel with frame := none, nextStart := none }, focus := { s.chip.focus with motion := false } } s))
    ∧ ∀ n, f.captureSlot = some n → n < s.chip.slots.length → s.chip.pixel.dma = .running →
      s.chip.focus.train ≠ .suspended → s.chip.capture.press ≠ .full →
      ∃ c, exec i s = .next (concluded c s) ∧ c.pixel.frame = none ∧ c.pixel.dma = .idle
        ∧ slot c n = { slot s.chip n with state := .free, result := .failed, resultDetail := .truncated }
        ∧ c.notices.counts = (s.chip.notices.counts.modify 8 (· + 1)).modify 5 (· + 1)
        ∧ c.stab.window = none ∧ c.focus.hold = false

/-- A sensor write goes to the sensor address with its line count for the shutter register and its gain code for the gain
register, by the settings in force when it was begun; one that is acknowledged joins the exposure pipeline for the frame d
frames ahead, and the waiting triple is written next; one that is not acknowledged twice sets SENSOR_WRITE_FAILED, and
the FAULT notice counts. A bus error on a slot write ends the DMA and leaves free bytes in the buffer. The report of an
abandoned DMA lets the stop of sensor and gyro begin, and the end of the stream off write makes the stream STOPPED with an empty pipeline.
The bytes left in the buffer are free (log 5); one command stands for the write and its repeat, and that the end of the stream
off write drops a sensor write in flight is the model's (log 23); and
that the gyro's stop begins at the report of the DMA is the model's (log 29). -/
def Obligations.SensorWritesAndDma : Prop :=
  (∀ (t : Triple) (s : State), s.chip.pixel.inFlight = some t →
    let k := s.chip.pixel.carried
    sensorTransaction s.chip
      = some ⟨k.address, .exposure k.shutterRegister t.lineCount k.gainRegister t.gainCode⟩)
  ∧ (∀ (t : Triple) (s : State), s.chip.pixel.inFlight = some t → s.chip.pixel.reconfigure = false →
    (s.chip.pixel.pipeline = [] →
      exec .sensorWriteDone s = .next (concluded
        { s.chip with pixel := { s.chip.pixel with
            pipeline := [⟨t, s.chip.pixel.frameCounter + BitVec.ofNat 32 (cfg s.chip).sensor.latency,
              s.chip.pixel.order⟩],
            order := s.chip.pixel.order + 1, inFlight := s.chip.pixel.waiting, waiting := none,
            carried := (cfg s.chip).sensor } } s))
    -- The pipeline holds one entry for each frame, in order of frame.
    ∧ (let ahead := fun x : PipelineEntry => (x.frame - s.chip.pixel.frameCounter).toNat
      let entry : PipelineEntry := ⟨t, s.chip.pixel.frameCounter + BitVec.ofNat 32 (cfg s.chip).sensor.latency,
        s.chip.pixel.order⟩
      s.chip.pixel.pipeline.Pairwise (fun a b => ahead a < ahead b) →
      ∃ c, exec .sensorWriteDone s = .next (concluded c s)
        ∧ (∀ x, x ∈ c.pixel.pipeline ↔ x = entry ∨ (x ∈ s.chip.pixel.pipeline ∧ x.frame ≠ entry.frame))
        ∧ c.pixel.pipeline.Pairwise (fun a b => ahead a < ahead b)
        ∧ c.pixel.inFlight = s.chip.pixel.waiting ∧ c.pixel.waiting = none
        ∧ c.pixel.carried = (cfg s.chip).sensor)
    ∧ ∃ c, exec .sensorWriteNotAcknowledged s = .next (concluded c s) ∧ c.pixel.pipeline = s.chip.pixel.pipeline
      ∧ c.pixel.inFlight = s.chip.pixel.waiting ∧ c.pixel.waiting = none ∧ c.exposure.writeFailed = true
      ∧ c.pixel.carried = (cfg s.chip).sensor
      ∧ c.exposure.applied = s.chip.exposure.applied
      ∧ c.notices.counts = s.chip.notices.counts.modify 8 (· + 1))
    ∧ ∀ s : State,
    let size := match s.chip.pixel.frame with
      | some f => f.width * f.height * 3 / 2
      | none => frameBytes (cfg s.chip).sensor
    (∀ n, s.chip.pixel.dma = .running → s.chip.capture.filling = some n →
      exec .dmaBusError s = .next (concluded
        { s.chip with
          pixel := { s.chip.pixel with dma := .busFailed }
          busOut := s.chip.busOut ++ [((cfg s.chip).pool.poolBase + n * (cfg s.chip).pool.slotSize,
            freeBytes s.chip.freeIndex size)]
          freeIndex := s.chip.freeIndex + size } s))
    ∧ (s.chip.pixel.dma = .abandoned →
      (s.chip.pixel.stopping ≠ .waitDma →
        exec .dmaAbandonReport s = .next (concluded
          { s.chip with pixel := { s.chip.pixel with dma := .idle } } s))
      ∧ (s.chip.pixel.stopping = .waitDma →
        ∃ c, exec .dmaAbandonReport s = .next (concluded c s) ∧ c.pixel.dma = .idle ∧ c.pixel.stopping = .writing
          ∧ c.pixel.frame = none
          ∧ c.stab.stopping = (if s.chip.stab.reading then .waitRead else .writing)
          ∧ (s.chip.stab.reading = false → c.stab.stopWrite = some (cfg s.chip).stab.stopWrite)))
    ∧ ∀ ack, s.chip.pixel.stopping = .writing →
      (s.chip.pixel.inFlight = none →
        sensorTransaction s.chip = some ⟨(cfg s.chip).sensor.address, .streamOff⟩)
      ∧ ∃ c, exec (.streamOffWriteDone ack) s = .next (concluded c s) ∧ c.pixel.stream = .stopped
        ∧ c.pixel.pipeline = [] ∧ c.pixel.inFlight = none ∧ c.pixel.frame = none ∧ c.pixel.stopping = .done

/-- FLK edges: outside HALTED the first edge starts the period; later ones count the two runs to at most 8, or set
them to 0, and the run that reaches 8 gives its class. 50 ms without an edge give class NONE. Times come with the
commands (log 2). -/
def Obligations.FlickerDetection : Prop :=
  ∀ (time : Nat) (s : State), s.chip.port.partState ≠ .halted →
    (s.chip.flicker.lastEdge = none →
      ∃ c, exec (.flkEdge time) s = .next (concluded c s)
        ∧ c.flicker = { s.chip.flicker with lastEdge := some time })
    ∧ (∀ t, s.chip.flicker.lastEdge = some t →
      let b := (cfg s.chip).flicker
      let p := time - t
      let n100 := if b.min100 ≤ p ∧ p ≤ b.max100 then min (s.chip.flicker.run100 + 1) 8 else 0
      let n120 := if b.min120 ≤ p ∧ p ≤ b.max120 then min (s.chip.flicker.run120 + 1) 8 else 0
      (∃ c, exec (.flkEdge time) s = .next (concluded c s) ∧ c.flicker.run100 = n100 ∧ c.flicker.run120 = n120
        ∧ c.flicker.lastEdge = some time
        ∧ ((n100 = 8 ∧ s.chip.flicker.run100 = 7) ∧ ¬ (n120 = 8 ∧ s.chip.flicker.run120 = 7) → c.flicker.cls = .f100)
        ∧ (¬ (n100 = 8 ∧ s.chip.flicker.run100 = 7) ∧ (n120 = 8 ∧ s.chip.flicker.run120 = 7) → c.flicker.cls = .f120)
        ∧ (¬ (n100 = 8 ∧ s.chip.flicker.run100 = 7) ∧ ¬ (n120 = 8 ∧ s.chip.flicker.run120 = 7) →
            c.flicker.cls = s.chip.flicker.cls))
      ∧ ∃ c, exec .flickerTimeout s = .next (concluded c s)
        ∧ c.flicker = { lastEdge := none, run100 := 0, run120 := 0, cls := .none })

/-! ### Lens tables -/

/-- The checks of R38 for a tracking block: tag, edition, word sum, rows that do not decrease and cells within F_MAX. -/
def Obligations.TrackingBlockCheck : Prop :=
  ∀ (b : TableBlock) (edition : Word) (limit : Nat) (prior : Option Summary) (ws : List Word), b ≠ .zp →
    ((checkBlock b edition limit prior ws).1 = .passed ↔
      wordAt ws 0 = (if b = .tr0 then 2 else 3) ∧ ws.getD 1 0 = edition ∧ blockSum ws = 0
        ∧ ∀ r < (if b = .tr0 then 17 else 16),
            (∀ k < 7, trackCell ws r k ≤ trackCell ws r (k + 1)) ∧ ∀ k < 8, trackCell ws r k ≤ limit)

/-- Both drives are idle for the placing of tables. -/
def Sys2Proof.Said.DrivesIdle (c : Chip) : Prop :=
  (c.zoom.state = .idle ∨ c.zoom.state = .parked ∨ c.zoom.state = .lost ∨ c.zoom.state = .fault ∨ c.zoom.state = .held)
    ∧ (c.focus.state = .idle ∨ c.focus.state = .lost ∨ c.focus.state = .fault)

/-- The tables of load `l` with last block `tr1` have been placed in `c`, and its settings are in force. -/
def Sys2Proof.Said.Placed (l : LoadWork) (tr1 : List Word) (c : Chip) : Prop :=
  c.tables.state = .valid ∧ c.tables.zp = ⟨.valid, l.zp⟩ ∧ c.tables.tr0 = ⟨.valid, l.tr0⟩
    ∧ c.tables.tr1 = ⟨.valid, tr1⟩ ∧ c.tables.load = none
    ∧ c.tables.summary = ⟨l.settings.pool.imageAddress, l.settings.pool.tableEdition, wordAt l.zp 35, wordAt l.zp 2⟩
    ∧ c.tables.lastResult = .passed ∧ c.settings = some l.settings

/-- A load: a block that passes is staged and the next one is read, TR1 leaving the load passed while a drive is not idle and
placing the tables at once while both are; a block that fails ends the load with SETTINGS refused TABLE_INVALID; a first bus
error repeats the read and a second fails the load; and a passed load places its tables at a moment when both drives are
idle. That new geometry is then placed with no second look at the slots is the model's (log 32). -/
def Obligations.TableLoad : Prop :=
  ∀ (l : LoadWork) (block : List Byte) (s : State), s.chip.tables.load = some l →
    let ws := wordsOf block
    (l.passed = false → l.waitRefetch = false →
      (∀ r, checkBlock l.block l.settings.pool.tableEdition (wordAt l.zp 2) none ws = r → r.1 ≠ .passed →
        ∃ c, exec (.tableBlockRead block) s = .next (concluded c s) ∧ c.tables.load = none
          ∧ c.tables.lastResult = r.1 ∧ c.tables.lastIndex = r.2 ∧ c.tables.state = s.chip.tables.state
          ∧ c.settings = s.chip.settings
          ∧ (s.chip.records.length = 9 → (record s.chip .settings).earlierActive = false →
              (record s.chip .settings).outcome = .active →
              (record c .settings).outcome = .refused ∧ (record c .settings).detail = .tableInvalid))
      ∧ ((checkBlock l.block l.settings.pool.tableEdition (wordAt l.zp 2) none ws).1 = .passed →
        (l.block = .zp → exec (.tableBlockRead block) s = .next (concluded
          { s.chip with tables := { s.chip.tables with
              load := some { l with zp := ws, block := .tr0, retried := false } } } s))
        ∧ (l.block = .tr0 → exec (.tableBlockRead block) s = .next (concluded
          { s.chip with tables := { s.chip.tables with
              load := some { l with tr0 := ws, block := .tr1, retried := false } } } s))
        ∧ (l.block = .tr1 → ¬ Said.DrivesIdle s.chip → exec (.tableBlockRead block) s = .next (concluded
          { s.chip with tables := { s.chip.tables with
              load := some { l with tr1 := ws, passed := true, retried := false } } } s))
        ∧ (l.block = .tr1 → Said.DrivesIdle s.chip → s.chip.search.phase = .none →
          ∃ c, exec (.tableBlockRead block) s = .next (concluded c s) ∧ Said.Placed l ws c))
      ∧ (l.retried = false → exec .tableLoadBusError s = .next (concluded
          { s.chip with tables := { s.chip.tables with load := some { l with retried := true } } } s))
      ∧ (l.retried = true →
        ∃ c, exec .tableLoadBusError s = .next (concluded c s) ∧ c.tables.load = none
          ∧ c.tables.lastResult = .busError))
    ∧ (l.passed = true → Said.DrivesIdle s.chip → s.chip.search.phase = .none →
      ∃ c, exec .tablesPlace s = .next (concluded c s) ∧ Said.Placed l l.tr1 c)

/-- A refetch: the first queued block in the order ZP, TR0, TR1 is read again outside HALTED and outside a load; one that passes
is VALID and raises block-restored; a first bus error repeats the read; and a failing check or a second bus error is a lens
table fault, which counts the FAULT notice. -/
def Obligations.TableRefetch : Prop :=
  ∀ s : State,
    (∀ b, s.chip.port.partState ≠ .halted → s.chip.tables.load = none → s.chip.tables.state = .valid →
      s.chip.tables.refetch = none → b ∈ s.chip.tables.queued → (b ≠ .zp → .zp ∉ s.chip.tables.queued) →
      (b = .tr1 → .tr0 ∉ s.chip.tables.queued) →
      ∃ c, exec .refetchBegin s = .next (concluded c s) ∧ c.tables.refetch = some ⟨b, false⟩
        ∧ (blockOf c.tables b).state = .refetching ∧ b ∉ c.tables.queued)
    ∧ ∀ (w : RefetchWork) (block : List Byte), s.chip.tables.refetch = some w →
      let ws := wordsOf block
      ((checkBlock w.block s.chip.tables.summary.edition s.chip.tables.summary.fMax (some s.chip.tables.summary) ws).1
          = .passed →
        ∃ c, exec (.refetchRead block) s = .next (concluded c s) ∧ blockOf c.tables w.block = ⟨.valid, ws⟩
          ∧ c.tables.refetch = none ∧ .blockRestored w.block ∈ c.events ∧ c.tables.state = s.chip.tables.state)
      ∧ ((checkBlock w.block s.chip.tables.summary.edition s.chip.tables.summary.fMax (some s.chip.tables.summary) ws).1
          ≠ .passed →
        ∃ c, exec (.refetchRead block) s = .next (concluded c s) ∧ (blockOf c.tables w.block).state = .invalid
          ∧ c.tables.state = .fault ∧ c.tables.refetch = none ∧ .lensTableFault ∈ c.events
          ∧ c.notices.counts = s.chip.notices.counts.modify 8 (· + 1))
      ∧ (w.retried = false → exec .refetchBusError s = .next (concluded
          { s.chip with tables := { s.chip.tables with refetch := some { w with retried := true } } } s))
      ∧ (w.retried = true →
        ∃ c, exec .refetchBusError s = .next (concluded c s) ∧ c.tables.state = .fault
          ∧ c.tables.lastResult = .busError ∧ c.notices.counts = s.chip.notices.counts.modify 8 (· + 1))

/-! ### Zoom and focus -/

/-- Encoder transitions: a legal one moves the counter by 1 in every counting state and in FAULT with a known position and
itself marks no record, a change of zone raises one crossing with its direction, LOST does not count, and an illegal one or a
count out of the range ends the known position: IDLE, MOVING, HELD and PARKED go to LOST with the FAULT notice, an ACTIVE ZOOM
request fails with ZOOM_LOST, and FAULT keeps its state. A position lost while the drive brakes toward its lens table fault
makes that fault follow at once, which is the model's (log 26). -/
def Obligations.ZoomCounting : Prop :=
  ∀ (i : EncoderStep) (step : Int) (s : State), (i = .tele ∧ step = 1) ∨ (i = .wide ∧ step = -1) →
    let z := s.chip.zoom
    let counts := z.state ≠ .lost ∧ (z.state = .fault → z.known = true)
    let inRange := -1024 ≤ z.counter + step ∧ z.counter + step ≤ zMax s.chip + 256
    (counts → (z.known = true → inRange) →
      ∃ c, exec (.encoderTransition i) s = .next (concluded c s) ∧ c.zoom.counter = z.counter + step
        ∧ c.zoom.known = z.known ∧ c.zoom.state = z.state ∧ c.answers = s.chip.answers
        ∧ (z.known = true → z.points ≠ [] →
            c.zoom.zone = zoneOf z.points (z.counter + step)
              ∧ (zoneOf z.points (z.counter + step) ≠ z.zone →
                  .zoneCrossing (zoneOf z.points (z.counter + step))
                    (if z.zone < zoneOf z.points (z.counter + step) then .tele else .wide) ∈ c.events)))
    ∧ (z.state = .lost → exec (.encoderTransition i) s = .next (concluded s.chip s))
    ∧ (z.known = false → exec (.encoderTransition .illegal) s = .next (concluded s.chip s))
    ∧ (z.known = true →
      -- `j` ends the known position and leaves the counter at `n`.
      ∀ (j : EncoderStep) (n : Int), (j = .illegal ∧ n = z.counter) ∨ (j = i ∧ ¬ inRange ∧ n = z.counter + step) →
      (z.state = .idle ∨ z.state = .moving ∨ z.state = .held ∨ z.state = .parked → z.after ≠ .tableFault →
        s.chip.port.partState ≠ .stopping →
        ∃ c, exec (.encoderTransition j) s = .next (concluded c s) ∧ c.zoom.state = .lost
          ∧ c.zoom.known = false ∧ c.zoom.motor = .brake ∧ c.zoom.counter = n
          ∧ (s.chip.service = none → (record s.chip .zoom).earlierActive = false →
              ((record s.chip .zoom).outcome ≠ .active →
                c.notices.counts = s.chip.notices.counts.modify 8 (· + 1))
              ∧ ((record s.chip .zoom).outcome = .active → s.chip.records.length = 9 →
                c.notices.counts = (s.chip.notices.counts.modify 8 (· + 1)).modify 1 (· + 1)
                  ∧ (record c .zoom).outcome = .failed ∧ (record c .zoom).detail = .zoomLost)))
      ∧ (z.state = .moving → z.after = .tableFault →
        ∃ c, exec (.encoderTransition j) s = .next (concluded c s) ∧ c.zoom.state = .fault
          ∧ c.zoom.fault = .lensTableFault ∧ c.zoom.known = false ∧ c.zoom.counter = n)
      ∧ (z.state = .fault → z.after ≠ .tableFault →
        exec (.encoderTransition j) s = .next (concluded (markZoomPart
          { s.chip with zoom := { z with counter := n, known := false } }) s)))

/-- The reference edge: its level is held, leaving the retracted side in homing brakes before step 2, and entering it in step 2,
while the motor is driven, in a reversal toward WIDE or in the brake pause that ends one (the model's reading, log 26), makes the
position known at the reference position and begins the move that follows homing. -/
def Obligations.ReferenceEdge : Prop :=
  ∀ (level : SensorLevel) (s : State),
    (s.chip.zoom.state ≠ .homing →
      exec (.referenceEdge level) s = .next (concluded
        { s.chip with zoom := { s.chip.zoom with reference := level } } s))
    ∧ (∀ d, s.chip.zoom.state = .homing → s.chip.zoom.motor = .drive d → s.chip.zoom.homingStep = .seekOut →
      level = .out →
      exec (.referenceEdge level) s = .next (concluded
        { s.chip with zoom := { s.chip.zoom with reference := .out, motor := .pause } } s))
    ∧ (s.chip.zoom.state = .homing →
      (∃ d, s.chip.zoom.motor = .drive d) ∨ s.chip.zoom.motor = .reverse .wide
        ∨ (s.chip.zoom.motor = .reversePause ∧ s.chip.zoom.lastDrive = .wide) → s.chip.zoom.homingStep = .seekIn →
      level = .inside →
      ∃ c, exec (.referenceEdge level) s = .next (concluded c s) ∧ c.zoom.counter = s.chip.zoom.kept.zRef
        ∧ c.zoom.known = true ∧ c.zoom.reference = .inside
        ∧ c.zoom.state = (match s.chip.zoom.homingGoal with | .park => .parking | .unpark => .unparking))

/-- Timers of the zoom: 5 ms of braking lead to SETTLING, and in the braking toward a lens table fault to FAULT, which ends the
active ZOOM request FAILED; SETTLING ends a move on target IDLE, corrects one off target at most twice, and then ends it
OFF_TARGET; a stall reverses the drive while retries are left and is FAULT after them; 4000 ms of homing are FAULT; and 15 ms
end a drift. The expiry of a timer is a command (log 2), and that the 4000 ms count also while homing brakes toward its lens
table fault is the model's (log 26). -/
def Obligations.ZoomTimers : Prop :=
  ∀ s : State,
    let z := s.chip.zoom
    (z.state = .moving → z.motor = .brake → z.after ≠ .tableFault →
      exec .zoomBrakeTimer s = .next (concluded
        { s.chip with zoom := { z with phase := .settling, motor := .settle } } s))
    ∧ (z.state = .moving → z.motor = .brake → z.after = .tableFault →
      ∃ c, exec .zoomBrakeTimer s = .next (concluded c s) ∧ c.zoom.state = .fault ∧ c.zoom.fault = .lensTableFault
        ∧ c.zoom.known = z.known ∧ c.zoom.counter = z.counter
        ∧ (s.chip.records.length = 9 → (record s.chip .zoom).earlierActive = false →
          (record s.chip .zoom).outcome = .active →
          (record c .zoom).outcome = .failed ∧ (record c .zoom).detail = .lensTableFault))
    ∧ (z.motor = .settle → z.after = .finalCheck →
      let onTarget := (z.target - z.counter).natAbs ≤ z.kept.tolerance ∧ z.lastDrive = .tele
      (onTarget ∨ 2 ≤ z.corrections → s.chip.records.length = 9 → (record s.chip .zoom).earlierActive = false →
        (record s.chip .zoom).outcome = .active →
        ∃ c, exec .zoomSettleTimer s = .next (concluded c s) ∧ c.zoom.state = .idle ∧ c.zoom.motor = .rest
          ∧ c.zoom.counter = z.counter ∧ .zoomSettled ∈ c.events ∧ (record c .zoom).outcome = .done
          ∧ (onTarget → (record c .zoom).detail = .none) ∧ (¬ onTarget → (record c .zoom).detail = .offTarget))
      ∧ (¬ onTarget → z.corrections < 2 →
        ∃ c, exec .zoomSettleTimer s = .next (concluded c s) ∧ c.zoom.phase = .correcting
          ∧ c.zoom.corrections = z.corrections + 1
          ∧ c.zoom.motor = .drive (if z.counter ≤ z.target - z.kept.backlash then .tele else .wide)))
    ∧ (∀ d, z.motor = .drive d →
      (z.retries < z.kept.retryLimit →
        s.chip.wear.counts.getD 0 0 ≤ 65535 →
        ∃ c, exec .zoomStallTimer s = .next (concluded c s) ∧ c.zoom.retries = z.retries + 1
          ∧ c.zoom.motor = .reverse (match d with | .tele => .wide | .wide => .tele)
          ∧ c.zoom.reversalFrom = z.counter ∧ c.zoom.state = z.state
          ∧ c.wear.counts = s.chip.wear.counts.set 0 (min (s.chip.wear.counts.getD 0 0 + 1) 65535))
      ∧ (z.kept.retryLimit ≤ z.retries →
        ∃ c, exec .zoomStallTimer s = .next (concluded c s) ∧ c.zoom.state = .fault ∧ c.zoom.fault = .stall
          ∧ c.zoom.motor = .brake))
    ∧ (z.state = .homing →
      ∃ c, exec .homingTimer s = .next (concluded c s) ∧ c.zoom.state = .fault ∧ c.zoom.fault = .homingTimeout
        ∧ c.zoom.motor = .brake)
    ∧ (z.state = .idle → z.drift = true →
      exec .driftTimer s = .next (concluded (raise .zoomSettled (markZoomPart
        { s.chip with zoom := { z with drift := false } })) s))

/-- Focus pulses: a pulse of a counted train moves the counter by 1 in its direction, takes one from the remaining
count, enters the rate that the ramp of R73 allows, and makes an open frame a motion frame; a homing pulse moves the
counter and is counted; the last pulse of a train that reaches the final target is followed by IDLE; and that of a train that
ramps down for a lens table fault by FAULT. Times come with the commands (log 2). -/
def Obligations.FocusPulses : Prop :=
  ∀ (time : Nat) (s : State),
    let f := s.chip.focus
    let step : Int := match f.direction with | .near => 1 | .far => -1
    let now := max s.chip.now time
    let candidate := if f.kept.rampPulses ≤ f.atEntry ∧ f.entry < f.kept.topEntry then f.entry + 1 else f.entry
    let e := min candidate ((f.remaining - 1) / f.kept.rampPulses)
    (f.train = .counted → 2 ≤ f.remaining →
      exec (.focusPulse time) s = .next (concluded
        { s.chip with now := now, focus := { f with
            counter := f.counter + step, remaining := f.remaining - 1, entry := e,
            atEntry := if e = f.entry then f.atEntry + 1 else 1, lastPulse := some (now, f.direction),
            motion := f.motion || s.chip.pixel.frame.isSome } } s))
    ∧ (f.train = .continuous → f.homingPulses < (fMax s.chip).toNat + 512 →
      exec (.focusPulse time) s = .next (concluded
        { s.chip with now := now, focus := { f with
            counter := f.counter + step, homingPulses := f.homingPulses + 1, lastPulse := some (now, f.direction),
            motion := f.motion || s.chip.pixel.frame.isSome } } s))
    ∧ (f.train = .counted → f.remaining ≤ 1 → f.afterRamp = .none → f.target = f.counter + step →
      ∃ c, exec (.focusPulse time) s = .next (concluded c s) ∧ c.focus.state = .idle ∧ c.focus.train = .none
        ∧ c.focus.counter = f.target ∧ c.focus.lastPulse = some (now, f.direction) ∧ c.focus.homed = f.homed
        ∧ .focusIdle (f.state == .homing) ∈ c.events)
    ∧ (f.state = .moving ∨ f.state = .homing → f.train = .counted → f.remaining ≤ 1 → f.afterRamp = .fault →
      s.chip.service = none →
      (record s.chip .focus).earlierActive = false → (record s.chip .focus).outcome ≠ .active →
      ∃ c, exec (.focusPulse time) s = .next (concluded c s) ∧ c.focus.state = .fault ∧ c.focus.fault = .lensTableFault
        ∧ c.focus.counter = f.counter + step ∧ c.focus.train = .none ∧ c.focus.homed = f.homed
        ∧ .focusStopped ∈ c.events ∧ c.notices.counts = s.chip.notices.counts.modify 8 (· + 1))

/-- Dwell and home sensor: the end of the reversal dwell begins the next leg, or step 2 of homing; the home edge of
step 2 homes the focus at the home reference; and F_MAX + 512 homing pulses without it are FAULT. The end of a dwell
is a command (log 2). -/
def Obligations.FocusHoming : Prop :=
  ∀ s : State,
    let f := s.chip.focus
    (f.train = .dwell → f.homing = .turn →
      ∃ c, exec .reversalDwellEnd s = .next (concluded c s) ∧ c.focus.homing = .seekIn ∧ c.focus.train = .continuous
        ∧ c.focus.direction = .far ∧ c.focus.homingPulses = 0 ∧ c.focus.counter = f.counter)
    ∧ (f.train = .dwell → f.homing = .none → f.state = .dwell → f.target ≠ f.counter →
      ∃ c, exec .reversalDwellEnd s = .next (concluded c s) ∧ c.focus.state = .moving ∧ c.focus.train = .counted
        ∧ c.focus.direction = (if f.counter < f.target then .near else .far)
        ∧ c.focus.legTarget = (if f.counter < f.target then f.target
            else max (f.target - ((cfg s.chip).focus.overshoot : Int)) 0)
        ∧ c.focus.remaining = (c.focus.legTarget - f.counter).natAbs)
    ∧ (f.train = .continuous → f.homing = .seekIn →
      ∃ c, exec (.homeSensorChange .inside) s = .next (concluded c s) ∧ c.focus.homed = true
        ∧ c.focus.home = .inside ∧ c.focus.counter = max 0 (min ((cfg s.chip).focus.fRef : Int) (fMax s.chip)))
    ∧ (f.train = .continuous → (fMax s.chip).toNat + 512 ≤ f.homingPulses →
      ∃ c, exec .homePulseLimit s = .next (concluded c s) ∧ c.focus.state = .fault ∧ c.focus.fault = .homeNotFound
        ∧ c.focus.homed = false ∧ c.focus.train = .none ∧ .focusStopped ∈ c.events)

/-! ### Exposure arithmetic and the Stabilizer -/

/-- The triple `t` after a component of the program line took `n`. -/
def Sys2Proof.Said.taken (n : Nat) (t : Triple) : Component → Triple
  | .shutter => { t with xt := t.xt + n }
  | .gain => { t with xg := t.xg + n }
  | .aperture => { t with xa := t.xa - n }

/-- What a component of the program line may still take. -/
def Sys2Proof.Said.room (l : Limits) (t : Triple) : Component → Nat
  | .shutter => l.xtMax - t.xt
  | .gain => l.xgMax - t.xg
  | .aperture => t.xa - l.xaMin

/-- The program line walk (R115): entry by entry within span, headroom and what remains; the index of its result is the wanted
one unless a limit was met. -/
def Sys2Proof.Said.ProgramLineWalk : Prop :=
  ∀ (l : Limits) (program : List ProgramEntry) (wanted : Int),
    let base : Triple := { xt := l.xtLo, xg := 0, xa := l.xaHi }
    let index := fun t : Triple => (t.xt : Int) + t.xg - t.xa
    let r := walk l program wanted
    (wanted < index base → r = ({ base with limited := true }, .brightLimit))
    ∧ (index base ≤ wanted →
      let w := walkEntries l base (wanted - index base).toNat program
      r = if w.2 = 0 then (w.1, .none) else ({ w.1 with limited := true }, .darkLimit))
    ∧ (∀ (t : Triple) (n : Nat), walkEntries l t n [] = (t, n) ∧ ∀ (e : ProgramEntry) (es : List ProgramEntry),
      let take := min (min e.span (Said.room l t e.component)) n
      walkEntries l t n (e :: es) = walkEntries l (Said.taken take t e.component) (n - take) es)
    ∧ (r.2 = .none → index r.1 = wanted ∧ r.1.limited = false) ∧ (r.2 = .darkLimit → index r.1 < wanted)
    ∧ r.1.exactTime = none

/-- The flicker snap (R116): the shutter is lowered to the largest usable entry, the first of several with that Xt giving the
exact time, and the gain takes the difference up to its limit. -/
def Sys2Proof.Said.FlickerSnap : Prop :=
  ∀ (l : Limits) (safe : List SafeEntry) (t : Triple),
    let usable := safe.filter (fun e => l.xtLo ≤ e.xt)
    (usable = [] → snap l safe t = t)
    ∧ ∀ first rest, usable = first :: rest →
      (t.xt < first.xt → snap l safe t = t)
      ∧ (first.xt ≤ t.xt → ∃ before e after, usable = before ++ e :: after ∧ e.xt ≤ t.xt
          ∧ (∀ x ∈ before, x.xt ≠ e.xt) ∧ (∀ x ∈ usable, x.xt ≤ t.xt → x.xt ≤ e.xt)
          ∧ snap l safe t = { t with
              xt := e.xt, exactTime := some e.exactTime, xg := min l.xgMax (t.xg + (t.xt - e.xt)),
              deficit := l.xgMax < t.xg + (t.xt - e.xt) })

/-- The bound (R118): within the limits the triple stays, a raised Xa and, in AUTO, a lowered Xt are made up by the gain up to
its limit, and the result is within the limits with the LIMITED and DEFICIT flags kept. -/
def Sys2Proof.Said.Bound : Prop :=
  ∀ (l : Limits) (auto : Bool) (t : Triple), l.xtLo ≤ l.xtMax → l.xtMax ≤ l.xtFrame → l.xaMin ≤ l.xaHi →
    let r := boundTriple l auto t
    let inside := l.xtLo ≤ t.xt ∧ t.xt ≤ l.xtFrame ∧ t.xa ≤ l.xaHi
    (inside → t.xg ≤ l.xgMax → l.xaMin ≤ t.xa → (auto = true → t.xt ≤ l.xtMax) → r = t)
    ∧ (inside → t.xa < l.xaMin → (auto = true → t.xt ≤ l.xtMax) →
        let up := l.xaMin - t.xa
        r = { t with
          xa := l.xaMin, xg := min l.xgMax (t.xg + up), shortfall := t.shortfall || l.xgMax < t.xg + up })
    ∧ (inside → l.xaMin ≤ t.xa → auto = true → l.xtMax < t.xt →
        let down := t.xt - l.xtMax
        r = { t with
          xt := l.xtMax, exactTime := none, xg := min l.xgMax (t.xg + down),
          shortfall := t.shortfall || l.xgMax < t.xg + down })
    ∧ l.xtLo ≤ r.xt ∧ r.xt ≤ l.xtFrame ∧ r.xg ≤ l.xgMax ∧ l.xaMin ≤ r.xa ∧ r.xa ≤ l.xaHi
    ∧ (auto = true → r.xt ≤ l.xtMax) ∧ r.limited = t.limited ∧ r.deficit = t.deficit

/-- Table 7-2; Stage 1 gives the log value of a zone mean; Stage 2 the weighted mean M; and Stages 3, 4 and 9 give K, M_eff,
E and B from M, with the index of the triple that the frame was exposed with (R112, R113). The program line walk (R115), the
flicker snap and the bound give the applied triple; of R116 and R118 this states what the snap and the bound make of a triple,
not when they are made. -/
def Obligations.MeteringStages : Prop :=
  Said.ProgramLineWalk ∧ Said.FlickerSnap ∧ Said.Bound ∧ (List.range 16).map frac = [65536, 68438, 71468, 74632, 77936, 81386, 84990, 88752, 92682, 96785, 101070, 105545,
      110218, 115098, 120194, 125515]
    ∧ (∀ y n : Nat, y < 4096 → max y 1 < 2 ^ (n + 1) → 2 ^ n ≤ max y 1 →
      let m := max y 1 * 2 ^ (16 - n)
      65536 ≤ m ∧ m < 131072 ∧ n ≤ 11 ∧ logValue y ≤ 191
        ∧ ∃ j < 16, frac j ≤ m ∧ (∀ i < 16, frac i ≤ m → i ≤ j) ∧ logValue y = 16 * n + j)
    ∧ ∀ (s : MeterSettings) (c x : Int) (frame : Word) (means : List Nat),
      let g := meter s c x frame means
      g.m = ((List.zipWith (fun w y => w * logValue y) s.weights means).sum + s.weights.sum / 2) / s.weights.sum
        ∧ ((∀ y ∈ means, y < 4096) → 0 < s.weights.sum → g.m ≤ 191)
        ∧ g.k = ((List.zip s.weights means).filter (fun p => 0 < p.1 && 4032 ≤ p.2)).length
        ∧ g.mEff = g.m + min (max ((g.k : Int) - s.clip) 0).toNat 32
        ∧ g.e = max (-192) (min (((s.target : Int) + c) - g.mEff) 192)
        ∧ g.b = (g.m : Int) - x + s.k0

/-- The capture engaged mark is set by capture engaged and cleared by capture released, at a stop and by both resets, and the
wanted mode follows from the mode setting and the mark (R128). -/
def Obligations.WantedMode : Prop :=
  (∀ c : Chip, (handle .captureEngaged c).stab.engaged = true ∧ (handle .captureReleased c).stab.engaged = false
      ∧ (stopStab c).stab.engaged = false)
    ∧ (∀ s : State, (∃ t, exec .powerOnReset s = .next t ∧ t.chip.stab.engaged = false)
        ∧ ∃ t, exec .softReset s = .next t ∧ t.chip.stab.engaged = false)
    ∧ (∀ (t : StabSettings) (engaged : Bool),
        (t.mode = 0 → wantedMode t engaged = .off) ∧ (t.mode = 1 → wantedMode t engaged = .standby)
          ∧ (t.mode = 2 → wantedMode t engaged = .active)
          ∧ (t.mode = 3 → wantedMode t engaged = if engaged then .active else .standby))
    ∧ ∀ c : Chip, c.settings = none → (cfg c).stab.mode = 0

/-- The gathered changes of EXPOSURE and STABILIZER are marked when their record timers expire. The expiry of a timer
is a command (log 2). -/
def Obligations.RecordTimers : Prop :=
  ∀ s : State,
    exec .exposureRecordTimer s = .next (concluded (if s.chip.exposure.gathered then
      mark .exposure { s.chip with exposure := { s.chip.exposure with gathered := false } } else s.chip) s)
    ∧ exec .stabilizerRecordTimer s = .next (concluded (if s.chip.stab.gathered then
      mark .stabilizer { s.chip with stab := { s.chip.stab with gathered := false } } else s.chip) s)

/-- The gyro link and the timers: the last configuration write makes the link RUNNING and the mode STARTING; data-ready begins
a read of 4 bytes from the rate address, or marks one; a lost gyro is FAULT with the FAULT notice, and a read in flight goes
on; a read that ends in a stop is discarded and begins the stop write; one that the lost gyro left is discarded too, whatever
the mode has become, and so is one that ends in FAULT; the stop write ends the link; the learn timer enters the wanted mode
with the STABILIZER notice; and the ramp timer moves a stopped link's outputs toward 0 by at most the slew limit. The expiry
of a timer is a command (log 2), and what becomes of a read at a lost gyro is the model's reading (log 29). -/
def Obligations.GyroLink : Prop :=
  ∀ s : State,
    let g := s.chip.stab
    (∀ w, g.starting = true → g.configLeft = [w] →
      ∃ c, exec .gyroConfigWriteDone s = .next (concluded c s) ∧ c.stab.linkRunning = true
        ∧ c.stab.mode = .starting ∧ c.stab.starting = false ∧ c.stab.fault = .none
        ∧ c.stab.reading = g.reading ∧ c.stab.discard = g.discard)
    ∧ (∀ w v ws, g.starting = true → g.configLeft = w :: v :: ws →
      ∃ c, exec .gyroConfigWriteDone s = .next (concluded c s) ∧ c.stab.configLeft = v :: ws
        ∧ c.stab.starting = true ∧ c.stab.linkRunning = g.linkRunning)
    ∧ (g.linkRunning = true → g.stopping = .none →
      ∃ c, exec .gyroDataReady s = .next (concluded c s) ∧ c.stab.reading = true
        ∧ c.stab.marked = (g.reading || g.marked)
        ∧ (g.stopWrite = none → spiTransaction c.stab = some (.read g.rateAddress 4)))
    ∧ (g.linkRunning = true → g.mode ≠ .fault → s.chip.service = none →
      ∃ c, exec .gyroLost s = .next (concluded c s) ∧ c.stab.mode = .fault ∧ c.stab.fault = .gyroLost
        ∧ c.stab.linkRunning = false ∧ c.stab.marked = false ∧ c.stab.reading = g.reading
        ∧ c.stab.discard = g.reading ∧ c.stab.stopping = g.stopping
        ∧ c.notices.counts = s.chip.notices.counts.modify 8 (· + 1))
    ∧ (∀ rx ry, g.reading = true →
      (g.stopping = .waitRead →
        exec (.gyroSample rx ry) s = .next (concluded { s.chip with stab := { g with
          reading := false, discard := false, stopping := .writing,
          stopWrite := some (cfg s.chip).stab.stopWrite } } s))
      ∧ (g.stopping ≠ .waitRead → g.discard = true ∨ g.mode = .fault →
        exec (.gyroSample rx ry) s = .next (concluded { s.chip with stab := { g with
          reading := g.marked, marked := false, discard := false } } s)))
    ∧ (g.stopping = .writing →
      ∃ c, exec .gyroStopWriteDone s = .next (concluded c s) ∧ c.stab.mode = .off ∧ c.stab.linkRunning = false
        ∧ c.stab.stopping = .done ∧ c.stab.stopWrite = none)
    ∧ (g.mode = .starting → s.chip.service = none →
      ∃ c, exec .learnTimer s = .next (concluded c s)
        ∧ c.stab.mode = wantedMode (cfg s.chip).stab g.engaged
        ∧ c.notices.counts = s.chip.notices.counts.modify 4 (· + 1))
    ∧ (g.linkRunning = false →
      ∃ c, exec .rampTimer s = .next (concluded c s)
        ∧ c.stab.x.output = (if g.x.output.natAbs ≤ (cfg s.chip).stab.slew then 0
            else if g.x.output < 0 then g.x.output + (cfg s.chip).stab.slew
            else g.x.output - (cfg s.chip).stab.slew)
        ∧ c.stab.y.output = (if g.y.output.natAbs ≤ (cfg s.chip).stab.slew then 0
            else if g.y.output < 0 then g.y.output + (cfg s.chip).stab.slew
            else g.y.output - (cfg s.chip).stab.slew))

/-- The axis `a` after a sample of rate `r` in ACTIVE, outside a capture window and below the pan rate (R131 to R133, R135): bias,
corrected rate, leaking angle, raw and limited target, slewed output and residual. -/
def Sys2Proof.Said.sampledAxis (t : StabSettings) (k : Nat) (r : Int) (a : Axis) : Axis :=
  let d := r * 256 - a.bias
  let bias := if d.natAbs < t.stillQ then a.bias + d / 4096 else a.bias
  let sum := a.angle + (r - bias / 256)
  let angle := max (-1073741824) (min (sum - sum / 2 ^ t.leak) 1073741824)
  let raw := angle * k / 65536
  let target := max (-(t.sMax : Int)) (min raw t.sMax)
  { bias := bias, angle := angle, raw := raw, target := target,
    output := if (target - a.output).natAbs ≤ t.slew then target
      else if a.output < target then a.output + t.slew else a.output - t.slew,
    residual := a.residual + (min ((raw - target) * (raw - target)) 16777215 - a.residual) / 16 }

/-- The signed rate of two bytes, the low one first (R126). -/
def Sys2Proof.Said.rate (b : RateBytes) : Int := (b.high ++ b.low).toInt

/-- A gyro sample in ACTIVE, of a read that no lost gyro has left, outside a capture window and with both rates at most the
pan rate. -/
def Obligations.GyroSample : Prop :=
  ∀ (rx ry : RateBytes) (s : State), s.chip.stab.reading = true → s.chip.stab.discard = false →
    s.chip.stab.stopping = .none → s.chip.stab.mode = .active → s.chip.stab.window = none →
    let t := (cfg s.chip).stab
    let corrected := fun (r : Int) (a : Axis) =>
      r - (if (r * 256 - a.bias).natAbs < t.stillQ then a.bias + (r * 256 - a.bias) / 4096 else a.bias) / 256
    (corrected (Said.rate rx) s.chip.stab.x).natAbs ≤ t.panRate →
    (corrected (Said.rate ry) s.chip.stab.y).natAbs ≤ t.panRate →
    ∃ c, exec (.gyroSample rx ry) s = .next (concluded c s)
      ∧ c.stab.x = Said.sampledAxis t s.chip.stab.kx (Said.rate rx) s.chip.stab.x
      ∧ c.stab.y = Said.sampledAxis t s.chip.stab.ky (Said.rate ry) s.chip.stab.y
      ∧ c.stab.samples = s.chip.stab.samples + 1 ∧ c.stab.panRun = 0 ∧ c.stab.mode = .active
      ∧ c.stab.reading = s.chip.stab.marked ∧ c.stab.marked = false

/-! ### Buttons and card -/

/-- A raw level change starts the line's qualification, or qualifies at once with time 0; a change back stops it; the timer
qualifies the raw level; and the focus wait limit ends the wait with the focus unconfirmed. -/
def Obligations.ButtonsAndFocusWait : Prop :=
  ∀ (pressed : Bool) (s : State),
    (s.chip.capture.s1.raw ≠ pressed → pressed ≠ s.chip.capture.s1.pressed →
      (cfg s.chip).capture.qualification ≠ 0 →
      exec (.buttonLineChange .s1 pressed) s = .next (concluded
        { s.chip with capture := { s.chip.capture with
            s1 := { s.chip.capture.s1 with raw := pressed, timing := true } } } s))
    ∧ (s.chip.capture.s2.raw ≠ pressed → pressed ≠ s.chip.capture.s2.pressed →
      (cfg s.chip).capture.qualification ≠ 0 →
      exec (.buttonLineChange .s2 pressed) s = .next (concluded
        { s.chip with capture := { s.chip.capture with
            s2 := { s.chip.capture.s2 with raw := pressed, timing := true } } } s))
    ∧ (s.chip.capture.s1.raw ≠ pressed → pressed = s.chip.capture.s1.pressed →
      exec (.buttonLineChange .s1 pressed) s = .next (concluded
        { s.chip with capture := { s.chip.capture with
            s1 := { s.chip.capture.s1 with raw := pressed, timing := false } } } s))
    ∧ (s.chip.capture.s2.raw ≠ pressed → pressed = s.chip.capture.s2.pressed →
      exec (.buttonLineChange .s2 pressed) s = .next (concluded
        { s.chip with capture := { s.chip.capture with
            s2 := { s.chip.capture.s2 with raw := pressed, timing := false } } } s))
    ∧ (s.chip.capture.s1.raw ≠ pressed → pressed ≠ s.chip.capture.s1.pressed →
      (cfg s.chip).capture.qualification = 0 →
      ∃ c, exec (.buttonLineChange .s1 pressed) s = .next (concluded c s)
        ∧ c.capture.s1 = { raw := pressed, timing := false, pressed := pressed } ∧ c.capture.s2 = s.chip.capture.s2)
    ∧ (s.chip.capture.s2.raw ≠ pressed → pressed ≠ s.chip.capture.s2.pressed →
      (cfg s.chip).capture.qualification = 0 →
      ∃ c, exec (.buttonLineChange .s2 pressed) s = .next (concluded c s)
        ∧ c.capture.s2 = { raw := pressed, timing := false, pressed := pressed } ∧ c.capture.s1 = s.chip.capture.s1)
    ∧ (s.chip.capture.s1.timing = true →
      ∃ c, exec (.qualificationTimer .s1) s = .next (concluded c s) ∧ c.capture.s1.timing = false
        ∧ c.capture.s1.pressed = s.chip.capture.s1.raw)
    ∧ (s.chip.capture.s2.timing = true →
      ∃ c, exec (.qualificationTimer .s2) s = .next (concluded c s) ∧ c.capture.s2.timing = false
        ∧ c.capture.s2.pressed = s.chip.capture.s2.raw)
    ∧ (s.chip.capture.state = .waitFocus →
      ∃ c, exec .focusWaitTimer s = .next (concluded c s) ∧ c.capture.state = .waitFrame
        ∧ c.capture.burst.unconfirmed = true ∧ c.capture.burst.rate.isSome = true ∧ c.search.phase = .none)

/-- Card detection and initialisation: a level change starts or stops the qualification; a present card is initialised from
ABSENT, an absent one leaves no capacity and no grants; GO_IDLE, IDENTIFY and SET_WIDE follow one another, and the last makes
the card READY with the capacity that IDENTIFY gave. -/
def Obligations.CardInitialisation : Prop :=
  ∀ (level : Bool) (capacity : Word) (s : State),
    exec (.cardDetChange level) s = .next (concluded
      { s.chip with card := { s.chip.card with detect := level, detectTimer := level != s.chip.card.present } } s)
    ∧ (s.chip.card.detectTimer = true → s.chip.card.detect = true → s.chip.card.state = .absent →
      ∃ c, exec .cardDetTimer s = .next (concluded c s) ∧ c.card.present = true ∧ c.card.state = .initialising
        ∧ c.card.init = .goIdle ∧ c.notices.counts = s.chip.notices.counts.modify 6 (· + 1))
    ∧ (s.chip.card.detectTimer = true → s.chip.card.detect = false →
      ∃ c, exec .cardDetTimer s = .next (concluded c s) ∧ c.card.present = false ∧ c.card.state = .absent
        ∧ c.card.capacity = none ∧ c.card.run = none ∧ c.store.space = {} ∧ c.store.spare = {}
        ∧ c.store.picture = none)
    ∧ (s.chip.card.run = none → s.chip.card.init = .goIdle →
      cardCommand s.chip.card = some .goIdle
        ∧ ∃ c, exec (.cardResponse capacity) s = .next (concluded c s) ∧ c.card.init = .identify)
    ∧ (s.chip.card.run = none → s.chip.card.init = .identify → capacity ≠ 0 →
      cardCommand s.chip.card = some .identify
        ∧ ∃ c, exec (.cardResponse capacity) s = .next (concluded c s) ∧ c.card.init = .setWide
          ∧ c.card.found = capacity.toNat)
    ∧ (s.chip.card.run = none → s.chip.card.init = .setWide →
      cardCommand s.chip.card = some .setWide
        ∧ ∃ c, exec (.cardResponse capacity) s = .next (concluded c s) ∧ c.card.state = .ready ∧ c.card.init = .none
          ∧ c.card.capacity = some s.chip.card.found)

/-- A run of the picture in progress that ends with `cause` after its STOP: a header run that succeeded ends the picture STORED,
and a data run that succeeded is written (R161). -/
def Sys2Proof.Said.PictureRunSucceeds : Prop :=
  ∀ (r : Run) (p : PictureWork) (s : State), s.chip.card.run = some r → r.phase = .stopBusy → r.kind = .picture →
    s.chip.store.picture = some p → r.cause = none → p.slot < s.chip.slots.length →
    (r.plan.isHeader = true →
      let old := slot s.chip p.slot
      ∃ c, exec .cardBusyEnd s = .next (concluded c s) ∧ c.card.run = none ∧ c.store.picture = none
        ∧ slot c p.slot = { old with
            store := .stored
            state := if old.flags.autoRelease = true ∨ s.chip.capture.releases.getD p.slot 0 = old.fill then .free
              else .stored }
        ∧ c.notices.counts = s.chip.notices.counts.modify 6 (· + 1))
    ∧ (r.plan.isHeader = false →
      ∃ c, exec .cardBusyEnd s = .next (concluded c s) ∧ c.card.run = none ∧ c.slots = s.chip.slots
        ∧ c.store.picture = some { p with written := p.written + r.plan.count, remap := false })

/-- A WRITE_REJECTED on a block of a run of the picture in progress: the last extent is cut, and the sectors from that block on
are taken from the spare cursor as a new extent for the remap run; a 5th extent or too little spare ends the picture
STORE_FAILED (R166). -/
def Sys2Proof.Said.Remap : Prop :=
  ∀ (r : Run) (p : PictureWork) (s : State) (kept : List Extent) (e : Extent), s.chip.card.run = some r →
    r.phase = .stopBusy → r.kind = .picture → s.chip.store.picture = some p → r.cause = some .writeRejected →
    p.slot < s.chip.slots.length → (slot s.chip p.slot).extents = kept ++ [e] →
    let n := r.plan.count - r.block
    let cut := if e.count ≤ n then kept else kept ++ [{ e with count := e.count - n }]
    let spare := s.chip.store.spare
    let left := spare.start + spare.count - spare.cursor
    ∃ c, exec .cardBusyEnd s = .next (concluded c s) ∧ c.card.run = none
      ∧ c.store.badSectors = min (s.chip.store.badSectors + n) 4294967295
      ∧ (s.chip.wear.counts.getD 5 0 ≤ 65535 →
          c.wear.counts = s.chip.wear.counts.set 5 (min (s.chip.wear.counts.getD 5 0 + 1) 65535))
      ∧ (4 ≤ cut.length ∨ left < n → c.store.picture = none ∧ c.store.spare = spare
          ∧ (slot c p.slot).store = .storeFailed ∧ (slot c p.slot).extents = cut
          ∧ (slot c p.slot).storeDetail = if 4 ≤ cut.length then .extentsExceeded else .spareExhausted)
      ∧ (cut.length < 4 → n ≤ left →
          c.store.spare = { spare with cursor := spare.cursor + n }
          ∧ (slot c p.slot).extents = cut ++ [⟨spare.cursor, n⟩]
          ∧ c.store.picture = some { p with
              written := if r.plan.isHeader then p.written else p.written + r.block, openSpace := false, remap := true,
              next := some {
                sector := spare.cursor, count := n, firstData := r.plan.firstData + r.block,
                isHeader := r.plan.isHeader } })

/-- A run failure of the picture in progress: while its failures are at most the retry limit the same run is ready again, and
beyond it the card enters FAULT with RUN_FAILED and the picture goes back to the head of the queue (R164, R165). -/
def Sys2Proof.Said.PictureRunFails : Prop :=
  ∀ (r : Run) (p : PictureWork) (cause : RunResult) (s : State), s.chip.card.run = some r → r.phase = .stopBusy →
    r.kind = .picture → s.chip.store.picture = some p → r.cause = some cause →
    cause = .crcRejected ∨ cause = .readCrc ∨ cause = .responseTimeout ∨ cause = .busyTimeout →
    p.slot < s.chip.slots.length →
    let again := { r.plan with failures := r.plan.failures + 1 }
    (again.failures ≤ r.retryLimit →
      ∃ c, exec .cardBusyEnd s = .next (concluded c s) ∧ c.card.run = none ∧ c.card.state = s.chip.card.state
        ∧ c.store.picture = some { p with next := some again } ∧ c.slots = s.chip.slots)
    ∧ (r.retryLimit < again.failures →
      ∃ c, exec .cardBusyEnd s = .next (concluded c s) ∧ c.card.run = none ∧ c.card.state = .fault
        ∧ c.card.fault = .runFailed ∧ c.store.picture = none ∧ c.store.queue = p.slot :: s.chip.store.queue
        ∧ slot c p.slot = { slot s.chip p.slot with state := .filled, store := .queued, extents := [] })

/-- A run on the card: the link carries WRITE_MULTI or READ_MULTI from the first sector of the run and STOP at its end, and a
block written is the header's copy, or bytes of memory padded with 0; a response leads to the first block, an accepted block to its busy wait, a busy end to the next
block or to STOP, a read block into memory at its place; and a rejection, a bad CRC, a time limit or a memory bus
error ends the run early with its cause and STOP. After STOP the run's result is shown and the card is free. The header run that
succeeds makes its picture STORED, a WRITE_REJECTED remaps, and a run failure is repeated up to the retry limit. A block's
CRC comes as an operand (log 9), and a byte of memory that the part has not written reads 0 (log 4). -/
def Obligations.CardRun : Prop :=
  Said.PictureRunSucceeds ∧ Said.Remap ∧ Said.PictureRunFails ∧ ∀ (r : Run) (s : State), s.chip.card.run = some r →
    let into := fun (q : Run) (bus : List (Nat × List Byte)) =>
      { s.chip with card := { s.chip.card with run := some q }, busOut := s.chip.busOut ++ bus }
    let early := fun (cause : RunResult) => into { r with cause := some cause, phase := .stopResponse } []
    (r.phase = .response →
      cardCommand s.chip.card = some (if r.write then .writeMulti r.plan.sector else .readMulti r.plan.sector))
    ∧ (r.phase = .stopResponse → cardCommand s.chip.card = some .stop)
    ∧ (r.phase = .token → r.write = true →
      (r.plan.isHeader = true → blockSent s = some r.header)
        ∧ (r.plan.isHeader = false → ∃ block n, blockSent s = some block ∧ n ≤ 512 ∧ block.length = 512
          ∧ (∀ i, i < n → block[i]? = some (Memory.read s.memory (r.address + 512 * r.block + i)))
          ∧ (∀ i, n ≤ i → i < 512 → block[i]? = some 0)
          ∧ (r.kind = .cardOrder → n = 512)
          ∧ (∀ p, r.kind = .picture → s.chip.store.picture = some p →
            n = min 512 ((slot s.chip p.slot).byteLength - 512 * (r.plan.firstData + r.block)))))
    ∧ (∀ capacity, (r.phase = .response → exec (.cardResponse capacity) s
          = .next (concluded (into { r with phase := if r.write then .token else .block } []) s))
        ∧ (r.phase = .stopResponse → exec (.cardResponse capacity) s
          = .next (concluded (into { r with phase := .stopBusy } []) s)))
    ∧ (r.phase = .token →
      exec (.cardStatusToken .accepted) s = .next (concluded (into { r with phase := .busy } []) s)
        ∧ exec (.cardStatusToken .crcRejected) s = .next (concluded (early .crcRejected) s)
        ∧ exec (.cardStatusToken .writeRejected) s = .next (concluded (early .writeRejected) s))
    ∧ (r.phase = .busy →
      exec .cardBusyEnd s = .next (concluded (into { r with
          block := r.block + 1, phase := if r.plan.count ≤ r.block + 1 then .stopResponse else .token } []) s)
        ∧ exec .cardBusyTimeout s = .next (concluded (early .busyTimeout) s))
    ∧ (r.phase = .block → ∀ data : List Byte, data.length = 512 →
      exec (.cardReadBlock true data) s = .next (concluded (into { r with
          block := r.block + 1, phase := if r.plan.count ≤ r.block + 1 then .stopResponse else .block }
          [(r.address + 512 * r.block, data)]) s)
        ∧ exec (.cardReadBlock false data) s = .next (concluded (early .readCrc) s))
    ∧ (r.phase = .response ∨ r.phase = .token ∨ r.phase = .block →
      exec .cardResponseTimeout s = .next (concluded (early .responseTimeout) s))
    ∧ (r.plan.isHeader = false → r.phase = .token ∨ r.phase = .block →
      exec .cardMemoryBusError s = .next (concluded (early .memoryBusError) s))
    ∧ (r.phase = .stopBusy →
      ∃ c, exec .cardBusyEnd s = .next (concluded c s) ∧ c.card.run = none
        ∧ c.store.lastResult = r.cause.getD .ok)
end

