-- ==== Sys2Proof/Laws/Frame.lean ====
section
/-! SUPPORT. What no block's work changes: the part state, the RUN field, the fault code, the Common Area in use, the bus
writes, the record write in flight, the seen counts and the free values drawn. One lemma per operation. -/

namespace Sys2Proof.Laws

open Sys2Proof.Machine

/-- What the work of the blocks leaves alone. -/
def outer (c : Chip) :
    PartState × Bool × FaultCode × Word × Bool × List (Nat × List Byte) × Option AnswerWrite × List Half × Nat :=
  (c.port.partState, c.port.run, c.port.fault, c.port.areaInUse, c.port.startRead, c.busOut, c.answers.inFlight,
    c.notices.seen, c.freeIndex)

@[simp] theorem outer_with_scan (c : Chip) (x : Scan) : outer { c with scan := x } = outer c := rfl
@[simp] theorem outer_with_records (c : Chip) (x : List RecordState) : outer { c with records := x } = outer c := rfl
@[simp] theorem outer_with_service (c : Chip) (x : Option ServiceWork) : outer { c with service := x } = outer c := rfl
@[simp] theorem outer_with_settings (c : Chip) (x : Option Settings) : outer { c with settings := x } = outer c := rfl
@[simp] theorem outer_with_pixel (c : Chip) (x : Pixel) : outer { c with pixel := x } = outer c := rfl
@[simp] theorem outer_with_flicker (c : Chip) (x : Flicker) : outer { c with flicker := x } = outer c := rfl
@[simp] theorem outer_with_tables (c : Chip) (x : Tables) : outer { c with tables := x } = outer c := rfl
@[simp] theorem outer_with_wear (c : Chip) (x : Wear) : outer { c with wear := x } = outer c := rfl
@[simp] theorem outer_with_zoom (c : Chip) (x : Zoom) : outer { c with zoom := x } = outer c := rfl
@[simp] theorem outer_with_focus (c : Chip) (x : Focus) : outer { c with focus := x } = outer c := rfl
@[simp] theorem outer_with_control (c : Chip) (x : Control) : outer { c with control := x } = outer c := rfl
@[simp] theorem outer_with_search (c : Chip) (x : Search) : outer { c with search := x } = outer c := rfl
@[simp] theorem outer_with_following (c : Chip) (x : Following) : outer { c with following := x } = outer c := rfl
@[simp] theorem outer_with_exposure (c : Chip) (x : Exposure) : outer { c with exposure := x } = outer c := rfl
@[simp] theorem outer_with_stab (c : Chip) (x : Stab) : outer { c with stab := x } = outer c := rfl
@[simp] theorem outer_with_capture (c : Chip) (x : Capture) : outer { c with capture := x } = outer c := rfl
@[simp] theorem outer_with_slots (c : Chip) (x : List PictureRecord) : outer { c with slots := x } = outer c := rfl
@[simp] theorem outer_with_store (c : Chip) (x : Store) : outer { c with store := x } = outer c := rfl
@[simp] theorem outer_with_card (c : Chip) (x : Card) : outer { c with card := x } = outer c := rfl
@[simp] theorem outer_with_events (c : Chip) (x : List Event) : outer { c with events := x } = outer c := rfl
@[simp] theorem outer_with_now (c : Chip) (x : Nat) : outer { c with now := x } = outer c := rfl

@[simp] theorem outer_raise (e : Event) (c : Chip) :
    outer (raise e c) = outer c := by
  first
  | rfl
  | (unfold raise; simp; done)
  | (unfold raise; (repeat' split) <;> first | rfl | (simp; done))
  | (unfold raise; dsimp only; (repeat' split) <;> first | rfl | (simp; done))

@[simp] theorem outer_mark (a : AnswerId) (c : Chip) :
    outer (mark a c) = outer c := by
  first
  | rfl
  | (unfold mark; simp; done)
  | (unfold mark; (repeat' split) <;> first | rfl | (simp; done))
  | (unfold mark; dsimp only; (repeat' split) <;> first | rfl | (simp; done))

@[simp] theorem outer_notice (k : NoticeClass) (c : Chip) :
    outer (notice k c) = outer c := by
  first
  | rfl
  | (unfold notice; simp; done)
  | (unfold notice; (repeat' split) <;> first | rfl | (simp; done))
  | (unfold notice; dsimp only; (repeat' split) <;> first | rfl | (simp; done))

@[simp] theorem outer_count (k : CounterId) (c : Chip) :
    outer (count k c) = outer c := by
  first
  | rfl
  | (unfold count; simp; done)
  | (unfold count; (repeat' split) <;> first | rfl | (simp; done))
  | (unfold count; dsimp only; (repeat' split) <;> first | rfl | (simp; done))

@[simp] theorem outer_clearCounters (c : Chip) :
    outer (clearCounters c) = outer c := by
  first
  | rfl
  | (unfold clearCounters; simp; done)
  | (unfold clearCounters; (repeat' split) <;> first | rfl | (simp; done))
  | (unfold clearCounters; dsimp only; (repeat' split) <;> first | rfl | (simp; done))

@[simp] theorem outer_setRecord (r : RecordId) (s : RecordState) (c : Chip) :
    outer (setRecord r s c) = outer c := by
  first
  | rfl
  | (unfold setRecord; simp; done)
  | (unfold setRecord; (repeat' split) <;> first | rfl | (simp; done))
  | (unfold setRecord; dsimp only; (repeat' split) <;> first | rfl | (simp; done))

@[simp] theorem outer_finish (r : RecordId) (o : ReqOutcome) (d : Detail) (c : Chip) :
    outer (finish r o d c) = outer c := by
  first
  | rfl
  | (unfold finish; simp; done)
  | (unfold finish; (repeat' split) <;> first | rfl | (simp; done))
  | (unfold finish; dsimp only; (repeat' split) <;> first | rfl | (simp; done))

@[simp] theorem outer_refuse (r : RecordId) (d : Detail) (c : Chip) :
    outer (refuse r d c) = outer c := by
  first
  | rfl
  | (unfold refuse; simp; done)
  | (unfold refuse; (repeat' split) <;> first | rfl | (simp; done))
  | (unfold refuse; dsimp only; (repeat' split) <;> first | rfl | (simp; done))

@[simp] theorem outer_setClamped (r : RecordId) (b : Bool) (c : Chip) :
    outer (setClamped r b c) = outer c := by
  first
  | rfl
  | (unfold setClamped; simp; done)
  | (unfold setClamped; (repeat' split) <;> first | rfl | (simp; done))
  | (unfold setClamped; dsimp only; (repeat' split) <;> first | rfl | (simp; done))

@[simp] theorem outer_hold (r : RecordId) (d : Detail) (q : Request) (c : Chip) :
    outer (hold r d q c) = outer c := by
  first
  | rfl
  | (unfold hold; simp; done)
  | (unfold hold; (repeat' split) <;> first | rfl | (simp; done))
  | (unfold hold; dsimp only; (repeat' split) <;> first | rfl | (simp; done))

@[simp] theorem outer_finishService (o : ReqOutcome) (d : Detail) (c : Chip) :
    outer (finishService o d c) = outer c := by
  first
  | rfl
  | (unfold finishService; simp; done)
  | (unfold finishService; (repeat' split) <;> first | rfl | (simp; done))
  | (unfold finishService; dsimp only; (repeat' split) <;> first | rfl | (simp; done))

@[simp] theorem outer_setSlot (n : Nat) (p : PictureRecord) (c : Chip) :
    outer (setSlot n p c) = outer c := by
  first
  | rfl
  | (unfold setSlot; simp; done)
  | (unfold setSlot; (repeat' split) <;> first | rfl | (simp; done))
  | (unfold setSlot; dsimp only; (repeat' split) <;> first | rfl | (simp; done))

@[simp] theorem outer_setBlockState (b : TableBlock) (s : BlockState) (c : Chip) :
    outer (setBlockState b s c) = outer c := by
  first
  | rfl
  | (unfold setBlockState; simp; done)
  | (unfold setBlockState; (repeat' split) <;> first | rfl | (simp; done))
  | (unfold setBlockState; dsimp only; (repeat' split) <;> first | rfl | (simp; done))

@[simp] theorem outer_loseBlock (b : TableBlock) (c : Chip) :
    outer (loseBlock b c) = outer c := by
  first
  | rfl
  | (unfold loseBlock; simp; done)
  | (unfold loseBlock; (repeat' split) <;> first | rfl | (simp; done))
  | (unfold loseBlock; dsimp only; (repeat' split) <;> first | rfl | (simp; done))

@[simp] theorem outer_readWord (b : TableBlock) (i : Nat) (c : Chip) :
    outer (readWord b i c).2 = outer c := by
  first
  | rfl
  | (unfold readWord; simp; done)
  | (unfold readWord; (repeat' split) <;> first | rfl | (simp; done))
  | (unfold readWord; dsimp only; (repeat' split) <;> first | rfl | (simp; done))

@[simp] theorem outer_readWords (b : TableBlock) (is : List Nat) (c : Chip) :
    outer (readWords b is c).2 = outer c := by
  induction is generalizing c with
  | nil => rfl
  | cons i is ih => simp [readWords, ih]

@[simp] theorem outer_readRow (r : Nat) (c : Chip) :
    outer (readRow r c).2 = outer c := by
  first
  | rfl
  | (unfold readRow; simp; done)
  | (unfold readRow; (repeat' split) <;> first | rfl | (simp; done))
  | (unfold readRow; dsimp only; (repeat' split) <;> first | rfl | (simp; done))

@[simp] theorem outer_readTrack (pos : Int) (c : Chip) :
    outer (readTrack pos c).2 = outer c := by
  first
  | rfl
  | (unfold readTrack; simp; done)
  | (unfold readTrack; (repeat' split) <;> first | rfl | (simp; done))
  | (unfold readTrack; dsimp only; (repeat' split) <;> first | rfl | (simp; done))

@[simp] theorem outer_beginLoad (s : Settings) (c : Chip) :
    outer (beginLoad s c) = outer c := by
  first
  | rfl
  | (unfold beginLoad; simp; done)
  | (unfold beginLoad; (repeat' split) <;> first | rfl | (simp; done))
  | (unfold beginLoad; dsimp only; (repeat' split) <;> first | rfl | (simp; done))

@[simp] theorem outer_failLoad (r : LoadResult) (b : TableBlock) (i : Nat) (c : Chip) :
    outer (failLoad r b i c) = outer c := by
  first
  | rfl
  | (unfold failLoad; simp; done)
  | (unfold failLoad; (repeat' split) <;> first | rfl | (simp; done))
  | (unfold failLoad; dsimp only; (repeat' split) <;> first | rfl | (simp; done))

@[simp] theorem outer_loadBlock (ws : List Word) (l : LoadWork) (c : Chip) :
    outer (loadBlock ws l c) = outer c := by
  first
  | rfl
  | (unfold loadBlock; simp; done)
  | (unfold loadBlock; (repeat' split) <;> first | rfl | (simp; done))
  | (unfold loadBlock; dsimp only; (repeat' split) <;> first | rfl | (simp; done))

@[simp] theorem outer_loadBusError (l : LoadWork) (c : Chip) :
    outer (loadBusError l c) = outer c := by
  first
  | rfl
  | (unfold loadBusError; simp; done)
  | (unfold loadBusError; (repeat' split) <;> first | rfl | (simp; done))
  | (unfold loadBusError; dsimp only; (repeat' split) <;> first | rfl | (simp; done))

@[simp] theorem outer_placeBlocks (l : LoadWork) (c : Chip) :
    outer (placeBlocks l c) = outer c := by
  first
  | rfl
  | (unfold placeBlocks; simp; done)
  | (unfold placeBlocks; (repeat' split) <;> first | rfl | (simp; done))
  | (unfold placeBlocks; dsimp only; (repeat' split) <;> first | rfl | (simp; done))

@[simp] theorem outer_beginRefetch (b : TableBlock) (c : Chip) :
    outer (beginRefetch b c) = outer c := by
  first
  | rfl
  | (unfold beginRefetch; simp; done)
  | (unfold beginRefetch; (repeat' split) <;> first | rfl | (simp; done))
  | (unfold beginRefetch; dsimp only; (repeat' split) <;> first | rfl | (simp; done))

@[simp] theorem outer_lensTableFault (r : LoadResult) (b : TableBlock) (i : Nat) (c : Chip) :
    outer (lensTableFault r b i c) = outer c := by
  first
  | rfl
  | (unfold lensTableFault; simp; done)
  | (unfold lensTableFault; (repeat' split) <;> first | rfl | (simp; done))
  | (unfold lensTableFault; dsimp only; (repeat' split) <;> first | rfl | (simp; done))

@[simp] theorem outer_finishRefetch (ws : List Word) (w : RefetchWork) (c : Chip) :
    outer (finishRefetch ws w c) = outer c := by
  first
  | rfl
  | (unfold finishRefetch; simp; done)
  | (unfold finishRefetch; (repeat' split) <;> first | rfl | (simp; done))
  | (unfold finishRefetch; dsimp only; (repeat' split) <;> first | rfl | (simp; done))

@[simp] theorem outer_refetchBusFault (w : RefetchWork) (c : Chip) :
    outer (refetchBusFault w c) = outer c := by
  first
  | rfl
  | (unfold refetchBusFault; simp; done)
  | (unfold refetchBusFault; (repeat' split) <;> first | rfl | (simp; done))
  | (unfold refetchBusFault; dsimp only; (repeat' split) <;> first | rfl | (simp; done))

@[simp] theorem outer_abortRefetch (c : Chip) :
    outer (abortRefetch c) = outer c := by
  first
  | rfl
  | (unfold abortRefetch; simp; done)
  | (unfold abortRefetch; (repeat' split) <;> first | rfl | (simp; done))
  | (unfold abortRefetch; dsimp only; (repeat' split) <;> first | rfl | (simp; done))

@[simp] theorem outer_markZoomPart (c : Chip) : outer (markZoomPart c) = outer c := rfl
@[simp] theorem outer_markFocusPart (c : Chip) : outer (markFocusPart c) = outer c := rfl

@[simp] theorem outer_setZoom (f : Zoom → Zoom) (c : Chip) :
    outer (setZoom f c) = outer c := by
  first
  | rfl
  | (unfold setZoom; simp; done)
  | (unfold setZoom; (repeat' split) <;> first | rfl | (simp; done))
  | (unfold setZoom; dsimp only; (repeat' split) <;> first | rfl | (simp; done))

@[simp] theorem outer_enterZoom (s : ZoomState) (f : Zoom → Zoom) (c : Chip) :
    outer (enterZoom s f c) = outer c := by
  first
  | rfl
  | (unfold enterZoom; simp; done)
  | (unfold enterZoom; (repeat' split) <;> first | rfl | (simp; done))
  | (unfold enterZoom; dsimp only; (repeat' split) <;> first | rfl | (simp; done))

@[simp] theorem outer_readFocalCode (c : Chip) :
    outer (readFocalCode c) = outer c := by
  first
  | rfl
  | (unfold readFocalCode; simp; done)
  | (unfold readFocalCode; (repeat' split) <;> first | rfl | (simp; done))
  | (unfold readFocalCode; dsimp only; (repeat' split) <;> first | rfl | (simp; done))

@[simp] theorem outer_enterIdle (c : Chip) :
    outer (enterIdle c) = outer c := by
  first
  | rfl
  | (unfold enterIdle; simp; done)
  | (unfold enterIdle; (repeat' split) <;> first | rfl | (simp; done))
  | (unfold enterIdle; dsimp only; (repeat' split) <;> first | rfl | (simp; done))

@[simp] theorem outer_beginMove (c : Chip) :
    outer (beginMove c) = outer c := by
  first
  | rfl
  | (unfold beginMove; simp; done)
  | (unfold beginMove; (repeat' split) <;> first | rfl | (simp; done))
  | (unfold beginMove; dsimp only; (repeat' split) <;> first | rfl | (simp; done))

@[simp] theorem outer_finalCheck (c : Chip) :
    outer (finalCheck c) = outer c := by
  first
  | rfl
  | (unfold finalCheck; simp; done)
  | (unfold finalCheck; (repeat' split) <;> first | rfl | (simp; done))
  | (unfold finalCheck; dsimp only; (repeat' split) <;> first | rfl | (simp; done))

@[simp] theorem outer_beginPark (goal : HomingGoal) (afterHoming : Bool) (c : Chip) :
    outer (beginPark goal afterHoming c) = outer c := by
  first
  | rfl
  | (unfold beginPark; simp; done)
  | (unfold beginPark; (repeat' split) <;> first | rfl | (simp; done))
  | (unfold beginPark; dsimp only; (repeat' split) <;> first | rfl | (simp; done))

@[simp] theorem outer_beginHoming (goal : HomingGoal) (c : Chip) :
    outer (beginHoming goal c) = outer c := by
  first
  | rfl
  | (unfold beginHoming; simp; done)
  | (unfold beginHoming; (repeat' split) <;> first | rfl | (simp; done))
  | (unfold beginHoming; dsimp only; (repeat' split) <;> first | rfl | (simp; done))

@[simp] theorem outer_zoomFault (d : Detail) (c : Chip) :
    outer (zoomFault d c) = outer c := by
  first
  | rfl
  | (unfold zoomFault; simp; done)
  | (unfold zoomFault; (repeat' split) <;> first | rfl | (simp; done))
  | (unfold zoomFault; dsimp only; (repeat' split) <;> first | rfl | (simp; done))

@[simp] theorem outer_enterLost (c : Chip) :
    outer (enterLost c) = outer c := by
  first
  | rfl
  | (unfold enterLost; simp; done)
  | (unfold enterLost; (repeat' split) <;> first | rfl | (simp; done))
  | (unfold enterLost; dsimp only; (repeat' split) <;> first | rfl | (simp; done))

@[simp] theorem outer_endPosition (c : Chip) :
    outer (endPosition c) = outer c := by
  first
  | rfl
  | (unfold endPosition; simp; done)
  | (unfold endPosition; (repeat' split) <;> first | rfl | (simp; done))
  | (unfold endPosition; dsimp only; (repeat' split) <;> first | rfl | (simp; done))

@[simp] theorem outer_losePosition (c : Chip) :
    outer (losePosition c) = outer c := by
  first
  | rfl
  | (unfold losePosition; simp; done)
  | (unfold losePosition; (repeat' split) <;> first | rfl | (simp; done))
  | (unfold losePosition; dsimp only; (repeat' split) <;> first | rfl | (simp; done))

@[simp] theorem outer_zoneCheck (c : Chip) :
    outer (zoneCheck c) = outer c := by
  first
  | rfl
  | (unfold zoneCheck; simp; done)
  | (unfold zoneCheck; (repeat' split) <;> first | rfl | (simp; done))
  | (unfold zoneCheck; dsimp only; (repeat' split) <;> first | rfl | (simp; done))

@[simp] theorem outer_openDrift (c : Chip) :
    outer (openDrift c) = outer c := by
  first
  | rfl
  | (unfold openDrift; simp; done)
  | (unfold openDrift; (repeat' split) <;> first | rfl | (simp; done))
  | (unfold openDrift; dsimp only; (repeat' split) <;> first | rfl | (simp; done))

@[simp] theorem outer_zoomCount (step : Int) (c : Chip) :
    outer (zoomCount step c) = outer c := by
  first
  | rfl
  | (unfold zoomCount; simp; done)
  | (unfold zoomCount; (repeat' split) <;> first | rfl | (simp; done))
  | (unfold zoomCount; dsimp only; (repeat' split) <;> first | rfl | (simp; done))

@[simp] theorem outer_encoderStep (e : EncoderStep) (c : Chip) :
    outer (encoderStep e c) = outer c := by
  first
  | rfl
  | (unfold encoderStep; simp; done)
  | (unfold encoderStep; (repeat' split) <;> first | rfl | (simp; done))
  | (unfold encoderStep; dsimp only; (repeat' split) <;> first | rfl | (simp; done))

@[simp] theorem outer_referenceChange (level : SensorLevel) (c : Chip) :
    outer (referenceChange level c) = outer c := by
  first
  | rfl
  | (unfold referenceChange; simp; done)
  | (unfold referenceChange; (repeat' split) <;> first | rfl | (simp; done))
  | (unfold referenceChange; dsimp only; (repeat' split) <;> first | rfl | (simp; done))

@[simp] theorem outer_brakeTimer (c : Chip) :
    outer (brakeTimer c) = outer c := by
  first
  | rfl
  | (unfold brakeTimer; simp; done)
  | (unfold brakeTimer; (repeat' split) <;> first | rfl | (simp; done))
  | (unfold brakeTimer; dsimp only; (repeat' split) <;> first | rfl | (simp; done))

@[simp] theorem outer_restartOrHold (c : Chip) :
    outer (restartOrHold c) = outer c := by
  first
  | rfl
  | (unfold restartOrHold; simp; done)
  | (unfold restartOrHold; (repeat' split) <;> first | rfl | (simp; done))
  | (unfold restartOrHold; dsimp only; (repeat' split) <;> first | rfl | (simp; done))

@[simp] theorem outer_settleTimer (c : Chip) :
    outer (settleTimer c) = outer c := by
  first
  | rfl
  | (unfold settleTimer; simp; done)
  | (unfold settleTimer; (repeat' split) <;> first | rfl | (simp; done))
  | (unfold settleTimer; dsimp only; (repeat' split) <;> first | rfl | (simp; done))

@[simp] theorem outer_stallTimer (c : Chip) :
    outer (stallTimer c) = outer c := by
  first
  | rfl
  | (unfold stallTimer; simp; done)
  | (unfold stallTimer; (repeat' split) <;> first | rfl | (simp; done))
  | (unfold stallTimer; dsimp only; (repeat' split) <;> first | rfl | (simp; done))

@[simp] theorem outer_homingTimeout (c : Chip) :
    outer (homingTimeout c) = outer c := by
  first
  | rfl
  | (unfold homingTimeout; simp; done)
  | (unfold homingTimeout; (repeat' split) <;> first | rfl | (simp; done))
  | (unfold homingTimeout; dsimp only; (repeat' split) <;> first | rfl | (simp; done))

@[simp] theorem outer_driftEnd (c : Chip) :
    outer (driftEnd c) = outer c := by
  first
  | rfl
  | (unfold driftEnd; simp; done)
  | (unfold driftEnd; (repeat' split) <;> first | rfl | (simp; done))
  | (unfold driftEnd; dsimp only; (repeat' split) <;> first | rfl | (simp; done))

@[simp] theorem outer_takeZoomMove (r : ZoomRequest) (c : Chip) :
    outer (takeZoomMove r c) = outer c := by
  first
  | rfl
  | (unfold takeZoomMove; simp; done)
  | (unfold takeZoomMove; (repeat' split) <;> first | rfl | (simp; done))
  | (unfold takeZoomMove; dsimp only; (repeat' split) <;> first | rfl | (simp; done))

@[simp] theorem outer_takeZoomStop (c : Chip) :
    outer (takeZoomStop c) = outer c := by
  first
  | rfl
  | (unfold takeZoomStop; simp; done)
  | (unfold takeZoomStop; (repeat' split) <;> first | rfl | (simp; done))
  | (unfold takeZoomStop; dsimp only; (repeat' split) <;> first | rfl | (simp; done))

@[simp] theorem outer_takeZoom (r : ZoomRequest) (c : Chip) :
    outer (takeZoom r c) = outer c := by
  first
  | rfl
  | (unfold takeZoom; simp; done)
  | (unfold takeZoom; (repeat' split) <;> first | rfl | (simp; done))
  | (unfold takeZoom; dsimp only; (repeat' split) <;> first | rfl | (simp; done))

@[simp] theorem outer_cutZoom (c : Chip) :
    outer (cutZoom c) = outer c := by
  first
  | rfl
  | (unfold cutZoom; simp; done)
  | (unfold cutZoom; (repeat' split) <;> first | rfl | (simp; done))
  | (unfold cutZoom; dsimp only; (repeat' split) <;> first | rfl | (simp; done))

@[simp] theorem outer_holdZoom (c : Chip) :
    outer (holdZoom c) = outer c := by
  first
  | rfl
  | (unfold holdZoom; simp; done)
  | (unfold holdZoom; (repeat' split) <;> first | rfl | (simp; done))
  | (unfold holdZoom; dsimp only; (repeat' split) <;> first | rfl | (simp; done))

@[simp] theorem outer_resumeZoom (c : Chip) :
    outer (resumeZoom c) = outer c := by
  first
  | rfl
  | (unfold resumeZoom; simp; done)
  | (unfold resumeZoom; (repeat' split) <;> first | rfl | (simp; done))
  | (unfold resumeZoom; dsimp only; (repeat' split) <;> first | rfl | (simp; done))

@[simp] theorem outer_reloadPoints (c : Chip) :
    outer (reloadPoints c) = outer c := by
  unfold reloadPoints; dsimp only; split
  · exact (outer_setZoom _ _).trans (outer_readWords _ _ _)
  · exact outer_readWords _ _ _

@[simp] theorem outer_zoomPointsRestored (c : Chip) :
    outer (zoomPointsRestored c) = outer c := by
  first
  | rfl
  | (unfold zoomPointsRestored; simp; done)
  | (unfold zoomPointsRestored; (repeat' split) <;> first | rfl | (simp; done))
  | (unfold zoomPointsRestored; dsimp only; (repeat' split) <;> first | rfl | (simp; done))

@[simp] theorem outer_zoomTablesReplaced (c : Chip) :
    outer (zoomTablesReplaced c) = outer c := by
  first
  | rfl
  | (unfold zoomTablesReplaced; simp; done)
  | (unfold zoomTablesReplaced; (repeat' split) <;> first | rfl | (simp; done))
  | (unfold zoomTablesReplaced; dsimp only; (repeat' split) <;> first | rfl | (simp; done))

@[simp] theorem outer_zoomTableFault (c : Chip) :
    outer (zoomTableFault c) = outer c := by
  first
  | rfl
  | (unfold zoomTableFault; simp; done)
  | (unfold zoomTableFault; (repeat' split) <;> first | rfl | (simp; done))
  | (unfold zoomTableFault; dsimp only; (repeat' split) <;> first | rfl | (simp; done))

@[simp] theorem outer_takeOver (a : AfterSettle) (c : Chip) :
    outer (takeOver a c) = outer c := by
  first
  | rfl
  | (unfold takeOver; simp; done)
  | (unfold takeOver; (repeat' split) <;> first | rfl | (simp; done))
  | (unfold takeOver; dsimp only; (repeat' split) <;> first | rfl | (simp; done))

@[simp] theorem outer_brakeFromHeld (a : AfterSettle) (c : Chip) :
    outer (brakeFromHeld a c) = outer c := by
  first
  | rfl
  | (unfold brakeFromHeld; simp; done)
  | (unfold brakeFromHeld; (repeat' split) <;> first | rfl | (simp; done))
  | (unfold brakeFromHeld; dsimp only; (repeat' split) <;> first | rfl | (simp; done))

@[simp] theorem outer_refuseService (d : Detail) (c : Chip) :
    outer (refuseService d c) = outer c := by
  first
  | rfl
  | (unfold refuseService; simp; done)
  | (unfold refuseService; (repeat' split) <;> first | rfl | (simp; done))
  | (unfold refuseService; dsimp only; (repeat' split) <;> first | rfl | (simp; done))

@[simp] theorem outer_serviceRehome (c : Chip) :
    outer (serviceRehome c) = outer c := by
  first
  | rfl
  | (unfold serviceRehome; simp; done)
  | (unfold serviceRehome; (repeat' split) <;> first | rfl | (simp; done))
  | (unfold serviceRehome; dsimp only; (repeat' split) <;> first | rfl | (simp; done))

@[simp] theorem outer_servicePark (c : Chip) :
    outer (servicePark c) = outer c := by
  first
  | rfl
  | (unfold servicePark; simp; done)
  | (unfold servicePark; (repeat' split) <;> first | rfl | (simp; done))
  | (unfold servicePark; dsimp only; (repeat' split) <;> first | rfl | (simp; done))

@[simp] theorem outer_serviceUnpark (c : Chip) :
    outer (serviceUnpark c) = outer c := by
  first
  | rfl
  | (unfold serviceUnpark; simp; done)
  | (unfold serviceUnpark; (repeat' split) <;> first | rfl | (simp; done))
  | (unfold serviceUnpark; dsimp only; (repeat' split) <;> first | rfl | (simp; done))

@[simp] theorem outer_startZoom (c : Chip) :
    outer (startZoom c) = outer c := by
  first
  | rfl
  | (unfold startZoom; simp; done)
  | (unfold startZoom; (repeat' split) <;> first | rfl | (simp; done))
  | (unfold startZoom; dsimp only; (repeat' split) <;> first | rfl | (simp; done))

@[simp] theorem outer_stopZoom (c : Chip) :
    outer (stopZoom c) = outer c := by
  first
  | rfl
  | (unfold stopZoom; simp; done)
  | (unfold stopZoom; (repeat' split) <;> first | rfl | (simp; done))
  | (unfold stopZoom; dsimp only; (repeat' split) <;> first | rfl | (simp; done))

@[simp] theorem outer_setFocus (f : Focus → Focus) (c : Chip) :
    outer (setFocus f c) = outer c := by
  first
  | rfl
  | (unfold setFocus; simp; done)
  | (unfold setFocus; (repeat' split) <;> first | rfl | (simp; done))
  | (unfold setFocus; dsimp only; (repeat' split) <;> first | rfl | (simp; done))

@[simp] theorem outer_enterFocus (s : FocusState) (f : Focus → Focus) (c : Chip) :
    outer (enterFocus s f c) = outer c := by
  first
  | rfl
  | (unfold enterFocus; simp; done)
  | (unfold enterFocus; (repeat' split) <;> first | rfl | (simp; done))
  | (unfold enterFocus; dsimp only; (repeat' split) <;> first | rfl | (simp; done))

@[simp] theorem outer_beginTrain (d : FocusDir) (leg : Int) (c : Chip) :
    outer (beginTrain d leg c) = outer c := by
  first
  | rfl
  | (unfold beginTrain; simp; done)
  | (unfold beginTrain; (repeat' split) <;> first | rfl | (simp; done))
  | (unfold beginTrain; dsimp only; (repeat' split) <;> first | rfl | (simp; done))

@[simp] theorem outer_enterFocusIdle (c : Chip) :
    outer (enterFocusIdle c) = outer c := by
  first
  | rfl
  | (unfold enterFocusIdle; simp; done)
  | (unfold enterFocusIdle; (repeat' split) <;> first | rfl | (simp; done))
  | (unfold enterFocusIdle; dsimp only; (repeat' split) <;> first | rfl | (simp; done))

@[simp] theorem outer_planMove (c : Chip) :
    outer (planMove c) = outer c := by
  first
  | rfl
  | (unfold planMove; simp; done)
  | (unfold planMove; (repeat' split) <;> first | rfl | (simp; done))
  | (unfold planMove; dsimp only; (repeat' split) <;> first | rfl | (simp; done))

@[simp] theorem outer_focusFault (d : Detail) (c : Chip) :
    outer (focusFault d c) = outer c := by
  first
  | rfl
  | (unfold focusFault; simp; done)
  | (unfold focusFault; (repeat' split) <;> first | rfl | (simp; done))
  | (unfold focusFault; dsimp only; (repeat' split) <;> first | rfl | (simp; done))

@[simp] theorem outer_enterHoming (goal : FocusGoal) (c : Chip) :
    outer (enterHoming goal c) = outer c := by
  first
  | rfl
  | (unfold enterHoming; simp; done)
  | (unfold enterHoming; (repeat' split) <;> first | rfl | (simp; done))
  | (unfold enterHoming; dsimp only; (repeat' split) <;> first | rfl | (simp; done))

@[simp] theorem outer_endTrain (c : Chip) :
    outer (endTrain c) = outer c := by
  first
  | rfl
  | (unfold endTrain; simp; done)
  | (unfold endTrain; (repeat' split) <;> first | rfl | (simp; done))
  | (unfold endTrain; dsimp only; (repeat' split) <;> first | rfl | (simp; done))

@[simp] theorem outer_goOnFor (n : Nat) (p : Int) (c : Chip) :
    outer (goOnFor n p c) = outer c := by
  unfold goOnFor; dsimp only; split <;> simp

@[simp] theorem outer_rampDown (c : Chip) :
    outer (rampDown c) = outer c := by
  simp [rampDown]

@[simp] theorem outer_startHoming (goal : FocusGoal) (c : Chip) :
    outer (startHoming goal c) = outer c := by
  first
  | rfl
  | (unfold startHoming; simp; done)
  | (unfold startHoming; (repeat' split) <;> first | rfl | (simp; done))
  | (unfold startHoming; dsimp only; (repeat' split) <;> first | rfl | (simp; done))

@[simp] theorem outer_retargetTrain (t : Int) (c : Chip) :
    outer (retargetTrain t c) = outer c := by
  first
  | rfl
  | (unfold retargetTrain; simp; done)
  | (unfold retargetTrain; (repeat' split) <;> first | rfl | (simp; done))
  | (unfold retargetTrain; dsimp only; (repeat' split) <;> first | rfl | (simp; done))

@[simp] theorem outer_retargetDwell (t : Int) (c : Chip) :
    outer (retargetDwell t c) = outer c := by
  first
  | rfl
  | (unfold retargetDwell; simp; done)
  | (unfold retargetDwell; (repeat' split) <;> first | rfl | (simp; done))
  | (unfold retargetDwell; dsimp only; (repeat' split) <;> first | rfl | (simp; done))

@[simp] theorem outer_handTarget (t0 : Int) (c : Chip) :
    outer (handTarget t0 c) = outer c := by
  first
  | rfl
  | (unfold handTarget; simp; done)
  | (unfold handTarget; (repeat' split) <;> first | rfl | (simp; done))
  | (unfold handTarget; dsimp only; (repeat' split) <;> first | rfl | (simp; done))

@[simp] theorem outer_issuePulse (c : Chip) :
    outer (issuePulse c) = outer c := by
  first
  | rfl
  | (unfold issuePulse; simp; done)
  | (unfold issuePulse; (repeat' split) <;> first | rfl | (simp; done))
  | (unfold issuePulse; dsimp only; (repeat' split) <;> first | rfl | (simp; done))

@[simp] theorem outer_beginCaptureHold (c : Chip) :
    outer (beginCaptureHold c) = outer c := by
  first
  | rfl
  | (unfold beginCaptureHold; simp; done)
  | (unfold beginCaptureHold; (repeat' split) <;> first | rfl | (simp; done))
  | (unfold beginCaptureHold; dsimp only; (repeat' split) <;> first | rfl | (simp; done))

@[simp] theorem outer_endRampAtHold (c : Chip) :
    outer (endRampAtHold c) = outer c := by
  first
  | rfl
  | (unfold endRampAtHold; simp; done)
  | (unfold endRampAtHold; (repeat' split) <;> first | rfl | (simp; done))
  | (unfold endRampAtHold; dsimp only; (repeat' split) <;> first | rfl | (simp; done))

@[simp] theorem outer_endCaptureHold (c : Chip) :
    outer (endCaptureHold c) = outer c := by
  first
  | rfl
  | (unfold endCaptureHold; simp; done)
  | (unfold endCaptureHold; (repeat' split) <;> first | rfl | (simp; done))
  | (unfold endCaptureHold; dsimp only; (repeat' split) <;> first | rfl | (simp; done))

@[simp] theorem outer_correctSlip (expected : Int) (c : Chip) :
    outer (correctSlip expected c) = outer c := by
  first
  | rfl
  | (unfold correctSlip; simp; done)
  | (unfold correctSlip; (repeat' split) <;> first | rfl | (simp; done))
  | (unfold correctSlip; dsimp only; (repeat' split) <;> first | rfl | (simp; done))

@[simp] theorem outer_slipCheck (level : SensorLevel) (c : Chip) :
    outer (slipCheck level c) = outer c := by
  first
  | rfl
  | (unfold slipCheck; simp; done)
  | (unfold slipCheck; (repeat' split) <;> first | rfl | (simp; done))
  | (unfold slipCheck; dsimp only; (repeat' split) <;> first | rfl | (simp; done))

@[simp] theorem outer_setControl (f : Control → Control) (c : Chip) :
    outer (setControl f c) = outer c := by
  first
  | rfl
  | (unfold setControl; simp; done)
  | (unfold setControl; (repeat' split) <;> first | rfl | (simp; done))
  | (unfold setControl; dsimp only; (repeat' split) <;> first | rfl | (simp; done))

@[simp] theorem outer_setFollowing (f : Following → Following) (c : Chip) :
    outer (setFollowing f c) = outer c := by
  first
  | rfl
  | (unfold setFollowing; simp; done)
  | (unfold setFollowing; (repeat' split) <;> first | rfl | (simp; done))
  | (unfold setFollowing; dsimp only; (repeat' split) <;> first | rfl | (simp; done))

@[simp] theorem outer_watchAfresh (c : Chip) :
    outer (watchAfresh c) = outer c := by
  first
  | rfl
  | (unfold watchAfresh; simp; done)
  | (unfold watchAfresh; (repeat' split) <;> first | rfl | (simp; done))
  | (unfold watchAfresh; dsimp only; (repeat' split) <;> first | rfl | (simp; done))

@[simp] theorem outer_doRetarget (c : Chip) :
    outer (doRetarget c) = outer c := by
  first
  | rfl
  | (unfold doRetarget; simp; done)
  | (unfold doRetarget; (repeat' split) <;> first | rfl | (simp; done))
  | (unfold doRetarget; dsimp only; (repeat' split) <;> first | rfl | (simp; done))

@[simp] theorem outer_unparkRetarget (c : Chip) :
    outer (unparkRetarget c) = outer c := by
  first
  | rfl
  | (unfold unparkRetarget; simp; done)
  | (unfold unparkRetarget; (repeat' split) <;> first | rfl | (simp; done))
  | (unfold unparkRetarget; dsimp only; (repeat' split) <;> first | rfl | (simp; done))

@[simp] theorem outer_retarget (c : Chip) :
    outer (retarget c) = outer c := by
  first
  | rfl
  | (unfold retarget; simp; done)
  | (unfold retarget; (repeat' split) <;> first | rfl | (simp; done))
  | (unfold retarget; dsimp only; (repeat' split) <;> first | rfl | (simp; done))

@[simp] theorem outer_retargetAgain (c : Chip) :
    outer (retargetAgain c) = outer c := by
  first
  | rfl
  | (unfold retargetAgain; simp; done)
  | (unfold retargetAgain; (repeat' split) <;> first | rfl | (simp; done))
  | (unfold retargetAgain; dsimp only; (repeat' split) <;> first | rfl | (simp; done))

@[simp] theorem outer_retargetIfDue (c : Chip) :
    outer (retargetIfDue c) = outer c := by
  first
  | rfl
  | (unfold retargetIfDue; simp; done)
  | (unfold retargetIfDue; (repeat' split) <;> first | rfl | (simp; done))
  | (unfold retargetIfDue; dsimp only; (repeat' split) <;> first | rfl | (simp; done))

@[simp] theorem outer_homingGoalMove (c : Chip) :
    outer (homingGoalMove c) = outer c := by
  first
  | rfl
  | (unfold homingGoalMove; simp; done)
  | (unfold homingGoalMove; (repeat' split) <;> first | rfl | (simp; done))
  | (unfold homingGoalMove; dsimp only; (repeat' split) <;> first | rfl | (simp; done))

@[simp] theorem outer_homePulseLimit (c : Chip) :
    outer (homePulseLimit c) = outer c := by
  first
  | rfl
  | (unfold homePulseLimit; simp; done)
  | (unfold homePulseLimit; (repeat' split) <;> first | rfl | (simp; done))
  | (unfold homePulseLimit; dsimp only; (repeat' split) <;> first | rfl | (simp; done))

@[simp] theorem outer_focusTablesReplaced (c : Chip) :
    outer (focusTablesReplaced c) = outer c := by
  first
  | rfl
  | (unfold focusTablesReplaced; simp; done)
  | (unfold focusTablesReplaced; (repeat' split) <;> first | rfl | (simp; done))
  | (unfold focusTablesReplaced; dsimp only; (repeat' split) <;> first | rfl | (simp; done))

@[simp] theorem outer_focusTableFault (c : Chip) :
    outer (focusTableFault c) = outer c := by
  first
  | rfl
  | (unfold focusTableFault; simp; done)
  | (unfold focusTableFault; (repeat' split) <;> first | rfl | (simp; done))
  | (unfold focusTableFault; dsimp only; (repeat' split) <;> first | rfl | (simp; done))

@[simp] theorem outer_dropHomingRamp (c : Chip) :
    outer (dropHomingRamp c) = outer c := by
  first
  | rfl
  | (unfold dropHomingRamp; simp; done)
  | (unfold dropHomingRamp; (repeat' split) <;> first | rfl | (simp; done))
  | (unfold dropHomingRamp; dsimp only; (repeat' split) <;> first | rfl | (simp; done))

@[simp] theorem outer_stopFocus (c : Chip) :
    outer (stopFocus c) = outer c := by
  first
  | rfl
  | (unfold stopFocus; simp; done)
  | (unfold stopFocus; (repeat' split) <;> first | rfl | (simp; done))
  | (unfold stopFocus; dsimp only; (repeat' split) <;> first | rfl | (simp; done))

@[simp] theorem outer_setSearch (f : Search → Search) (c : Chip) :
    outer (setSearch f c) = outer c := by
  first
  | rfl
  | (unfold setSearch; simp; done)
  | (unfold setSearch; (repeat' split) <;> first | rfl | (simp; done))
  | (unfold setSearch; dsimp only; (repeat' split) <;> first | rfl | (simp; done))

@[simp] theorem outer_watchKeepingStep (c : Chip) :
    outer (watchKeepingStep c) = outer c := by
  first
  | rfl
  | (unfold watchKeepingStep; simp; done)
  | (unfold watchKeepingStep; (repeat' split) <;> first | rfl | (simp; done))
  | (unfold watchKeepingStep; dsimp only; (repeat' split) <;> first | rfl | (simp; done))

@[simp] theorem outer_enterContinuous (window : Nat) (c : Chip) :
    outer (enterContinuous window c) = outer c := by
  first
  | rfl
  | (unfold enterContinuous; simp; done)
  | (unfold enterContinuous; (repeat' split) <;> first | rfl | (simp; done))
  | (unfold enterContinuous; dsimp only; (repeat' split) <;> first | rfl | (simp; done))

@[simp] theorem outer_leaveSearchMode (confirmed : Bool) (c : Chip) :
    outer (leaveSearchMode confirmed c) = outer c := by
  first
  | rfl
  | (unfold leaveSearchMode; simp; done)
  | (unfold leaveSearchMode; (repeat' split) <;> first | rfl | (simp; done))
  | (unfold leaveSearchMode; dsimp only; (repeat' split) <;> first | rfl | (simp; done))

@[simp] theorem outer_closeSearch (confirmed : Bool) (c : Chip) :
    outer (closeSearch confirmed c) = outer c := by
  first
  | rfl
  | (unfold closeSearch; simp; done)
  | (unfold closeSearch; (repeat' split) <;> first | rfl | (simp; done))
  | (unfold closeSearch; dsimp only; (repeat' split) <;> first | rfl | (simp; done))

@[simp] theorem outer_endSearchRequest (o : ReqOutcome) (d : Detail) (c : Chip) :
    outer (endSearchRequest o d c) = outer c := by
  first
  | rfl
  | (unfold endSearchRequest; simp; done)
  | (unfold endSearchRequest; (repeat' split) <;> first | rfl | (simp; done))
  | (unfold endSearchRequest; dsimp only; (repeat' split) <;> first | rfl | (simp; done))

@[simp] theorem outer_endEarly (o : ReqOutcome) (d : Detail) (c : Chip) :
    outer (endEarly o d c) = outer c := by
  first
  | rfl
  | (unfold endEarly; simp; done)
  | (unfold endEarly; (repeat' split) <;> first | rfl | (simp; done))
  | (unfold endEarly; dsimp only; (repeat' split) <;> first | rfl | (simp; done))

@[simp] theorem outer_supersedeSearch (c : Chip) :
    outer (supersedeSearch c) = outer c := by
  first
  | rfl
  | (unfold supersedeSearch; simp; done)
  | (unfold supersedeSearch; (repeat' split) <;> first | rfl | (simp; done))
  | (unfold supersedeSearch; dsimp only; (repeat' split) <;> first | rfl | (simp; done))

@[simp] theorem outer_finishSearch (d : Nat) (found : Bool) (c : Chip) :
    outer (finishSearch d found c) = outer c := by
  first
  | rfl
  | (unfold finishSearch; simp; done)
  | (unfold finishSearch; (repeat' split) <;> first | rfl | (simp; done))
  | (unfold finishSearch; dsimp only; (repeat' split) <;> first | rfl | (simp; done))

@[simp] theorem outer_applyFinish (c : Chip) :
    outer (applyFinish c) = outer c := by
  first
  | rfl
  | (unfold applyFinish; simp; done)
  | (unfold applyFinish; (repeat' split) <;> first | rfl | (simp; done))
  | (unfold applyFinish; dsimp only; (repeat' split) <;> first | rfl | (simp; done))

@[simp] theorem outer_enterFinish (c : Chip) :
    outer (enterFinish c) = outer c := by
  first
  | rfl
  | (unfold enterFinish; simp; done)
  | (unfold enterFinish; (repeat' split) <;> first | rfl | (simp; done))
  | (unfold enterFinish; dsimp only; (repeat' split) <;> first | rfl | (simp; done))

@[simp] theorem outer_enterFine (w : Nat) (peak : Int) (c : Chip) :
    outer (enterFine w peak c) = outer c := by
  first
  | rfl
  | (unfold enterFine; simp; done)
  | (unfold enterFine; (repeat' split) <;> first | rfl | (simp; done))
  | (unfold enterFine; dsimp only; (repeat' split) <;> first | rfl | (simp; done))

@[simp] theorem outer_applyChoose (c : Chip) :
    outer (applyChoose c) = outer c := by
  first
  | rfl
  | (unfold applyChoose; simp; done)
  | (unfold applyChoose; (repeat' split) <;> first | rfl | (simp; done))
  | (unfold applyChoose; dsimp only; (repeat' split) <;> first | rfl | (simp; done))

@[simp] theorem outer_enterChoose (c : Chip) :
    outer (enterChoose c) = outer c := by
  first
  | rfl
  | (unfold enterChoose; simp; done)
  | (unfold enterChoose; (repeat' split) <;> first | rfl | (simp; done))
  | (unfold enterChoose; dsimp only; (repeat' split) <;> first | rfl | (simp; done))

@[simp] theorem outer_searchWaitCheck (c : Chip) :
    outer (searchWaitCheck c) = outer c := by
  first
  | rfl
  | (unfold searchWaitCheck; simp; done)
  | (unfold searchWaitCheck; (repeat' split) <;> first | rfl | (simp; done))
  | (unfold searchWaitCheck; dsimp only; (repeat' split) <;> first | rfl | (simp; done))

@[simp] theorem outer_searchBlockRestored (c : Chip) :
    outer (searchBlockRestored c) = outer c := by
  first
  | rfl
  | (unfold searchBlockRestored; simp; done)
  | (unfold searchBlockRestored; (repeat' split) <;> first | rfl | (simp; done))
  | (unfold searchBlockRestored; dsimp only; (repeat' split) <;> first | rfl | (simp; done))

@[simp] theorem outer_coarseSample (values : List Nat) (c : Chip) :
    outer (coarseSample values c) = outer c := by
  first
  | rfl
  | (unfold coarseSample; simp; done)
  | (unfold coarseSample; (repeat' split) <;> first | rfl | (simp; done))
  | (unfold coarseSample; dsimp only; (repeat' split) <;> first | rfl | (simp; done))

@[simp] theorem outer_fineSample (values : List Nat) (c : Chip) :
    outer (fineSample values c) = outer c := by
  first
  | rfl
  | (unfold fineSample; simp; done)
  | (unfold fineSample; (repeat' split) <;> first | rfl | (simp; done))
  | (unfold fineSample; dsimp only; (repeat' split) <;> first | rfl | (simp; done))

@[simp] theorem outer_searchSample (values : List (Option Nat)) (c : Chip) :
    outer (searchSample values c) = outer c := by
  first
  | rfl
  | (unfold searchSample; simp; done)
  | (unfold searchSample; (repeat' split) <;> first | rfl | (simp; done))
  | (unfold searchSample; dsimp only; (repeat' split) <;> first | rfl | (simp; done))

@[simp] theorem outer_beginSearch (o : SearchOrigin) (c : Chip) :
    outer (beginSearch o c) = outer c := by
  first
  | rfl
  | (unfold beginSearch; simp; done)
  | (unfold beginSearch; (repeat' split) <;> first | rfl | (simp; done))
  | (unfold beginSearch; dsimp only; (repeat' split) <;> first | rfl | (simp; done))

@[simp] theorem outer_takeSearch (c : Chip) :
    outer (takeSearch c) = outer c := by
  first
  | rfl
  | (unfold takeSearch; simp; done)
  | (unfold takeSearch; (repeat' split) <;> first | rfl | (simp; done))
  | (unfold takeSearch; dsimp only; (repeat' split) <;> first | rfl | (simp; done))

@[simp] theorem outer_takeContinuousOn (c : Chip) :
    outer (takeContinuousOn c) = outer c := by
  first
  | rfl
  | (unfold takeContinuousOn; simp; done)
  | (unfold takeContinuousOn; (repeat' split) <;> first | rfl | (simp; done))
  | (unfold takeContinuousOn; dsimp only; (repeat' split) <;> first | rfl | (simp; done))

@[simp] theorem outer_moveForRequest (c : Chip) :
    outer (moveForRequest c) = outer c := by
  first
  | rfl
  | (unfold moveForRequest; simp; done)
  | (unfold moveForRequest; (repeat' split) <;> first | rfl | (simp; done))
  | (unfold moveForRequest; dsimp only; (repeat' split) <;> first | rfl | (simp; done))

@[simp] theorem outer_takeSetDistance (d : Nat) (c : Chip) :
    outer (takeSetDistance d c) = outer c := by
  first
  | rfl
  | (unfold takeSetDistance; simp; done)
  | (unfold takeSetDistance; (repeat' split) <;> first | rfl | (simp; done))
  | (unfold takeSetDistance; dsimp only; (repeat' split) <;> first | rfl | (simp; done))

@[simp] theorem outer_takeResumeTracking (c : Chip) :
    outer (takeResumeTracking c) = outer c := by
  first
  | rfl
  | (unfold takeResumeTracking; simp; done)
  | (unfold takeResumeTracking; (repeat' split) <;> first | rfl | (simp; done))
  | (unfold takeResumeTracking; dsimp only; (repeat' split) <;> first | rfl | (simp; done))

@[simp] theorem outer_takeFocus (r : FocusRequest) (c : Chip) :
    outer (takeFocus r c) = outer c := by
  first
  | rfl
  | (unfold takeFocus; simp; done)
  | (unfold takeFocus; (repeat' split) <;> first | rfl | (simp; done))
  | (unfold takeFocus; dsimp only; (repeat' split) <;> first | rfl | (simp; done))

@[simp] theorem outer_searchHalfPress (c : Chip) :
    outer (searchHalfPress c) = outer c := by
  first
  | rfl
  | (unfold searchHalfPress; simp; done)
  | (unfold searchHalfPress; (repeat' split) <;> first | rfl | (simp; done))
  | (unfold searchHalfPress; dsimp only; (repeat' split) <;> first | rfl | (simp; done))

@[simp] theorem outer_searchHalfPressEnd (c : Chip) :
    outer (searchHalfPressEnd c) = outer c := by
  first
  | rfl
  | (unfold searchHalfPressEnd; simp; done)
  | (unfold searchHalfPressEnd; (repeat' split) <;> first | rfl | (simp; done))
  | (unfold searchHalfPressEnd; dsimp only; (repeat' split) <;> first | rfl | (simp; done))

@[simp] theorem outer_evalFollowing (c : Chip) :
    outer (evalFollowing c) = outer c := by
  first
  | rfl
  | (unfold evalFollowing; simp; done)
  | (unfold evalFollowing; (repeat' split) <;> first | rfl | (simp; done))
  | (unfold evalFollowing; dsimp only; (repeat' split) <;> first | rfl | (simp; done))

@[simp] theorem outer_moveToBest (e : Episode) (c : Chip) :
    outer (moveToBest e c) = outer c := by
  first
  | rfl
  | (unfold moveToBest; simp; done)
  | (unfold moveToBest; (repeat' split) <;> first | rfl | (simp; done))
  | (unfold moveToBest; dsimp only; (repeat' split) <;> first | rfl | (simp; done))

@[simp] theorem outer_makeStep (e : Episode) (c : Chip) :
    outer (makeStep e c) = outer c := by
  first
  | rfl
  | (unfold makeStep; simp; done)
  | (unfold makeStep; (repeat' split) <;> first | rfl | (simp; done))
  | (unfold makeStep; dsimp only; (repeat' split) <;> first | rfl | (simp; done))

@[simp] theorem outer_stepNotBetter (e : Episode) (c : Chip) :
    outer (stepNotBetter e c) = outer c := by
  first
  | rfl
  | (unfold stepNotBetter; simp; done)
  | (unfold stepNotBetter; (repeat' split) <;> first | rfl | (simp; done))
  | (unfold stepNotBetter; dsimp only; (repeat' split) <;> first | rfl | (simp; done))

@[simp] theorem outer_nextStep (e : Episode) (c : Chip) :
    outer (nextStep e c) = outer c := by
  first
  | rfl
  | (unfold nextStep; simp; done)
  | (unfold nextStep; (repeat' split) <;> first | rfl | (simp; done))
  | (unfold nextStep; dsimp only; (repeat' split) <;> first | rfl | (simp; done))

@[simp] theorem outer_stepSample (v : Nat) (e : Episode) (c : Chip) :
    outer (stepSample v e c) = outer c := by
  first
  | rfl
  | (unfold stepSample; simp; done)
  | (unfold stepSample; (repeat' split) <;> first | rfl | (simp; done))
  | (unfold stepSample; dsimp only; (repeat' split) <;> first | rfl | (simp; done))

@[simp] theorem outer_watchSample (v : Nat) (c : Chip) :
    outer (watchSample v c) = outer c := by
  first
  | rfl
  | (unfold watchSample; simp; done)
  | (unfold watchSample; (repeat' split) <;> first | rfl | (simp; done))
  | (unfold watchSample; dsimp only; (repeat' split) <;> first | rfl | (simp; done))

@[simp] theorem outer_followingSample (values : List (Option Nat)) (c : Chip) :
    outer (followingSample values c) = outer c := by
  first
  | rfl
  | (unfold followingSample; simp; done)
  | (unfold followingSample; (repeat' split) <;> first | rfl | (simp; done))
  | (unfold followingSample; dsimp only; (repeat' split) <;> first | rfl | (simp; done))

@[simp] theorem outer_focusSample (metered : Bool) (values : List (Option Nat)) (c : Chip) :
    outer (focusSample metered values c) = outer c := by
  first
  | rfl
  | (unfold focusSample; simp; done)
  | (unfold focusSample; (repeat' split) <;> first | rfl | (simp; done))
  | (unfold focusSample; dsimp only; (repeat' split) <;> first | rfl | (simp; done))

@[simp] theorem outer_followingMoveEnd (c : Chip) :
    outer (followingMoveEnd c) = outer c := by
  first
  | rfl
  | (unfold followingMoveEnd; simp; done)
  | (unfold followingMoveEnd; (repeat' split) <;> first | rfl | (simp; done))
  | (unfold followingMoveEnd; dsimp only; (repeat' split) <;> first | rfl | (simp; done))

@[simp] theorem outer_searchSettingsChanged (c : Chip) :
    outer (searchSettingsChanged c) = outer c := by
  first
  | rfl
  | (unfold searchSettingsChanged; simp; done)
  | (unfold searchSettingsChanged; (repeat' split) <;> first | rfl | (simp; done))
  | (unfold searchSettingsChanged; dsimp only; (repeat' split) <;> first | rfl | (simp; done))

@[simp] theorem outer_stopSearch (c : Chip) :
    outer (stopSearch c) = outer c := by
  first
  | rfl
  | (unfold stopSearch; simp; done)
  | (unfold stopSearch; (repeat' split) <;> first | rfl | (simp; done))
  | (unfold stopSearch; dsimp only; (repeat' split) <;> first | rfl | (simp; done))

@[simp] theorem outer_setPixel (f : Pixel → Pixel) (c : Chip) :
    outer (setPixel f c) = outer c := by
  first
  | rfl
  | (unfold setPixel; simp; done)
  | (unfold setPixel; (repeat' split) <;> first | rfl | (simp; done))
  | (unfold setPixel; dsimp only; (repeat' split) <;> first | rfl | (simp; done))

@[simp] theorem outer_setStream (s : StreamState) (c : Chip) :
    outer (setStream s c) = outer c := by
  first
  | rfl
  | (unfold setStream; simp; done)
  | (unfold setStream; (repeat' split) <;> first | rfl | (simp; done))
  | (unfold setStream; dsimp only; (repeat' split) <;> first | rfl | (simp; done))

@[simp] theorem outer_setIris (level : Nat) (c : Chip) :
    outer (setIris level c) = outer c := by
  first
  | rfl
  | (unfold setIris; simp; done)
  | (unfold setIris; (repeat' split) <;> first | rfl | (simp; done))
  | (unfold setIris; dsimp only; (repeat' split) <;> first | rfl | (simp; done))

@[simp] theorem outer_enterConfiguring (starting : Bool) (t : Triple) (c : Chip) :
    outer (enterConfiguring starting t c) = outer c := by
  first
  | rfl
  | (unfold enterConfiguring; simp; done)
  | (unfold enterConfiguring; (repeat' split) <;> first | rfl | (simp; done))
  | (unfold enterConfiguring; dsimp only; (repeat' split) <;> first | rfl | (simp; done))

@[simp] theorem outer_sensorConfigStart (c : Chip) :
    outer (sensorConfigStart c) = outer c := by
  unfold sensorConfigStart; split
  · rfl
  · exact (outer_enterConfiguring _ _ _).trans rfl

@[simp] theorem outer_streamStarted (w : ConfigWork) (c : Chip) :
    outer (streamStarted w c) = outer c := by
  first
  | rfl
  | (unfold streamStarted; simp; done)
  | (unfold streamStarted; (repeat' split) <;> first | rfl | (simp; done))
  | (unfold streamStarted; dsimp only; (repeat' split) <;> first | rfl | (simp; done))

@[simp] theorem outer_streamFailed (c : Chip) :
    outer (streamFailed c) = outer c := by
  first
  | rfl
  | (unfold streamFailed; simp; done)
  | (unfold streamFailed; (repeat' split) <;> first | rfl | (simp; done))
  | (unfold streamFailed; dsimp only; (repeat' split) <;> first | rfl | (simp; done))

@[simp] theorem outer_configWriteDone (acknowledged : Bool) (c : Chip) :
    outer (configWriteDone acknowledged c) = outer c := by
  first
  | rfl
  | (unfold configWriteDone; simp; done)
  | (unfold configWriteDone; (repeat' split) <;> first | rfl | (simp; done))
  | (unfold configWriteDone; dsimp only; (repeat' split) <;> first | rfl | (simp; done))

@[simp] theorem outer_beginReconfigure (c : Chip) :
    outer (beginReconfigure c) = outer c := by
  unfold beginReconfigure
  split
  · split
    · rfl
    · simp only [outer_enterConfiguring, outer_setPixel]
  · rfl

@[simp] theorem outer_sensorSettingsChanged (old new : SensorSettings) (c : Chip) :
    outer (sensorSettingsChanged old new c) = outer c := by
  first
  | rfl
  | (unfold sensorSettingsChanged; simp; done)
  | (unfold sensorSettingsChanged; (repeat' split) <;> first | rfl | (simp; done))
  | (unfold sensorSettingsChanged; dsimp only; (repeat' split) <;> first | rfl | (simp; done))

@[simp] theorem outer_handTriple (t : Triple) (c : Chip) :
    outer (handTriple t c) = outer c := by
  first
  | rfl
  | (unfold handTriple; simp; done)
  | (unfold handTriple; (repeat' split) <;> first | rfl | (simp; done))
  | (unfold handTriple; dsimp only; (repeat' split) <;> first | rfl | (simp; done))

@[simp] theorem outer_sensorWriteDone (c : Chip) :
    outer (sensorWriteDone c) = outer c := by
  first
  | rfl
  | (unfold sensorWriteDone; simp; done)
  | (unfold sensorWriteDone; (repeat' split) <;> first | rfl | (simp; done))
  | (unfold sensorWriteDone; dsimp only; (repeat' split) <;> first | rfl | (simp; done))

@[simp] theorem outer_stallTimeout (c : Chip) :
    outer (stallTimeout c) = outer c := by
  first
  | rfl
  | (unfold stallTimeout; simp; done)
  | (unfold stallTimeout; (repeat' split) <;> first | rfl | (simp; done))
  | (unfold stallTimeout; dsimp only; (repeat' split) <;> first | rfl | (simp; done))

@[simp] theorem outer_writeStreamOff (c : Chip) :
    outer (writeStreamOff c) = outer c := by
  first
  | rfl
  | (unfold writeStreamOff; simp; done)
  | (unfold writeStreamOff; (repeat' split) <;> first | rfl | (simp; done))
  | (unfold writeStreamOff; dsimp only; (repeat' split) <;> first | rfl | (simp; done))

@[simp] theorem outer_streamOffDone (c : Chip) :
    outer (streamOffDone c) = outer c := by
  first
  | rfl
  | (unfold streamOffDone; simp; done)
  | (unfold streamOffDone; (repeat' split) <;> first | rfl | (simp; done))
  | (unfold streamOffDone; dsimp only; (repeat' split) <;> first | rfl | (simp; done))

@[simp] theorem outer_followApplied (c : Chip) :
    outer (followApplied c) = outer c := by
  first
  | rfl
  | (unfold followApplied; simp; done)
  | (unfold followApplied; (repeat' split) <;> first | rfl | (simp; done))
  | (unfold followApplied; dsimp only; (repeat' split) <;> first | rfl | (simp; done))

@[simp] theorem outer_setExposure (f : Exposure → Exposure) (c : Chip) :
    outer (setExposure f c) = outer c := by
  first
  | rfl
  | (unfold setExposure; simp; done)
  | (unfold setExposure; (repeat' split) <;> first | rfl | (simp; done))
  | (unfold setExposure; dsimp only; (repeat' split) <;> first | rfl | (simp; done))

@[simp] theorem outer_handOverApplied (c : Chip) :
    outer (handOverApplied c) = outer c := by
  first
  | rfl
  | (unfold handOverApplied; simp; done)
  | (unfold handOverApplied; (repeat' split) <;> first | rfl | (simp; done))
  | (unfold handOverApplied; dsimp only; (repeat' split) <;> first | rfl | (simp; done))

@[simp] theorem outer_setWriteDue (c : Chip) :
    outer (setWriteDue c) = outer c := by
  first
  | rfl
  | (unfold setWriteDue; simp; done)
  | (unfold setWriteDue; (repeat' split) <;> first | rfl | (simp; done))
  | (unfold setWriteDue; dsimp only; (repeat' split) <;> first | rfl | (simp; done))

@[simp] theorem outer_resplit (c : Chip) :
    outer (resplit c).2 = outer c := by
  first
  | rfl
  | (unfold resplit; simp; done)
  | (unfold resplit; (repeat' split) <;> first | rfl | (simp; done))
  | (unfold resplit; dsimp only; (repeat' split) <;> first | rfl | (simp; done))

@[simp] theorem outer_applyBound (c : Chip) :
    outer (applyBound c) = outer c := by
  first
  | rfl
  | (unfold applyBound; simp; done)
  | (unfold applyBound; (repeat' split) <;> first | rfl | (simp; done))
  | (unfold applyBound; dsimp only; (repeat' split) <;> first | rfl | (simp; done))

@[simp] theorem outer_limitChange (c : Chip) :
    outer (limitChange c) = outer c := by
  first
  | rfl
  | (unfold limitChange; simp; done)
  | (unfold limitChange; (repeat' split) <;> first | rfl | (simp; done))
  | (unfold limitChange; dsimp only; (repeat' split) <;> first | rfl | (simp; done))

@[simp] theorem outer_lensDataChange (old : Exposure) (c : Chip) :
    outer (lensDataChange old c) = outer c := by
  first
  | rfl
  | (unfold lensDataChange; simp; done)
  | (unfold lensDataChange; (repeat' split) <;> first | rfl | (simp; done))
  | (unfold lensDataChange; dsimp only; (repeat' split) <;> first | rfl | (simp; done))

@[simp] theorem outer_readLensCopy (c : Chip) :
    outer (readLensCopy c) = outer c := by
  first
  | rfl
  | (unfold readLensCopy; simp; done)
  | (unfold readLensCopy; (repeat' split) <;> first | rfl | (simp; done))
  | (unfold readLensCopy; dsimp only; (repeat' split) <;> first | rfl | (simp; done))

@[simp] theorem outer_exposureCrossing (zone : Nat) (c : Chip) :
    outer (exposureCrossing zone c) = outer c := by
  first
  | rfl
  | (unfold exposureCrossing; simp; done)
  | (unfold exposureCrossing; (repeat' split) <;> first | rfl | (simp; done))
  | (unfold exposureCrossing; dsimp only; (repeat' split) <;> first | rfl | (simp; done))

@[simp] theorem outer_meteringStep (err : Int) (c : Chip) :
    outer (meteringStep err c) = outer c := by
  first
  | rfl
  | (unfold meteringStep; simp; done)
  | (unfold meteringStep; (repeat' split) <;> first | rfl | (simp; done))
  | (unfold meteringStep; dsimp only; (repeat' split) <;> first | rfl | (simp; done))

@[simp] theorem outer_meterFrame (f : OpenFrame) (means : List Nat) (c : Chip) :
    outer (meterFrame f means c) = outer c := by
  first
  | rfl
  | (unfold meterFrame; simp; done)
  | (unfold meterFrame; (repeat' split) <;> first | rfl | (simp; done))
  | (unfold meterFrame; dsimp only; (repeat' split) <;> first | rfl | (simp; done))

@[simp] theorem outer_exposureFrameStart (c : Chip) :
    outer (exposureFrameStart c) = outer c := by
  first
  | rfl
  | (unfold exposureFrameStart; simp; done)
  | (unfold exposureFrameStart; (repeat' split) <;> first | rfl | (simp; done))
  | (unfold exposureFrameStart; dsimp only; (repeat' split) <;> first | rfl | (simp; done))

@[simp] theorem outer_markGatheredExposure (c : Chip) :
    outer (markGatheredExposure c) = outer c := by
  first
  | rfl
  | (unfold markGatheredExposure; simp; done)
  | (unfold markGatheredExposure; (repeat' split) <;> first | rfl | (simp; done))
  | (unfold markGatheredExposure; dsimp only; (repeat' split) <;> first | rfl | (simp; done))

@[simp] theorem outer_takeAuto (compensation : Int) (c : Chip) :
    outer (takeAuto compensation c) = outer c := by
  first
  | rfl
  | (unfold takeAuto; simp; done)
  | (unfold takeAuto; (repeat' split) <;> first | rfl | (simp; done))
  | (unfold takeAuto; dsimp only; (repeat' split) <;> first | rfl | (simp; done))

@[simp] theorem outer_takeLock (c : Chip) :
    outer (takeLock c) = outer c := by
  first
  | rfl
  | (unfold takeLock; simp; done)
  | (unfold takeLock; (repeat' split) <;> first | rfl | (simp; done))
  | (unfold takeLock; dsimp only; (repeat' split) <;> first | rfl | (simp; done))

@[simp] theorem outer_takeManual (xt xg xa : Nat) (c : Chip) :
    outer (takeManual xt xg xa c) = outer c := by
  first
  | rfl
  | (unfold takeManual; simp; done)
  | (unfold takeManual; (repeat' split) <;> first | rfl | (simp; done))
  | (unfold takeManual; dsimp only; (repeat' split) <;> first | rfl | (simp; done))

@[simp] theorem outer_takeExposure (r : ExposureRequest) (c : Chip) :
    outer (takeExposure r c) = outer c := by
  first
  | rfl
  | (unfold takeExposure; simp; done)
  | (unfold takeExposure; (repeat' split) <;> first | rfl | (simp; done))
  | (unfold takeExposure; dsimp only; (repeat' split) <;> first | rfl | (simp; done))

@[simp] theorem outer_exposureHalfPress (c : Chip) :
    outer (exposureHalfPress c) = outer c := by
  first
  | rfl
  | (unfold exposureHalfPress; simp; done)
  | (unfold exposureHalfPress; (repeat' split) <;> first | rfl | (simp; done))
  | (unfold exposureHalfPress; dsimp only; (repeat' split) <;> first | rfl | (simp; done))

@[simp] theorem outer_exposureHalfPressEnd (c : Chip) :
    outer (exposureHalfPressEnd c) = outer c := by
  first
  | rfl
  | (unfold exposureHalfPressEnd; simp; done)
  | (unfold exposureHalfPressEnd; (repeat' split) <;> first | rfl | (simp; done))
  | (unfold exposureHalfPressEnd; dsimp only; (repeat' split) <;> first | rfl | (simp; done))

@[simp] theorem outer_searchHoldBegin (c : Chip) :
    outer (searchHoldBegin c) = outer c := by
  first
  | rfl
  | (unfold searchHoldBegin; simp; done)
  | (unfold searchHoldBegin; (repeat' split) <;> first | rfl | (simp; done))
  | (unfold searchHoldBegin; dsimp only; (repeat' split) <;> first | rfl | (simp; done))

@[simp] theorem outer_searchHoldEnd (c : Chip) :
    outer (searchHoldEnd c) = outer c := by
  first
  | rfl
  | (unfold searchHoldEnd; simp; done)
  | (unfold searchHoldEnd; (repeat' split) <;> first | rfl | (simp; done))
  | (unfold searchHoldEnd; dsimp only; (repeat' split) <;> first | rfl | (simp; done))

@[simp] theorem outer_exposureCredit (n : Nat) (c : Chip) :
    outer (exposureCredit n c) = outer c := by
  first
  | rfl
  | (unfold exposureCredit; simp; done)
  | (unfold exposureCredit; (repeat' split) <;> first | rfl | (simp; done))
  | (unfold exposureCredit; dsimp only; (repeat' split) <;> first | rfl | (simp; done))

@[simp] theorem outer_clearExposureFlags (c : Chip) :
    outer (clearExposureFlags c) = outer c := by
  first
  | rfl
  | (unfold clearExposureFlags; simp; done)
  | (unfold clearExposureFlags; (repeat' split) <;> first | rfl | (simp; done))
  | (unfold clearExposureFlags; dsimp only; (repeat' split) <;> first | rfl | (simp; done))

@[simp] theorem outer_sensorWriteLost (c : Chip) :
    outer (sensorWriteLost c) = outer c := by
  first
  | rfl
  | (unfold sensorWriteLost; simp; done)
  | (unfold sensorWriteLost; (repeat' split) <;> first | rfl | (simp; done))
  | (unfold sensorWriteLost; dsimp only; (repeat' split) <;> first | rfl | (simp; done))

@[simp] theorem outer_exposureStartState (c : Chip) :
    outer (exposureStartState c) = outer c := by
  first
  | rfl
  | (unfold exposureStartState; simp; done)
  | (unfold exposureStartState; (repeat' split) <;> first | rfl | (simp; done))
  | (unfold exposureStartState; dsimp only; (repeat' split) <;> first | rfl | (simp; done))

@[simp] theorem outer_exposureTimingChanged (c : Chip) :
    outer (exposureTimingChanged c) = outer c := by
  first
  | rfl
  | (unfold exposureTimingChanged; simp; done)
  | (unfold exposureTimingChanged; (repeat' split) <;> first | rfl | (simp; done))
  | (unfold exposureTimingChanged; dsimp only; (repeat' split) <;> first | rfl | (simp; done))

@[simp] theorem outer_exposureSettingsDone (old new : Settings) (c : Chip) :
    outer (exposureSettingsDone old new c) = outer c := by
  first
  | rfl
  | (unfold exposureSettingsDone; simp; done)
  | (unfold exposureSettingsDone; (repeat' split) <;> first | rfl | (simp; done))
  | (unfold exposureSettingsDone; dsimp only; (repeat' split) <;> first | rfl | (simp; done))

@[simp] theorem outer_stopExposure (c : Chip) :
    outer (stopExposure c) = outer c := by
  first
  | rfl
  | (unfold stopExposure; simp; done)
  | (unfold stopExposure; (repeat' split) <;> first | rfl | (simp; done))
  | (unfold stopExposure; dsimp only; (repeat' split) <;> first | rfl | (simp; done))

@[simp] theorem outer_setFlickerClass (k : FlickerClass) (c : Chip) :
    outer (setFlickerClass k c) = outer c := by
  first
  | rfl
  | (unfold setFlickerClass; simp; done)
  | (unfold setFlickerClass; (repeat' split) <;> first | rfl | (simp; done))
  | (unfold setFlickerClass; dsimp only; (repeat' split) <;> first | rfl | (simp; done))

@[simp] theorem outer_flickerTimeout (c : Chip) :
    outer (flickerTimeout c) = outer c := by
  first
  | rfl
  | (unfold flickerTimeout; simp; done)
  | (unfold flickerTimeout; (repeat' split) <;> first | rfl | (simp; done))
  | (unfold flickerTimeout; dsimp only; (repeat' split) <;> first | rfl | (simp; done))

@[simp] theorem outer_flickerSettingsDone (old new : FlickerSettings) (c : Chip) :
    outer (flickerSettingsDone old new c) = outer c := by
  first
  | rfl
  | (unfold flickerSettingsDone; simp; done)
  | (unfold flickerSettingsDone; (repeat' split) <;> first | rfl | (simp; done))
  | (unfold flickerSettingsDone; dsimp only; (repeat' split) <;> first | rfl | (simp; done))

@[simp] theorem outer_resetFlicker (c : Chip) :
    outer (resetFlicker c) = outer c := by
  first
  | rfl
  | (unfold resetFlicker; simp; done)
  | (unfold resetFlicker; (repeat' split) <;> first | rfl | (simp; done))
  | (unfold resetFlicker; dsimp only; (repeat' split) <;> first | rfl | (simp; done))

@[simp] theorem outer_markStab (c : Chip) :
    outer (markStab c) = outer c := by
  first
  | rfl
  | (unfold markStab; simp; done)
  | (unfold markStab; (repeat' split) <;> first | rfl | (simp; done))
  | (unfold markStab; dsimp only; (repeat' split) <;> first | rfl | (simp; done))

@[simp] theorem outer_setStab (f : Stab → Stab) (c : Chip) :
    outer (setStab f c) = outer c := by
  first
  | rfl
  | (unfold setStab; simp; done)
  | (unfold setStab; (repeat' split) <;> first | rfl | (simp; done))
  | (unfold setStab; dsimp only; (repeat' split) <;> first | rfl | (simp; done))

@[simp] theorem outer_markGatheredStab (c : Chip) :
    outer (markGatheredStab c) = outer c := by
  first
  | rfl
  | (unfold markGatheredStab; simp; done)
  | (unfold markGatheredStab; (repeat' split) <;> first | rfl | (simp; done))
  | (unfold markGatheredStab; dsimp only; (repeat' split) <;> first | rfl | (simp; done))

@[simp] theorem outer_handCredit (c : Chip) :
    outer (handCredit c) = outer c := by
  first
  | rfl
  | (unfold handCredit; simp; done)
  | (unfold handCredit; (repeat' split) <;> first | rfl | (simp; done))
  | (unfold handCredit; dsimp only; (repeat' split) <;> first | rfl | (simp; done))

@[simp] theorem outer_setMode (m : StabMode) (c : Chip) :
    outer (setMode m c) = outer c := by
  first
  | rfl
  | (unfold setMode; simp; done)
  | (unfold setMode; (repeat' split) <;> first | rfl | (simp; done))
  | (unfold setMode; dsimp only; (repeat' split) <;> first | rfl | (simp; done))

@[simp] theorem outer_followWanted (c : Chip) :
    outer (followWanted c) = outer c := by
  first
  | rfl
  | (unfold followWanted; simp; done)
  | (unfold followWanted; (repeat' split) <;> first | rfl | (simp; done))
  | (unfold followWanted; dsimp only; (repeat' split) <;> first | rfl | (simp; done))

@[simp] theorem outer_captureEngaged (c : Chip) :
    outer (captureEngaged c) = outer c := by
  first
  | rfl
  | (unfold captureEngaged; simp; done)
  | (unfold captureEngaged; (repeat' split) <;> first | rfl | (simp; done))
  | (unfold captureEngaged; dsimp only; (repeat' split) <;> first | rfl | (simp; done))

@[simp] theorem outer_captureReleased (c : Chip) :
    outer (captureReleased c) = outer c := by
  first
  | rfl
  | (unfold captureReleased; simp; done)
  | (unfold captureReleased; (repeat' split) <;> first | rfl | (simp; done))
  | (unfold captureReleased; dsimp only; (repeat' split) <;> first | rfl | (simp; done))

@[simp] theorem outer_gyroRunning (c : Chip) :
    outer (gyroRunning c) = outer c := by
  first
  | rfl
  | (unfold gyroRunning; simp; done)
  | (unfold gyroRunning; (repeat' split) <;> first | rfl | (simp; done))
  | (unfold gyroRunning; dsimp only; (repeat' split) <;> first | rfl | (simp; done))

@[simp] theorem outer_gyroStart (c : Chip) :
    outer (gyroStart c) = outer c := by
  first
  | rfl
  | (unfold gyroStart; simp; done)
  | (unfold gyroStart; (repeat' split) <;> first | rfl | (simp; done))
  | (unfold gyroStart; dsimp only; (repeat' split) <;> first | rfl | (simp; done))

@[simp] theorem outer_gyroConfigWriteDone (c : Chip) :
    outer (gyroConfigWriteDone c) = outer c := by
  first
  | rfl
  | (unfold gyroConfigWriteDone; simp; done)
  | (unfold gyroConfigWriteDone; (repeat' split) <;> first | rfl | (simp; done))
  | (unfold gyroConfigWriteDone; dsimp only; (repeat' split) <;> first | rfl | (simp; done))

@[simp] theorem outer_gyroDataReady (c : Chip) :
    outer (gyroDataReady c) = outer c := by
  first
  | rfl
  | (unfold gyroDataReady; simp; done)
  | (unfold gyroDataReady; (repeat' split) <;> first | rfl | (simp; done))
  | (unfold gyroDataReady; dsimp only; (repeat' split) <;> first | rfl | (simp; done))

@[simp] theorem outer_gyroLost (c : Chip) :
    outer (gyroLost c) = outer c := by
  first
  | rfl
  | (unfold gyroLost; simp; done)
  | (unfold gyroLost; (repeat' split) <;> first | rfl | (simp; done))
  | (unfold gyroLost; dsimp only; (repeat' split) <;> first | rfl | (simp; done))

@[simp] theorem outer_gyroStop (c : Chip) :
    outer (gyroStop c) = outer c := by
  first
  | rfl
  | (unfold gyroStop; simp; done)
  | (unfold gyroStop; (repeat' split) <;> first | rfl | (simp; done))
  | (unfold gyroStop; dsimp only; (repeat' split) <;> first | rfl | (simp; done))

@[simp] theorem outer_gyroStopWriteDone (c : Chip) :
    outer (gyroStopWriteDone c) = outer c := by
  first
  | rfl
  | (unfold gyroStopWriteDone; simp; done)
  | (unfold gyroStopWriteDone; (repeat' split) <;> first | rfl | (simp; done))
  | (unfold gyroStopWriteDone; dsimp only; (repeat' split) <;> first | rfl | (simp; done))

@[simp] theorem outer_panChange (m : Option StabMode) (c : Chip) :
    outer (panChange m c) = outer c := by
  first
  | rfl
  | (unfold panChange; simp; done)
  | (unfold panChange; (repeat' split) <;> first | rfl | (simp; done))
  | (unfold panChange; dsimp only; (repeat' split) <;> first | rfl | (simp; done))

@[simp] theorem outer_shakeCheck (c : Chip) :
    outer (shakeCheck c) = outer c := by
  first
  | rfl
  | (unfold shakeCheck; simp; done)
  | (unfold shakeCheck; (repeat' split) <;> first | rfl | (simp; done))
  | (unfold shakeCheck; dsimp only; (repeat' split) <;> first | rfl | (simp; done))

@[simp] theorem outer_takeSample (rateX rateY : Int) (c : Chip) :
    outer (takeSample rateX rateY c) = outer c := by
  first
  | rfl
  | (unfold takeSample; simp; done)
  | (unfold takeSample; (repeat' split) <;> first | rfl | (simp; done))
  | (unfold takeSample; dsimp only; (repeat' split) <;> first | rfl | (simp; done))

@[simp] theorem outer_gyroSample (rateX rateY : Int) (c : Chip) :
    outer (gyroSample rateX rateY c) = outer c := by
  first
  | rfl
  | (unfold gyroSample; simp; done)
  | (unfold gyroSample; (repeat' split) <;> first | rfl | (simp; done))
  | (unfold gyroSample; dsimp only; (repeat' split) <;> first | rfl | (simp; done))

@[simp] theorem outer_learnTimer (c : Chip) :
    outer (learnTimer c) = outer c := by
  first
  | rfl
  | (unfold learnTimer; simp; done)
  | (unfold learnTimer; (repeat' split) <;> first | rfl | (simp; done))
  | (unfold learnTimer; dsimp only; (repeat' split) <;> first | rfl | (simp; done))

@[simp] theorem outer_rampTimer (c : Chip) :
    outer (rampTimer c) = outer c := by
  first
  | rfl
  | (unfold rampTimer; simp; done)
  | (unfold rampTimer; (repeat' split) <;> first | rfl | (simp; done))
  | (unfold rampTimer; dsimp only; (repeat' split) <;> first | rfl | (simp; done))

@[simp] theorem outer_openWindow (c : Chip) :
    outer (openWindow c) = outer c := by
  first
  | rfl
  | (unfold openWindow; simp; done)
  | (unfold openWindow; (repeat' split) <;> first | rfl | (simp; done))
  | (unfold openWindow; dsimp only; (repeat' split) <;> first | rfl | (simp; done))

@[simp] theorem outer_closeWindow (c : Chip) :
    outer (closeWindow c) = outer c := by
  first
  | rfl
  | (unfold closeWindow; simp; done)
  | (unfold closeWindow; (repeat' split) <;> first | rfl | (simp; done))
  | (unfold closeWindow; dsimp only; (repeat' split) <;> first | rfl | (simp; done))

@[simp] theorem outer_readGains (c : Chip) :
    outer (readGains c) = outer c := by
  first
  | rfl
  | (unfold readGains; simp; done)
  | (unfold readGains; (repeat' split) <;> first | rfl | (simp; done))
  | (unfold readGains; dsimp only; (repeat' split) <;> first | rfl | (simp; done))

@[simp] theorem outer_stabCrossing (zone : Nat) (c : Chip) :
    outer (stabCrossing zone c) = outer c := by
  first
  | rfl
  | (unfold stabCrossing; simp; done)
  | (unfold stabCrossing; (repeat' split) <;> first | rfl | (simp; done))
  | (unfold stabCrossing; dsimp only; (repeat' split) <;> first | rfl | (simp; done))

@[simp] theorem outer_serviceRestartStabilizer (c : Chip) :
    outer (serviceRestartStabilizer c) = outer c := by
  first
  | rfl
  | (unfold serviceRestartStabilizer; simp; done)
  | (unfold serviceRestartStabilizer; (repeat' split) <;> first | rfl | (simp; done))
  | (unfold serviceRestartStabilizer; dsimp only; (repeat' split) <;> first | rfl | (simp; done))

@[simp] theorem outer_clearShake (c : Chip) :
    outer (clearShake c) = outer c := by
  first
  | rfl
  | (unfold clearShake; simp; done)
  | (unfold clearShake; (repeat' split) <;> first | rfl | (simp; done))
  | (unfold clearShake; dsimp only; (repeat' split) <;> first | rfl | (simp; done))

@[simp] theorem outer_stabSettingsDone (old new : StabSettings) (c : Chip) :
    outer (stabSettingsDone old new c) = outer c := by
  first
  | rfl
  | (unfold stabSettingsDone; simp; done)
  | (unfold stabSettingsDone; (repeat' split) <;> first | rfl | (simp; done))
  | (unfold stabSettingsDone; dsimp only; (repeat' split) <;> first | rfl | (simp; done))

@[simp] theorem outer_stopStab (c : Chip) :
    outer (stopStab c) = outer c := by
  first
  | rfl
  | (unfold stopStab; simp; done)
  | (unfold stopStab; (repeat' split) <;> first | rfl | (simp; done))
  | (unfold stopStab; dsimp only; (repeat' split) <;> first | rfl | (simp; done))

@[simp] theorem outer_setCapture (f : Capture → Capture) (c : Chip) :
    outer (setCapture f c) = outer c := by
  first
  | rfl
  | (unfold setCapture; simp; done)
  | (unfold setCapture; (repeat' split) <;> first | rfl | (simp; done))
  | (unfold setCapture; dsimp only; (repeat' split) <;> first | rfl | (simp; done))

@[simp] theorem outer_setBurst (f : Burst → Burst) (c : Chip) :
    outer (setBurst f c) = outer c := by
  first
  | rfl
  | (unfold setBurst; simp; done)
  | (unfold setBurst; (repeat' split) <;> first | rfl | (simp; done))
  | (unfold setBurst; dsimp only; (repeat' split) <;> first | rfl | (simp; done))

@[simp] theorem outer_applyFreeing (n : Nat) (c : Chip) :
    outer (applyFreeing n c) = outer c := by
  first
  | rfl
  | (unfold applyFreeing; simp; done)
  | (unfold applyFreeing; (repeat' split) <;> first | rfl | (simp; done))
  | (unfold applyFreeing; dsimp only; (repeat' split) <;> first | rfl | (simp; done))

@[simp] theorem outer_applyFreeingFrom (i n : Nat) (c : Chip) : outer (applyFreeingFrom i n c) = outer c := by
  induction n generalizing i c with
  | zero => rfl
  | succ n ih => simp [applyFreeingFrom, ih]

@[simp] theorem outer_releaseCountsRead (counts : List Half) (c : Chip) :
    outer (releaseCountsRead counts c) = outer c := by
  first
  | rfl
  | (unfold releaseCountsRead; simp; done)
  | (unfold releaseCountsRead; (repeat' split) <;> first | rfl | (simp; done))
  | (unfold releaseCountsRead; dsimp only; (repeat' split) <;> first | rfl | (simp; done))

@[simp] theorem outer_enterWaitFrame (unconfirmed : Bool) (c : Chip) :
    outer (enterWaitFrame unconfirmed c) = outer c := by
  first
  | rfl
  | (unfold enterWaitFrame; simp; done)
  | (unfold enterWaitFrame; (repeat' split) <;> first | rfl | (simp; done))
  | (unfold enterWaitFrame; dsimp only; (repeat' split) <;> first | rfl | (simp; done))

@[simp] theorem outer_leaveBurst (c : Chip) :
    outer (leaveBurst c) = outer c := by
  first
  | rfl
  | (unfold leaveBurst; simp; done)
  | (unfold leaveBurst; (repeat' split) <;> first | rfl | (simp; done))
  | (unfold leaveBurst; dsimp only; (repeat' split) <;> first | rfl | (simp; done))

@[simp] theorem outer_spendPress (c : Chip) :
    outer (spendPress c) = outer c := by
  first
  | rfl
  | (unfold spendPress; simp; done)
  | (unfold spendPress; (repeat' split) <;> first | rfl | (simp; done))
  | (unfold spendPress; dsimp only; (repeat' split) <;> first | rfl | (simp; done))

@[simp] theorem outer_endBurstByCount (c : Chip) :
    outer (endBurstByCount c) = outer c := by
  first
  | rfl
  | (unfold endBurstByCount; simp; done)
  | (unfold endBurstByCount; (repeat' split) <;> first | rfl | (simp; done))
  | (unfold endBurstByCount; dsimp only; (repeat' split) <;> first | rfl | (simp; done))

@[simp] theorem outer_afterPicture (c : Chip) :
    outer (afterPicture c) = outer c := by
  first
  | rfl
  | (unfold afterPicture; simp; done)
  | (unfold afterPicture; (repeat' split) <;> first | rfl | (simp; done))
  | (unfold afterPicture; dsimp only; (repeat' split) <;> first | rfl | (simp; done))

@[simp] theorem outer_captureStreamFault (c : Chip) :
    outer (captureStreamFault c) = outer c := by
  first
  | rfl
  | (unfold captureStreamFault; simp; done)
  | (unfold captureStreamFault; (repeat' split) <;> first | rfl | (simp; done))
  | (unfold captureStreamFault; dsimp only; (repeat' split) <;> first | rfl | (simp; done))

@[simp] theorem outer_abandonSearch (c : Chip) :
    outer (abandonSearch c) = outer c := by
  first
  | rfl
  | (unfold abandonSearch; simp; done)
  | (unfold abandonSearch; (repeat' split) <;> first | rfl | (simp; done))
  | (unfold abandonSearch; dsimp only; (repeat' split) <;> first | rfl | (simp; done))

@[simp] theorem outer_waitZoomCheck (c : Chip) :
    outer (waitZoomCheck c) = outer c := by
  first
  | rfl
  | (unfold waitZoomCheck; simp; done)
  | (unfold waitZoomCheck; (repeat' split) <;> first | rfl | (simp; done))
  | (unfold waitZoomCheck; dsimp only; (repeat' split) <;> first | rfl | (simp; done))

@[simp] theorem outer_beginBurst (c : Chip) :
    outer (beginBurst c) = outer c := by
  first
  | rfl
  | (unfold beginBurst; simp; done)
  | (unfold beginBurst; (repeat' split) <;> first | rfl | (simp; done))
  | (unfold beginBurst; dsimp only; (repeat' split) <;> first | rfl | (simp; done))

@[simp] theorem outer_captureSearchOver (confirmed : Bool) (c : Chip) :
    outer (captureSearchOver confirmed c) = outer c := by
  first
  | rfl
  | (unfold captureSearchOver; simp; done)
  | (unfold captureSearchOver; (repeat' split) <;> first | rfl | (simp; done))
  | (unfold captureSearchOver; dsimp only; (repeat' split) <;> first | rfl | (simp; done))

@[simp] theorem outer_focusWaitTimer (c : Chip) :
    outer (focusWaitTimer c) = outer c := by
  first
  | rfl
  | (unfold focusWaitTimer; simp; done)
  | (unfold focusWaitTimer; (repeat' split) <;> first | rfl | (simp; done))
  | (unfold focusWaitTimer; dsimp only; (repeat' split) <;> first | rfl | (simp; done))

@[simp] theorem outer_evalPress (wasHalf wasFull : Bool) (c : Chip) :
    outer (evalPress wasHalf wasFull c) = outer c := by
  first
  | rfl
  | (unfold evalPress; simp; done)
  | (unfold evalPress; (repeat' split) <;> first | rfl | (simp; done))
  | (unfold evalPress; dsimp only; (repeat' split) <;> first | rfl | (simp; done))

@[simp] theorem outer_changePress (f : Capture → Capture) (c : Chip) :
    outer (changePress f c) = outer c := by
  first
  | rfl
  | (unfold changePress; simp; done)
  | (unfold changePress; (repeat' split) <;> first | rfl | (simp; done))
  | (unfold changePress; dsimp only; (repeat' split) <;> first | rfl | (simp; done))

@[simp] theorem outer_takeLevel (b : Button) (c : Chip) :
    outer (takeLevel b c) = outer c := by
  first
  | rfl
  | (unfold takeLevel; simp; done)
  | (unfold takeLevel; (repeat' split) <;> first | rfl | (simp; done))
  | (unfold takeLevel; dsimp only; (repeat' split) <;> first | rfl | (simp; done))

@[simp] theorem outer_buttonChange (b : Button) (pressed : Bool) (c : Chip) :
    outer (buttonChange b pressed c) = outer c := by
  first
  | rfl
  | (unfold buttonChange; simp; done)
  | (unfold buttonChange; (repeat' split) <;> first | rfl | (simp; done))
  | (unfold buttonChange; dsimp only; (repeat' split) <;> first | rfl | (simp; done))

@[simp] theorem outer_qualificationTimer (b : Button) (c : Chip) :
    outer (qualificationTimer b c) = outer c := by
  first
  | rfl
  | (unfold qualificationTimer; simp; done)
  | (unfold qualificationTimer; (repeat' split) <;> first | rfl | (simp; done))
  | (unfold qualificationTimer; dsimp only; (repeat' split) <;> first | rfl | (simp; done))

@[simp] theorem outer_refuseCapture (d : Detail) (c : Chip) :
    outer (refuseCapture d c) = outer c := by
  first
  | rfl
  | (unfold refuseCapture; simp; done)
  | (unfold refuseCapture; (repeat' split) <;> first | rfl | (simp; done))
  | (unfold refuseCapture; dsimp only; (repeat' split) <;> first | rfl | (simp; done))

@[simp] theorem outer_takePrepare (c : Chip) :
    outer (takePrepare c) = outer c := by
  first
  | rfl
  | (unfold takePrepare; simp; done)
  | (unfold takePrepare; (repeat' split) <;> first | rfl | (simp; done))
  | (unfold takePrepare; dsimp only; (repeat' split) <;> first | rfl | (simp; done))

@[simp] theorem outer_takeStartBurst (n : Nat) (c : Chip) :
    outer (takeStartBurst n c) = outer c := by
  first
  | rfl
  | (unfold takeStartBurst; simp; done)
  | (unfold takeStartBurst; (repeat' split) <;> first | rfl | (simp; done))
  | (unfold takeStartBurst; dsimp only; (repeat' split) <;> first | rfl | (simp; done))

@[simp] theorem outer_takeCaptureStop (c : Chip) :
    outer (takeCaptureStop c) = outer c := by
  first
  | rfl
  | (unfold takeCaptureStop; simp; done)
  | (unfold takeCaptureStop; (repeat' split) <;> first | rfl | (simp; done))
  | (unfold takeCaptureStop; dsimp only; (repeat' split) <;> first | rfl | (simp; done))

@[simp] theorem outer_takeCapture (r : CaptureRequest) (c : Chip) :
    outer (takeCapture r c) = outer c := by
  first
  | rfl
  | (unfold takeCapture; simp; done)
  | (unfold takeCapture; (repeat' split) <;> first | rfl | (simp; done))
  | (unfold takeCapture; dsimp only; (repeat' split) <;> first | rfl | (simp; done))

@[simp] theorem outer_claim (n : Nat) (time : Nat) (frame : Word) (effective : Option Triple) (c : Chip) :
    outer (claim n time frame effective c) = outer c := by
  first
  | rfl
  | (unfold claim; simp; done)
  | (unfold claim; (repeat' split) <;> first | rfl | (simp; done))
  | (unfold claim; dsimp only; (repeat' split) <;> first | rfl | (simp; done))

@[simp] theorem outer_captureFrameStart (time : Nat) (frame : Word) (effective : Option Triple) (c0 : Chip) :
    outer (captureFrameStart time frame effective c0) = outer c0 := by
  first
  | rfl
  | (unfold captureFrameStart; simp; done)
  | (unfold captureFrameStart; (repeat' split) <;> first | rfl | (simp; done))
  | (unfold captureFrameStart; dsimp only; (repeat' split) <;> first | rfl | (simp; done))

@[simp] theorem outer_joinQueue (n : Nat) (c : Chip) :
    outer (joinQueue n c) = outer c := by
  first
  | rfl
  | (unfold joinQueue; simp; done)
  | (unfold joinQueue; (repeat' split) <;> first | rfl | (simp; done))
  | (unfold joinQueue; dsimp only; (repeat' split) <;> first | rfl | (simp; done))

@[simp] theorem outer_completePicture (n : Nat) (bytes : Nat) (c : Chip) :
    outer (completePicture n bytes c) = outer c := by
  first
  | rfl
  | (unfold completePicture; simp; done)
  | (unfold completePicture; (repeat' split) <;> first | rfl | (simp; done))
  | (unfold completePicture; dsimp only; (repeat' split) <;> first | rfl | (simp; done))

@[simp] theorem outer_failPicture (n : Nat) (d : Detail) (c : Chip) :
    outer (failPicture n d c) = outer c := by
  first
  | rfl
  | (unfold failPicture; simp; done)
  | (unfold failPicture; (repeat' split) <;> first | rfl | (simp; done))
  | (unfold failPicture; dsimp only; (repeat' split) <;> first | rfl | (simp; done))

@[simp] theorem outer_abandonPicture (c : Chip) :
    outer (abandonPicture c) = outer c := by
  first
  | rfl
  | (unfold abandonPicture; simp; done)
  | (unfold abandonPicture; (repeat' split) <;> first | rfl | (simp; done))
  | (unfold abandonPicture; dsimp only; (repeat' split) <;> first | rfl | (simp; done))

@[simp] theorem outer_stopCapture (c : Chip) :
    outer (stopCapture c) = outer c := by
  first
  | rfl
  | (unfold stopCapture; simp; done)
  | (unfold stopCapture; (repeat' split) <;> first | rfl | (simp; done))
  | (unfold stopCapture; dsimp only; (repeat' split) <;> first | rfl | (simp; done))

@[simp] theorem outer_markStore (c c1 : Chip) :
    outer (markStore c c1) = outer c1 := by
  first
  | rfl
  | (unfold markStore; simp; done)
  | (unfold markStore; (repeat' split) <;> first | rfl | (simp; done))
  | (unfold markStore; dsimp only; (repeat' split) <;> first | rfl | (simp; done))

@[simp] theorem outer_setStore (f : Store → Store) (c : Chip) :
    outer (setStore f c) = outer c := by
  first
  | rfl
  | (unfold setStore; simp; done)
  | (unfold setStore; (repeat' split) <;> first | rfl | (simp; done))
  | (unfold setStore; dsimp only; (repeat' split) <;> first | rfl | (simp; done))

@[simp] theorem outer_setCard (f : Card → Card) (c : Chip) :
    outer (setCard f c) = outer c := by
  first
  | rfl
  | (unfold setCard; simp; done)
  | (unfold setCard; (repeat' split) <;> first | rfl | (simp; done))
  | (unfold setCard; dsimp only; (repeat' split) <;> first | rfl | (simp; done))

@[simp] theorem outer_setPicture (p : Option PictureWork) (c : Chip) :
    outer (setPicture p c) = outer c := by
  first
  | rfl
  | (unfold setPicture; simp; done)
  | (unfold setPicture; (repeat' split) <;> first | rfl | (simp; done))
  | (unfold setPicture; dsimp only; (repeat' split) <;> first | rfl | (simp; done))

@[simp] theorem outer_setOrder (o : Option OrderWork) (c : Chip) :
    outer (setOrder o c) = outer c := by
  first
  | rfl
  | (unfold setOrder; simp; done)
  | (unfold setOrder; (repeat' split) <;> first | rfl | (simp; done))
  | (unfold setOrder; dsimp only; (repeat' split) <;> first | rfl | (simp; done))

@[simp] theorem outer_enterCard (k : CardState) (f : Card → Card) (c : Chip) :
    outer (enterCard k f c) = outer c := by
  first
  | rfl
  | (unfold enterCard; simp; done)
  | (unfold enterCard; (repeat' split) <;> first | rfl | (simp; done))
  | (unfold enterCard; dsimp only; (repeat' split) <;> first | rfl | (simp; done))

@[simp] theorem outer_closeExtent (c : Chip) :
    outer (closeExtent c) = outer c := by
  first
  | rfl
  | (unfold closeExtent; simp; done)
  | (unfold closeExtent; (repeat' split) <;> first | rfl | (simp; done))
  | (unfold closeExtent; dsimp only; (repeat' split) <;> first | rfl | (simp; done))

@[simp] theorem outer_evalStore (c : Chip) :
    outer (evalStore c) = outer c := by
  first
  | rfl
  | (unfold evalStore; simp; done)
  | (unfold evalStore; (repeat' split) <;> first | rfl | (simp; done))
  | (unfold evalStore; dsimp only; (repeat' split) <;> first | rfl | (simp; done))

@[simp] theorem outer_clearPicture (c : Chip) :
    outer (clearPicture c) = outer c := by
  first
  | rfl
  | (unfold clearPicture; simp; done)
  | (unfold clearPicture; (repeat' split) <;> first | rfl | (simp; done))
  | (unfold clearPicture; dsimp only; (repeat' split) <;> first | rfl | (simp; done))

@[simp] theorem outer_endPicture (n : Nat) (f : PictureRecord → PictureRecord) (c : Chip) :
    outer (endPicture n f c) = outer c := by
  first
  | rfl
  | (unfold endPicture; simp; done)
  | (unfold endPicture; (repeat' split) <;> first | rfl | (simp; done))
  | (unfold endPicture; dsimp only; (repeat' split) <;> first | rfl | (simp; done))

@[simp] theorem outer_pictureStored (n : Nat) (c : Chip) :
    outer (pictureStored n c) = outer c := by
  first
  | rfl
  | (unfold pictureStored; simp; done)
  | (unfold pictureStored; (repeat' split) <;> first | rfl | (simp; done))
  | (unfold pictureStored; dsimp only; (repeat' split) <;> first | rfl | (simp; done))

@[simp] theorem outer_pictureFailed (n : Nat) (d : Detail) (c : Chip) :
    outer (pictureFailed n d c) = outer c := by
  first
  | rfl
  | (unfold pictureFailed; simp; done)
  | (unfold pictureFailed; (repeat' split) <;> first | rfl | (simp; done))
  | (unfold pictureFailed; dsimp only; (repeat' split) <;> first | rfl | (simp; done))

@[simp] theorem outer_requeuePicture (c : Chip) :
    outer (requeuePicture c) = outer c := by
  first
  | rfl
  | (unfold requeuePicture; simp; done)
  | (unfold requeuePicture; (repeat' split) <;> first | rfl | (simp; done))
  | (unfold requeuePicture; dsimp only; (repeat' split) <;> first | rfl | (simp; done))

@[simp] theorem outer_endOrder (o : ReqOutcome) (d : Detail) (c : Chip) :
    outer (endOrder o d c) = outer c := by
  first
  | rfl
  | (unfold endOrder; simp; done)
  | (unfold endOrder; (repeat' split) <;> first | rfl | (simp; done))
  | (unfold endOrder; dsimp only; (repeat' split) <;> first | rfl | (simp; done))

@[simp] theorem outer_cardFault (d : Detail) (c : Chip) :
    outer (cardFault d c) = outer c := by
  first
  | rfl
  | (unfold cardFault; simp; done)
  | (unfold cardFault; (repeat' split) <;> first | rfl | (simp; done))
  | (unfold cardFault; dsimp only; (repeat' split) <;> first | rfl | (simp; done))

@[simp] theorem outer_beginInit (c : Chip) :
    outer (beginInit c) = outer c := by
  first
  | rfl
  | (unfold beginInit; simp; done)
  | (unfold beginInit; (repeat' split) <;> first | rfl | (simp; done))
  | (unfold beginInit; dsimp only; (repeat' split) <;> first | rfl | (simp; done))

@[simp] theorem outer_serviceRestartCard (c : Chip) :
    outer (serviceRestartCard c) = outer c := by
  first
  | rfl
  | (unfold serviceRestartCard; simp; done)
  | (unfold serviceRestartCard; (repeat' split) <;> first | rfl | (simp; done))
  | (unfold serviceRestartCard; dsimp only; (repeat' split) <;> first | rfl | (simp; done))

@[simp] theorem outer_holdOrderToCapacity (o : OrderWork) (c : Chip) :
    outer (holdOrderToCapacity o c) = outer c := by
  first
  | rfl
  | (unfold holdOrderToCapacity; simp; done)
  | (unfold holdOrderToCapacity; (repeat' split) <;> first | rfl | (simp; done))
  | (unfold holdOrderToCapacity; dsimp only; (repeat' split) <;> first | rfl | (simp; done))

@[simp] theorem outer_cardReady (c : Chip) :
    outer (cardReady c) = outer c := by
  first
  | rfl
  | (unfold cardReady; simp; done)
  | (unfold cardReady; (repeat' split) <;> first | rfl | (simp; done))
  | (unfold cardReady; dsimp only; (repeat' split) <;> first | rfl | (simp; done))

@[simp] theorem outer_cardRemoved (c : Chip) :
    outer (cardRemoved c) = outer c := by
  first
  | rfl
  | (unfold cardRemoved; simp; done)
  | (unfold cardRemoved; (repeat' split) <;> first | rfl | (simp; done))
  | (unfold cardRemoved; dsimp only; (repeat' split) <;> first | rfl | (simp; done))

@[simp] theorem outer_cardDetChange (level : Bool) (c : Chip) :
    outer (cardDetChange level c) = outer c := by
  first
  | rfl
  | (unfold cardDetChange; simp; done)
  | (unfold cardDetChange; (repeat' split) <;> first | rfl | (simp; done))
  | (unfold cardDetChange; dsimp only; (repeat' split) <;> first | rfl | (simp; done))

@[simp] theorem outer_cardDetTimer (c : Chip) :
    outer (cardDetTimer c) = outer c := by
  first
  | rfl
  | (unfold cardDetTimer; simp; done)
  | (unfold cardDetTimer; (repeat' split) <;> first | rfl | (simp; done))
  | (unfold cardDetTimer; dsimp only; (repeat' split) <;> first | rfl | (simp; done))

theorem outer_byCardState (r : RecordId) (q : Request) (take : Nat → Chip → Chip)
    (h : ∀ n c, outer (take n c) = outer c) (c : Chip) : outer (byCardState r q take c) = outer c := by
  unfold byCardState; split <;> simp [h]

@[simp] theorem outer_finishGrant (rec : RecordId) (r : Nat) (c : Chip) :
    outer (finishGrant rec r c) = outer c := by
  first
  | rfl
  | (unfold finishGrant; simp; done)
  | (unfold finishGrant; (repeat' split) <;> first | rfl | (simp; done))
  | (unfold finishGrant; dsimp only; (repeat' split) <;> first | rfl | (simp; done))

@[simp] theorem outer_takeSpace (start count : Nat) (c : Chip) :
    outer (takeSpace start count c) = outer c := by
  unfold takeSpace; apply outer_byCardState; intro n d; simp

@[simp] theorem outer_takeSpare (start count : Nat) (c : Chip) :
    outer (takeSpare start count c) = outer c := by
  unfold takeSpare; apply outer_byCardState; intro n d; simp

@[simp] theorem outer_takeCardOrder (write : Bool) (count sector address : Nat) (c : Chip) :
    outer (takeCardOrder write count sector address c) = outer c := by
  first
  | rfl
  | (unfold takeCardOrder; simp; done)
  | (unfold takeCardOrder; (repeat' split) <;> first | rfl | (simp; done))
  | (unfold takeCardOrder; dsimp only; (repeat' split) <;> first | rfl | (simp; done))

@[simp] theorem outer_beginPicture (c : Chip) :
    outer (beginPicture c) = outer c := by
  first
  | rfl
  | (unfold beginPicture; simp; done)
  | (unfold beginPicture; (repeat' split) <;> first | rfl | (simp; done))
  | (unfold beginPicture; dsimp only; (repeat' split) <;> first | rfl | (simp; done))

theorem outer_allocateRun (p : PictureWork) (c : Chip) (r : PlannedRun × Chip) (h : allocateRun p c = some r) :
    outer r.2 = outer c := by
  unfold allocateRun at h; dsimp only at h; split at h <;> simp at h; subst h; simp

@[simp] theorem outer_beginRun (k : RunKind) (write : Bool) (plan : PlannedRun) (address : Nat) (header : List Byte) (c : Chip) :
    outer (beginRun k write plan address header c) = outer c := by
  first
  | rfl
  | (unfold beginRun; simp; done)
  | (unfold beginRun; (repeat' split) <;> first | rfl | (simp; done))
  | (unfold beginRun; dsimp only; (repeat' split) <;> first | rfl | (simp; done))

@[simp] theorem outer_beginPictureRun (p : PictureWork) (plan : PlannedRun) (c : Chip) :
    outer (beginPictureRun p plan c) = outer c := by
  first
  | rfl
  | (unfold beginPictureRun; simp; done)
  | (unfold beginPictureRun; (repeat' split) <;> first | rfl | (simp; done))
  | (unfold beginPictureRun; dsimp only; (repeat' split) <;> first | rfl | (simp; done))

@[simp] theorem outer_choosePictureRun (c : Chip) :
    outer (choosePictureRun c) = outer c := by
  unfold choosePictureRun; split
  · rfl
  · split
    · simp
    · split
      · rename_i h; rw [outer_beginPictureRun]; exact outer_allocateRun _ _ _ h
      · simp

@[simp] theorem outer_chooseOrderRun (c : Chip) :
    outer (chooseOrderRun c) = outer c := by
  first
  | rfl
  | (unfold chooseOrderRun; simp; done)
  | (unfold chooseOrderRun; (repeat' split) <;> first | rfl | (simp; done))
  | (unfold chooseOrderRun; dsimp only; (repeat' split) <;> first | rfl | (simp; done))

@[simp] theorem outer_chooseRun (c : Chip) :
    outer (chooseRun c) = outer c := by
  first
  | rfl
  | (unfold chooseRun; simp; done)
  | (unfold chooseRun; (repeat' split) <;> first | rfl | (simp; done))
  | (unfold chooseRun; dsimp only; (repeat' split) <;> first | rfl | (simp; done))

@[simp] theorem outer_cardWork (c : Chip) :
    outer (cardWork c) = outer c := by
  first
  | rfl
  | (unfold cardWork; simp; done)
  | (unfold cardWork; (repeat' split) <;> first | rfl | (simp; done))
  | (unfold cardWork; dsimp only; (repeat' split) <;> first | rfl | (simp; done))

theorem outer_runFailure (r : Run) (again : PlannedRun → Chip → Chip)
    (h : ∀ p c, outer (again p c) = outer c) (c : Chip) : outer (runFailure r again c) = outer c := by
  unfold runFailure; dsimp only; split <;> simp [h]

@[simp] theorem outer_remapRun (p : PictureWork) (r : Run) (i : Nat) (c : Chip) :
    outer (remapRun p r i c) = outer c := by
  unfold remapRun; dsimp only; (repeat' split) <;> simp

@[simp] theorem outer_pictureRunDone (p : PictureWork) (r : Run) (c : Chip) :
    outer (pictureRunDone p r c) = outer c := by
  first
  | rfl
  | (unfold pictureRunDone; simp; done)
  | (unfold pictureRunDone; (repeat' split) <;> first | rfl | (simp; done))
  | (unfold pictureRunDone; dsimp only; (repeat' split) <;> first | rfl | (simp; done))

@[simp] theorem outer_pictureRunEnd (p : PictureWork) (r : Run) (c : Chip) :
    outer (pictureRunEnd p r c) = outer c := by
  unfold pictureRunEnd; split <;> first | (simp; done) | (rw [outer_runFailure _ _ (by intros; simp)])

@[simp] theorem outer_orderRunEnd (o : OrderWork) (r : Run) (c : Chip) :
    outer (orderRunEnd o r c) = outer c := by
  unfold orderRunEnd; split <;> first | ((try dsimp only); (try split) <;> simp; done) | (rw [outer_runFailure _ _ (by intros; simp)])

@[simp] theorem outer_orderRunStopped (o : OrderWork) (r : Run) (c : Chip) :
    outer (orderRunStopped o r c) = outer c := by
  unfold orderRunStopped; split <;> first | (simp; done) | (rw [outer_runFailure _ _ (by intros; rfl)]; simp)

@[simp] theorem outer_runEnd (r : Run) (c : Chip) :
    outer (runEnd r c) = outer c := by
  unfold runEnd; dsimp only; (repeat' split) <;>
    simp only [outer_raise, outer_pictureRunEnd, outer_orderRunStopped, outer_orderRunEnd, outer_mark] <;> rfl

@[simp] theorem outer_setRun (f : Run → Run) (c : Chip) :
    outer (setRun f c) = outer c := by
  first
  | rfl
  | (unfold setRun; simp; done)
  | (unfold setRun; (repeat' split) <;> first | rfl | (simp; done))
  | (unfold setRun; dsimp only; (repeat' split) <;> first | rfl | (simp; done))

@[simp] theorem outer_endRunEarly (cause : RunResult) (c : Chip) :
    outer (endRunEarly cause c) = outer c := by
  first
  | rfl
  | (unfold endRunEarly; simp; done)
  | (unfold endRunEarly; (repeat' split) <;> first | rfl | (simp; done))
  | (unfold endRunEarly; dsimp only; (repeat' split) <;> first | rfl | (simp; done))

@[simp] theorem outer_nextBlock (p : RunPhase) (c : Chip) :
    outer (nextBlock p c) = outer c := by
  first
  | rfl
  | (unfold nextBlock; simp; done)
  | (unfold nextBlock; (repeat' split) <;> first | rfl | (simp; done))
  | (unfold nextBlock; dsimp only; (repeat' split) <;> first | rfl | (simp; done))

@[simp] theorem outer_initResponse (capacity : Nat) (c : Chip) :
    outer (initResponse capacity c) = outer c := by
  first
  | rfl
  | (unfold initResponse; simp; done)
  | (unfold initResponse; (repeat' split) <;> first | rfl | (simp; done))
  | (unfold initResponse; dsimp only; (repeat' split) <;> first | rfl | (simp; done))

@[simp] theorem outer_cardResponse (capacity : Nat) (c : Chip) :
    outer (cardResponse capacity c) = outer c := by
  first
  | rfl
  | (unfold cardResponse; simp; done)
  | (unfold cardResponse; (repeat' split) <;> first | rfl | (simp; done))
  | (unfold cardResponse; dsimp only; (repeat' split) <;> first | rfl | (simp; done))

@[simp] theorem outer_cardStatusToken (t : StatusToken) (c : Chip) :
    outer (cardStatusToken t c) = outer c := by
  first
  | rfl
  | (unfold cardStatusToken; simp; done)
  | (unfold cardStatusToken; (repeat' split) <;> first | rfl | (simp; done))
  | (unfold cardStatusToken; dsimp only; (repeat' split) <;> first | rfl | (simp; done))

@[simp] theorem outer_cardBusyEnd (c : Chip) :
    outer (cardBusyEnd c) = outer c := by
  first
  | rfl
  | (unfold cardBusyEnd; simp; done)
  | (unfold cardBusyEnd; (repeat' split) <;> first | rfl | (simp; done))
  | (unfold cardBusyEnd; dsimp only; (repeat' split) <;> first | rfl | (simp; done))

@[simp] theorem outer_cardResponseTimeout (c : Chip) :
    outer (cardResponseTimeout c) = outer c := by
  first
  | rfl
  | (unfold cardResponseTimeout; simp; done)
  | (unfold cardResponseTimeout; (repeat' split) <;> first | rfl | (simp; done))
  | (unfold cardResponseTimeout; dsimp only; (repeat' split) <;> first | rfl | (simp; done))

@[simp] theorem outer_cardBusyTimeout (c : Chip) :
    outer (cardBusyTimeout c) = outer c := by
  first
  | rfl
  | (unfold cardBusyTimeout; simp; done)
  | (unfold cardBusyTimeout; (repeat' split) <;> first | rfl | (simp; done))
  | (unfold cardBusyTimeout; dsimp only; (repeat' split) <;> first | rfl | (simp; done))

@[simp] theorem outer_cardMemoryBusError (c : Chip) :
    outer (cardMemoryBusError c) = outer c := by
  first
  | rfl
  | (unfold cardMemoryBusError; simp; done)
  | (unfold cardMemoryBusError; (repeat' split) <;> first | rfl | (simp; done))
  | (unfold cardMemoryBusError; dsimp only; (repeat' split) <;> first | rfl | (simp; done))

@[simp] theorem outer_thresholdChange (old new : Settings) (k : CounterId) (c : Chip) :
    outer (thresholdChange old new k c) = outer c := by
  first
  | rfl
  | (unfold thresholdChange; simp; done)
  | (unfold thresholdChange; (repeat' split) <;> first | rfl | (simp; done))
  | (unfold thresholdChange; dsimp only; (repeat' split) <;> first | rfl | (simp; done))

@[simp] theorem outer_thresholdsSettingsDone (old new : Settings) (c : Chip) :
    outer (thresholdsSettingsDone old new c) = outer c := by
  first
  | rfl
  | (unfold thresholdsSettingsDone; simp; done)
  | (unfold thresholdsSettingsDone; (repeat' split) <;> first | rfl | (simp; done))
  | (unfold thresholdsSettingsDone; dsimp only; (repeat' split) <;> first | rfl | (simp; done))

@[simp] theorem outer_takeFallback (c : Chip) :
    outer (takeFallback c) = outer c := by
  first
  | rfl
  | (unfold takeFallback; simp; done)
  | (unfold takeFallback; (repeat' split) <;> first | rfl | (simp; done))
  | (unfold takeFallback; dsimp only; (repeat' split) <;> first | rfl | (simp; done))

@[simp] theorem outer_markFreeSlots (before c : Chip) :
    outer (markFreeSlots before c) = outer c := by
  first
  | rfl
  | (unfold markFreeSlots; simp; done)
  | (unfold markFreeSlots; (repeat' split) <;> first | rfl | (simp; done))
  | (unfold markFreeSlots; dsimp only; (repeat' split) <;> first | rfl | (simp; done))

@[simp] theorem outer_settingsDone (new : Settings) (c : Chip) :
    outer (settingsDone new c) = outer c := by
  first
  | rfl
  | (unfold settingsDone; simp; done)
  | (unfold settingsDone; (repeat' split) <;> first | rfl | (simp; done))
  | (unfold settingsDone; dsimp only; (repeat' split) <;> first | rfl | (simp; done))

@[simp] theorem outer_takeSettings (body : List Byte) (c : Chip) :
    outer (takeSettings body c) = outer c := by
  unfold takeSettings; dsimp only; (repeat' split) <;> simp

@[simp] theorem outer_placeTables (l : LoadWork) (c : Chip) :
    outer (placeTables l c) = outer c := by
  first
  | rfl
  | (unfold placeTables; simp; done)
  | (unfold placeTables; (repeat' split) <;> first | rfl | (simp; done))
  | (unfold placeTables; dsimp only; (repeat' split) <;> first | rfl | (simp; done))

@[simp] theorem outer_loadRead (ws : List Word) (c : Chip) :
    outer (loadRead ws c) = outer c := by
  first
  | rfl
  | (unfold loadRead; simp; done)
  | (unfold loadRead; (repeat' split) <;> first | rfl | (simp; done))
  | (unfold loadRead; dsimp only; (repeat' split) <;> first | rfl | (simp; done))

@[simp] theorem outer_loadReadError (c : Chip) :
    outer (loadReadError c) = outer c := by
  first
  | rfl
  | (unfold loadReadError; simp; done)
  | (unfold loadReadError; (repeat' split) <;> first | rfl | (simp; done))
  | (unfold loadReadError; dsimp only; (repeat' split) <;> first | rfl | (simp; done))

@[simp] theorem outer_tablesPlace (c : Chip) :
    outer (tablesPlace c) = outer c := by
  first
  | rfl
  | (unfold tablesPlace; simp; done)
  | (unfold tablesPlace; (repeat' split) <;> first | rfl | (simp; done))
  | (unfold tablesPlace; dsimp only; (repeat' split) <;> first | rfl | (simp; done))

@[simp] theorem outer_beginLensService (k : ServiceKind) (c : Chip) :
    outer (beginLensService k c) = outer c := by
  first
  | rfl
  | (unfold beginLensService; simp; done)
  | (unfold beginLensService; (repeat' split) <;> first | rfl | (simp; done))
  | (unfold beginLensService; dsimp only; (repeat' split) <;> first | rfl | (simp; done))

@[simp] theorem outer_takeService (k : ServiceKind) (c : Chip) :
    outer (takeService k c) = outer c := by
  first
  | rfl
  | (unfold takeService; simp; done)
  | (unfold takeService; (repeat' split) <;> first | rfl | (simp; done))
  | (unfold takeService; dsimp only; (repeat' split) <;> first | rfl | (simp; done))

@[simp] theorem outer_beginFocusPart (k : ServiceKind) (c : Chip) :
    outer (beginFocusPart k c) = outer c := by
  unfold beginFocusPart; dsimp only; split <;>
    simp only [outer_startHoming, outer_handTarget, outer_unparkRetarget, outer_finishService] <;> rfl

@[simp] theorem outer_zoomPartServed (c : Chip) :
    outer (zoomPartServed c) = outer c := by
  first
  | rfl
  | (unfold zoomPartServed; simp; done)
  | (unfold zoomPartServed; (repeat' split) <;> first | rfl | (simp; done))
  | (unfold zoomPartServed; dsimp only; (repeat' split) <;> first | rfl | (simp; done))

@[simp] theorem outer_focusPartIdle (fromHoming : Bool) (c : Chip) :
    outer (focusPartIdle fromHoming c) = outer c := by
  first
  | rfl
  | (unfold focusPartIdle; simp; done)
  | (unfold focusPartIdle; (repeat' split) <;> first | rfl | (simp; done))
  | (unfold focusPartIdle; dsimp only; (repeat' split) <;> first | rfl | (simp; done))

@[simp] theorem outer_endSearchForZoom (q : Request) (c : Chip) :
    outer (endSearchForZoom q c) = outer c := by
  first
  | rfl
  | (unfold endSearchForZoom; simp; done)
  | (unfold endSearchForZoom; (repeat' split) <;> first | rfl | (simp; done))
  | (unfold endSearchForZoom; dsimp only; (repeat' split) <;> first | rfl | (simp; done))

@[simp] theorem outer_deliver (q : Request) (c : Chip) :
    outer (deliver q c) = outer c := by
  unfold deliver; split <;> simp

@[simp] theorem outer_activate (r : RecordId) (c : Chip) :
    outer (activate r c) = outer c := by
  first
  | rfl
  | (unfold activate; simp; done)
  | (unfold activate; (repeat' split) <;> first | rfl | (simp; done))
  | (unfold activate; dsimp only; (repeat' split) <;> first | rfl | (simp; done))

@[simp] theorem outer_handOver (r : RecordId) (q : Request) (c : Chip) :
    outer (handOver r q c) = outer c := by
  first
  | rfl
  | (unfold handOver; simp; done)
  | (unfold handOver; (repeat' split) <;> first | rfl | (simp; done))
  | (unfold handOver; dsimp only; (repeat' split) <;> first | rfl | (simp; done))

@[simp] theorem outer_newEdition (r : RecordId) (edition : Word) (c : Chip) :
    outer (newEdition r edition c) = outer c := by
  first
  | rfl
  | (unfold newEdition; simp; done)
  | (unfold newEdition; (repeat' split) <;> first | rfl | (simp; done))
  | (unfold newEdition; dsimp only; (repeat' split) <;> first | rfl | (simp; done))

@[simp] theorem outer_adoptHeld (r : RecordId) (edition : Word) (q : Request) (d : Detail) (earlier : Bool) (c : Chip) :
    outer (adoptHeld r edition q d earlier c) = outer c := by
  first
  | rfl
  | (unfold adoptHeld; simp; done)
  | (unfold adoptHeld; (repeat' split) <;> first | rfl | (simp; done))
  | (unfold adoptHeld; dsimp only; (repeat' split) <;> first | rfl | (simp; done))

@[simp] theorem outer_replaceHeld (r : RecordId) (edition : Word) (q : Request) (c : Chip) :
    outer (replaceHeld r edition q c) = outer c := by
  first
  | rfl
  | (unfold replaceHeld; simp; done)
  | (unfold replaceHeld; (repeat' split) <;> first | rfl | (simp; done))
  | (unfold replaceHeld; dsimp only; (repeat' split) <;> first | rfl | (simp; done))

@[simp] theorem outer_adopt (r : RecordId) (edition : Word) (q : Request) (c : Chip) :
    outer (adopt r edition q c) = outer c := by
  first
  | rfl
  | (unfold adopt; simp; done)
  | (unfold adopt; (repeat' split) <;> first | rfl | (simp; done))
  | (unfold adopt; dsimp only; (repeat' split) <;> first | rfl | (simp; done))

@[simp] theorem outer_readNew (r : RecordId) (edition : Word) (q : Request) (c : Chip) :
    outer (readNew r edition q c) = outer c := by
  first
  | rfl
  | (unfold readNew; simp; done)
  | (unfold readNew; (repeat' split) <;> first | rfl | (simp; done))
  | (unfold readNew; dsimp only; (repeat' split) <;> first | rfl | (simp; done))

@[simp] theorem outer_handNextHeld (c : Chip) :
    outer (handNextHeld c) = outer c := by
  unfold handNextHeld; split <;> simp

@[simp] theorem outer_recheckSettings (c : Chip) :
    outer (recheckSettings c) = outer c := by
  first
  | rfl
  | (unfold recheckSettings; simp; done)
  | (unfold recheckSettings; (repeat' split) <;> first | rfl | (simp; done))
  | (unfold recheckSettings; dsimp only; (repeat' split) <;> first | rfl | (simp; done))

@[simp] theorem outer_setScan (f : Scan → Scan) (c : Chip) :
    outer (setScan f c) = outer c := by
  first
  | rfl
  | (unfold setScan; simp; done)
  | (unfold setScan; (repeat' split) <;> first | rfl | (simp; done))
  | (unfold setScan; dsimp only; (repeat' split) <;> first | rfl | (simp; done))

@[simp] theorem outer_scanBegin (c : Chip) :
    outer (scanBegin c) = outer c := by
  unfold scanBegin; rw [outer_recheckSettings, outer_setScan]

@[simp] theorem outer_scanTrigger (c : Chip) :
    outer (scanTrigger c) = outer c := by
  first
  | rfl
  | (unfold scanTrigger; simp; done)
  | (unfold scanTrigger; (repeat' split) <;> first | rfl | (simp; done))
  | (unfold scanTrigger; dsimp only; (repeat' split) <;> first | rfl | (simp; done))

@[simp] theorem outer_scanEnd (c : Chip) :
    outer (scanEnd c) = outer c := by
  first
  | rfl
  | (unfold scanEnd; simp; done)
  | (unfold scanEnd; (repeat' split) <;> first | rfl | (simp; done))
  | (unfold scanEnd; dsimp only; (repeat' split) <;> first | rfl | (simp; done))

@[simp] theorem outer_idleScanTimer (c : Chip) :
    outer (idleScanTimer c) = outer c := by
  first
  | rfl
  | (unfold idleScanTimer; simp; done)
  | (unfold idleScanTimer; (repeat' split) <;> first | rfl | (simp; done))
  | (unfold idleScanTimer; dsimp only; (repeat' split) <;> first | rfl | (simp; done))

@[simp] theorem outer_countTorn (r : RecordId) (c : Chip) :
    outer (countTorn r c) = outer c := by
  first
  | rfl
  | (unfold countTorn; simp; done)
  | (unfold countTorn; (repeat' split) <;> first | rfl | (simp; done))
  | (unfold countTorn; dsimp only; (repeat' split) <;> first | rfl | (simp; done))

@[simp] theorem outer_scanRecordRead (leading : Word) (body : List Byte) (trailing : Word) (c : Chip) :
    outer (scanRecordRead leading body trailing c) = outer c := by
  first
  | rfl
  | (unfold scanRecordRead; simp; done)
  | (unfold scanRecordRead; (repeat' split) <;> first | rfl | (simp; done))
  | (unfold scanRecordRead; dsimp only; (repeat' split) <;> first | rfl | (simp; done))

@[simp] theorem outer_releaseTableRead (counts : List Half) (c : Chip) :
    outer (releaseTableRead counts c) = outer c := by
  first
  | rfl
  | (unfold releaseTableRead; simp; done)
  | (unfold releaseTableRead; (repeat' split) <;> first | rfl | (simp; done))
  | (unfold releaseTableRead; dsimp only; (repeat' split) <;> first | rfl | (simp; done))

@[simp] theorem outer_beginZoomStep (c : Chip) :
    outer (beginZoomStep c) = outer c := by
  unfold beginZoomStep; rw [outer_startZoom]; rfl

@[simp] theorem outer_abandonRequest (r : RecordId) (c : Chip) :
    outer (abandonRequest r c) = outer c := by
  first
  | rfl
  | (unfold abandonRequest; simp; done)
  | (unfold abandonRequest; (repeat' split) <;> first | rfl | (simp; done))
  | (unfold abandonRequest; dsimp only; (repeat' split) <;> first | rfl | (simp; done))

@[simp] theorem outer_abandonOrder (c : Chip) :
    outer (abandonOrder c) = outer c := by
  first
  | rfl
  | (unfold abandonOrder; simp; done)
  | (unfold abandonOrder; (repeat' split) <;> first | rfl | (simp; done))
  | (unfold abandonOrder; dsimp only; (repeat' split) <;> first | rfl | (simp; done))

@[simp] theorem outer_abandonRequests (c : Chip) :
    outer (abandonRequests c) = outer c := by
  simp only [abandonRequests, outer_abandonRequest, outer_abandonOrder]

@[simp] theorem outer_stopLoad (c : Chip) :
    outer (stopLoad c) = outer c := by
  first
  | rfl
  | (unfold stopLoad; simp; done)
  | (unfold stopLoad; (repeat' split) <;> first | rfl | (simp; done))
  | (unfold stopLoad; dsimp only; (repeat' split) <;> first | rfl | (simp; done))

@[simp] theorem outer_stopStreams (c : Chip) :
    outer (stopStreams c) = outer c := by
  first
  | rfl
  | (unfold stopStreams; simp; done)
  | (unfold stopStreams; (repeat' split) <;> first | rfl | (simp; done))
  | (unfold stopStreams; dsimp only; (repeat' split) <;> first | rfl | (simp; done))

@[simp] theorem outer_countFrame (c : Chip) :
    outer (countFrame c) = outer c := by
  first
  | rfl
  | (unfold countFrame; simp; done)
  | (unfold countFrame; (repeat' split) <;> first | rfl | (simp; done))
  | (unfold countFrame; dsimp only; (repeat' split) <;> first | rfl | (simp; done))

@[simp] theorem outer_openFrame (c : Chip) :
    outer (openFrame c) = outer c := by
  first
  | rfl
  | (unfold openFrame; simp; done)
  | (unfold openFrame; (repeat' split) <;> first | rfl | (simp; done))
  | (unfold openFrame; dsimp only; (repeat' split) <;> first | rfl | (simp; done))

@[simp] theorem outer_claimFrame (time : Nat) (c : Chip) :
    outer (claimFrame time c) = outer c := by
  first
  | rfl
  | (unfold claimFrame; simp; done)
  | (unfold claimFrame; (repeat' split) <;> first | rfl | (simp; done))
  | (unfold claimFrame; dsimp only; (repeat' split) <;> first | rfl | (simp; done))

@[simp] theorem outer_beginCaptureFrame (c : Chip) :
    outer (beginCaptureFrame c) = outer c := by
  first
  | rfl
  | (unfold beginCaptureFrame; simp; done)
  | (unfold beginCaptureFrame; (repeat' split) <;> first | rfl | (simp; done))
  | (unfold beginCaptureFrame; dsimp only; (repeat' split) <;> first | rfl | (simp; done))

@[simp] theorem outer_focusFrameStart (c : Chip) :
    outer (focusFrameStart c) = outer c := by
  first
  | rfl
  | (unfold focusFrameStart; simp; done)
  | (unfold focusFrameStart; (repeat' split) <;> first | rfl | (simp; done))
  | (unfold focusFrameStart; dsimp only; (repeat' split) <;> first | rfl | (simp; done))

@[simp] theorem outer_focusEntersIdle (fromHoming : Bool) (c : Chip) :
    outer (focusEntersIdle fromHoming c) = outer c := by
  first
  | rfl
  | (unfold focusEntersIdle; simp; done)
  | (unfold focusEntersIdle; (repeat' split) <;> first | rfl | (simp; done))
  | (unfold focusEntersIdle; dsimp only; (repeat' split) <;> first | rfl | (simp; done))

@[simp] theorem outer_focusStopsWork (c : Chip) :
    outer (focusStopsWork c) = outer c := by
  first
  | rfl
  | (unfold focusStopsWork; simp; done)
  | (unfold focusStopsWork; (repeat' split) <;> first | rfl | (simp; done))
  | (unfold focusStopsWork; dsimp only; (repeat' split) <;> first | rfl | (simp; done))

@[simp] theorem outer_searchZoomStirred (c : Chip) :
    outer (searchZoomStirred c) = outer c := by
  first
  | rfl
  | (unfold searchZoomStirred; simp; done)
  | (unfold searchZoomStirred; (repeat' split) <;> first | rfl | (simp; done))
  | (unfold searchZoomStirred; dsimp only; (repeat' split) <;> first | rfl | (simp; done))

@[simp] theorem outer_tablesReplaced (c : Chip) :
    outer (tablesReplaced c) = outer c := by
  simp only [tablesReplaced, outer_retargetAgain, outer_endEarly, outer_readGains, outer_readLensCopy,
    outer_focusTablesReplaced, outer_zoomTablesReplaced]

@[simp] theorem outer_blockRestored (b : TableBlock) (c : Chip) :
    outer (blockRestored b c) = outer c := by
  first
  | rfl
  | (unfold blockRestored; simp; done)
  | (unfold blockRestored; (repeat' split) <;> first | rfl | (simp; done))
  | (unfold blockRestored; dsimp only; (repeat' split) <;> first | rfl | (simp; done))

@[simp] theorem outer_takeHandHeld (c : Chip) :
    outer (takeHandHeld c) = outer c := by
  unfold takeHandHeld; (repeat' split) <;> simp

@[simp] theorem outer_handle (e : Event) (c : Chip) :
    outer (handle e c) = outer c := by
  unfold handle; split <;> simp

@[simp] theorem outer_drain (n : Nat) (c : Chip) : outer (drain n c) = outer c := by
  induction n generalizing c with
  | zero => rfl
  | succ n ih =>
    unfold drain
    split
    · rfl
    · rw [ih, outer_handle]; rfl

@[simp] theorem outer_settle (c : Chip) :
    outer (settle c) = outer c := by
  first
  | rfl
  | (unfold settle; simp; done)
  | (unfold settle; (repeat' split) <;> first | rfl | (simp; done))
  | (unfold settle; dsimp only; (repeat' split) <;> first | rfl | (simp; done))

@[simp] theorem outer_startRefetch (c : Chip) :
    outer (startRefetch c) = outer c := by
  first
  | rfl
  | (unfold startRefetch; simp; done)
  | (unfold startRefetch; (repeat' split) <;> first | rfl | (simp; done))
  | (unfold startRefetch; dsimp only; (repeat' split) <;> first | rfl | (simp; done))

@[simp] theorem outer_refetchRead (words : List Word) (c : Chip) :
    outer (refetchRead words c) = outer c := by
  first
  | rfl
  | (unfold refetchRead; simp; done)
  | (unfold refetchRead; (repeat' split) <;> first | rfl | (simp; done))
  | (unfold refetchRead; dsimp only; (repeat' split) <;> first | rfl | (simp; done))

@[simp] theorem outer_refetchReadError (c : Chip) :
    outer (refetchReadError c) = outer c := by
  first
  | rfl
  | (unfold refetchReadError; simp; done)
  | (unfold refetchReadError; (repeat' split) <;> first | rfl | (simp; done))
  | (unfold refetchReadError; dsimp only; (repeat' split) <;> first | rfl | (simp; done))

end Sys2Proof.Laws
end

