-- ==== Sys2Proof/Laws/State.lean ====
section
/-! SUPPORT. Updates of the state, one lemma per field per update: what an update leaves and what it writes. -/

namespace Sys2Proof.Machine

/-! ### The state of the machine -/

@[simp] theorem concluded_pending (c : Chip) (s : State) : (concluded c s).pending = s.pending := rfl
@[simp] theorem concluded_areaBase (c : Chip) (s : State) : (concluded c s).areaBase = s.areaBase := rfl
@[simp] theorem concluded_busOut (c : Chip) (s : State) : (concluded c s).chip.busOut = [] := rfl
theorem concluded_memory (c : Chip) (s : State) :
    (concluded c s).memory = Memory.writeAll s.memory (conclude c).busOut := rfl
theorem concluded_chip (c : Chip) (s : State) : (concluded c s).chip = { conclude c with busOut := [] } := rfl
theorem commit_eq (f : Chip → Chip) (s : State) : commit f s = .next (concluded (f s.chip) s) := rfl

/-! ### Blocks that an operation leaves alone -/

@[simp] theorem mark_port (a : AnswerId) (c : Chip) : (mark a c).port = c.port := rfl
@[simp] theorem mark_scan (a : AnswerId) (c : Chip) : (mark a c).scan = c.scan := rfl
@[simp] theorem mark_records (a : AnswerId) (c : Chip) : (mark a c).records = c.records := rfl
@[simp] theorem mark_service (a : AnswerId) (c : Chip) : (mark a c).service = c.service := rfl
@[simp] theorem mark_notices (a : AnswerId) (c : Chip) : (mark a c).notices = c.notices := rfl
@[simp] theorem mark_settings (a : AnswerId) (c : Chip) : (mark a c).settings = c.settings := rfl
@[simp] theorem mark_pixel (a : AnswerId) (c : Chip) : (mark a c).pixel = c.pixel := rfl
@[simp] theorem mark_flicker (a : AnswerId) (c : Chip) : (mark a c).flicker = c.flicker := rfl
@[simp] theorem mark_tables (a : AnswerId) (c : Chip) : (mark a c).tables = c.tables := rfl
@[simp] theorem mark_wear (a : AnswerId) (c : Chip) : (mark a c).wear = c.wear := rfl
@[simp] theorem mark_zoom (a : AnswerId) (c : Chip) : (mark a c).zoom = c.zoom := rfl
@[simp] theorem mark_focus (a : AnswerId) (c : Chip) : (mark a c).focus = c.focus := rfl
@[simp] theorem mark_control (a : AnswerId) (c : Chip) : (mark a c).control = c.control := rfl
@[simp] theorem mark_search (a : AnswerId) (c : Chip) : (mark a c).search = c.search := rfl
@[simp] theorem mark_following (a : AnswerId) (c : Chip) : (mark a c).following = c.following := rfl
@[simp] theorem mark_exposure (a : AnswerId) (c : Chip) : (mark a c).exposure = c.exposure := rfl
@[simp] theorem mark_stab (a : AnswerId) (c : Chip) : (mark a c).stab = c.stab := rfl
@[simp] theorem mark_capture (a : AnswerId) (c : Chip) : (mark a c).capture = c.capture := rfl
@[simp] theorem mark_slots (a : AnswerId) (c : Chip) : (mark a c).slots = c.slots := rfl
@[simp] theorem mark_store (a : AnswerId) (c : Chip) : (mark a c).store = c.store := rfl
@[simp] theorem mark_card (a : AnswerId) (c : Chip) : (mark a c).card = c.card := rfl
@[simp] theorem mark_events (a : AnswerId) (c : Chip) : (mark a c).events = c.events := rfl
@[simp] theorem mark_busOut (a : AnswerId) (c : Chip) : (mark a c).busOut = c.busOut := rfl
@[simp] theorem mark_now (a : AnswerId) (c : Chip) : (mark a c).now = c.now := rfl
@[simp] theorem mark_freeIndex (a : AnswerId) (c : Chip) : (mark a c).freeIndex = c.freeIndex := rfl

@[simp] theorem markZoomPart_port (c : Chip) : (markZoomPart c).port = c.port := rfl
@[simp] theorem markZoomPart_scan (c : Chip) : (markZoomPart c).scan = c.scan := rfl
@[simp] theorem markZoomPart_records (c : Chip) : (markZoomPart c).records = c.records := rfl
@[simp] theorem markZoomPart_service (c : Chip) : (markZoomPart c).service = c.service := rfl
@[simp] theorem markZoomPart_notices (c : Chip) : (markZoomPart c).notices = c.notices := rfl
@[simp] theorem markZoomPart_settings (c : Chip) : (markZoomPart c).settings = c.settings := rfl
@[simp] theorem markZoomPart_pixel (c : Chip) : (markZoomPart c).pixel = c.pixel := rfl
@[simp] theorem markZoomPart_flicker (c : Chip) : (markZoomPart c).flicker = c.flicker := rfl
@[simp] theorem markZoomPart_tables (c : Chip) : (markZoomPart c).tables = c.tables := rfl
@[simp] theorem markZoomPart_wear (c : Chip) : (markZoomPart c).wear = c.wear := rfl
@[simp] theorem markZoomPart_zoom (c : Chip) : (markZoomPart c).zoom = c.zoom := rfl
@[simp] theorem markZoomPart_focus (c : Chip) : (markZoomPart c).focus = c.focus := rfl
@[simp] theorem markZoomPart_control (c : Chip) : (markZoomPart c).control = c.control := rfl
@[simp] theorem markZoomPart_search (c : Chip) : (markZoomPart c).search = c.search := rfl
@[simp] theorem markZoomPart_following (c : Chip) : (markZoomPart c).following = c.following := rfl
@[simp] theorem markZoomPart_exposure (c : Chip) : (markZoomPart c).exposure = c.exposure := rfl
@[simp] theorem markZoomPart_stab (c : Chip) : (markZoomPart c).stab = c.stab := rfl
@[simp] theorem markZoomPart_capture (c : Chip) : (markZoomPart c).capture = c.capture := rfl
@[simp] theorem markZoomPart_slots (c : Chip) : (markZoomPart c).slots = c.slots := rfl
@[simp] theorem markZoomPart_store (c : Chip) : (markZoomPart c).store = c.store := rfl
@[simp] theorem markZoomPart_card (c : Chip) : (markZoomPart c).card = c.card := rfl
@[simp] theorem markZoomPart_events (c : Chip) : (markZoomPart c).events = c.events := rfl
@[simp] theorem markZoomPart_busOut (c : Chip) : (markZoomPart c).busOut = c.busOut := rfl
@[simp] theorem markZoomPart_now (c : Chip) : (markZoomPart c).now = c.now := rfl
@[simp] theorem markZoomPart_freeIndex (c : Chip) : (markZoomPart c).freeIndex = c.freeIndex := rfl

@[simp] theorem markFocusPart_port (c : Chip) : (markFocusPart c).port = c.port := rfl
@[simp] theorem markFocusPart_scan (c : Chip) : (markFocusPart c).scan = c.scan := rfl
@[simp] theorem markFocusPart_records (c : Chip) : (markFocusPart c).records = c.records := rfl
@[simp] theorem markFocusPart_service (c : Chip) : (markFocusPart c).service = c.service := rfl
@[simp] theorem markFocusPart_notices (c : Chip) : (markFocusPart c).notices = c.notices := rfl
@[simp] theorem markFocusPart_settings (c : Chip) : (markFocusPart c).settings = c.settings := rfl
@[simp] theorem markFocusPart_pixel (c : Chip) : (markFocusPart c).pixel = c.pixel := rfl
@[simp] theorem markFocusPart_flicker (c : Chip) : (markFocusPart c).flicker = c.flicker := rfl
@[simp] theorem markFocusPart_tables (c : Chip) : (markFocusPart c).tables = c.tables := rfl
@[simp] theorem markFocusPart_wear (c : Chip) : (markFocusPart c).wear = c.wear := rfl
@[simp] theorem markFocusPart_zoom (c : Chip) : (markFocusPart c).zoom = c.zoom := rfl
@[simp] theorem markFocusPart_focus (c : Chip) : (markFocusPart c).focus = c.focus := rfl
@[simp] theorem markFocusPart_control (c : Chip) : (markFocusPart c).control = c.control := rfl
@[simp] theorem markFocusPart_search (c : Chip) : (markFocusPart c).search = c.search := rfl
@[simp] theorem markFocusPart_following (c : Chip) : (markFocusPart c).following = c.following := rfl
@[simp] theorem markFocusPart_exposure (c : Chip) : (markFocusPart c).exposure = c.exposure := rfl
@[simp] theorem markFocusPart_stab (c : Chip) : (markFocusPart c).stab = c.stab := rfl
@[simp] theorem markFocusPart_capture (c : Chip) : (markFocusPart c).capture = c.capture := rfl
@[simp] theorem markFocusPart_slots (c : Chip) : (markFocusPart c).slots = c.slots := rfl
@[simp] theorem markFocusPart_store (c : Chip) : (markFocusPart c).store = c.store := rfl
@[simp] theorem markFocusPart_card (c : Chip) : (markFocusPart c).card = c.card := rfl
@[simp] theorem markFocusPart_events (c : Chip) : (markFocusPart c).events = c.events := rfl
@[simp] theorem markFocusPart_busOut (c : Chip) : (markFocusPart c).busOut = c.busOut := rfl
@[simp] theorem markFocusPart_now (c : Chip) : (markFocusPart c).now = c.now := rfl
@[simp] theorem markFocusPart_freeIndex (c : Chip) : (markFocusPart c).freeIndex = c.freeIndex := rfl

@[simp] theorem takeLensParts_port (c : Chip) : (takeLensParts c).port = c.port := rfl
@[simp] theorem takeLensParts_scan (c : Chip) : (takeLensParts c).scan = c.scan := rfl
@[simp] theorem takeLensParts_records (c : Chip) : (takeLensParts c).records = c.records := rfl
@[simp] theorem takeLensParts_service (c : Chip) : (takeLensParts c).service = c.service := rfl
@[simp] theorem takeLensParts_notices (c : Chip) : (takeLensParts c).notices = c.notices := rfl
@[simp] theorem takeLensParts_settings (c : Chip) : (takeLensParts c).settings = c.settings := rfl
@[simp] theorem takeLensParts_pixel (c : Chip) : (takeLensParts c).pixel = c.pixel := rfl
@[simp] theorem takeLensParts_flicker (c : Chip) : (takeLensParts c).flicker = c.flicker := rfl
@[simp] theorem takeLensParts_tables (c : Chip) : (takeLensParts c).tables = c.tables := rfl
@[simp] theorem takeLensParts_wear (c : Chip) : (takeLensParts c).wear = c.wear := rfl
@[simp] theorem takeLensParts_zoom (c : Chip) : (takeLensParts c).zoom = c.zoom := rfl
@[simp] theorem takeLensParts_focus (c : Chip) : (takeLensParts c).focus = c.focus := rfl
@[simp] theorem takeLensParts_control (c : Chip) : (takeLensParts c).control = c.control := rfl
@[simp] theorem takeLensParts_search (c : Chip) : (takeLensParts c).search = c.search := rfl
@[simp] theorem takeLensParts_following (c : Chip) : (takeLensParts c).following = c.following := rfl
@[simp] theorem takeLensParts_exposure (c : Chip) : (takeLensParts c).exposure = c.exposure := rfl
@[simp] theorem takeLensParts_stab (c : Chip) : (takeLensParts c).stab = c.stab := rfl
@[simp] theorem takeLensParts_capture (c : Chip) : (takeLensParts c).capture = c.capture := rfl
@[simp] theorem takeLensParts_slots (c : Chip) : (takeLensParts c).slots = c.slots := rfl
@[simp] theorem takeLensParts_store (c : Chip) : (takeLensParts c).store = c.store := rfl
@[simp] theorem takeLensParts_card (c : Chip) : (takeLensParts c).card = c.card := rfl
@[simp] theorem takeLensParts_events (c : Chip) : (takeLensParts c).events = c.events := rfl
@[simp] theorem takeLensParts_busOut (c : Chip) : (takeLensParts c).busOut = c.busOut := rfl
@[simp] theorem takeLensParts_now (c : Chip) : (takeLensParts c).now = c.now := rfl
@[simp] theorem takeLensParts_freeIndex (c : Chip) : (takeLensParts c).freeIndex = c.freeIndex := rfl

@[simp] theorem notice_port (k : NoticeClass) (c : Chip) : (notice k c).port = c.port := rfl
@[simp] theorem notice_scan (k : NoticeClass) (c : Chip) : (notice k c).scan = c.scan := rfl
@[simp] theorem notice_records (k : NoticeClass) (c : Chip) : (notice k c).records = c.records := rfl
@[simp] theorem notice_service (k : NoticeClass) (c : Chip) : (notice k c).service = c.service := rfl
@[simp] theorem notice_settings (k : NoticeClass) (c : Chip) : (notice k c).settings = c.settings := rfl
@[simp] theorem notice_pixel (k : NoticeClass) (c : Chip) : (notice k c).pixel = c.pixel := rfl
@[simp] theorem notice_flicker (k : NoticeClass) (c : Chip) : (notice k c).flicker = c.flicker := rfl
@[simp] theorem notice_tables (k : NoticeClass) (c : Chip) : (notice k c).tables = c.tables := rfl
@[simp] theorem notice_wear (k : NoticeClass) (c : Chip) : (notice k c).wear = c.wear := rfl
@[simp] theorem notice_zoom (k : NoticeClass) (c : Chip) : (notice k c).zoom = c.zoom := rfl
@[simp] theorem notice_focus (k : NoticeClass) (c : Chip) : (notice k c).focus = c.focus := rfl
@[simp] theorem notice_control (k : NoticeClass) (c : Chip) : (notice k c).control = c.control := rfl
@[simp] theorem notice_search (k : NoticeClass) (c : Chip) : (notice k c).search = c.search := rfl
@[simp] theorem notice_following (k : NoticeClass) (c : Chip) : (notice k c).following = c.following := rfl
@[simp] theorem notice_exposure (k : NoticeClass) (c : Chip) : (notice k c).exposure = c.exposure := rfl
@[simp] theorem notice_stab (k : NoticeClass) (c : Chip) : (notice k c).stab = c.stab := rfl
@[simp] theorem notice_capture (k : NoticeClass) (c : Chip) : (notice k c).capture = c.capture := rfl
@[simp] theorem notice_slots (k : NoticeClass) (c : Chip) : (notice k c).slots = c.slots := rfl
@[simp] theorem notice_store (k : NoticeClass) (c : Chip) : (notice k c).store = c.store := rfl
@[simp] theorem notice_card (k : NoticeClass) (c : Chip) : (notice k c).card = c.card := rfl
@[simp] theorem notice_events (k : NoticeClass) (c : Chip) : (notice k c).events = c.events := rfl
@[simp] theorem notice_busOut (k : NoticeClass) (c : Chip) : (notice k c).busOut = c.busOut := rfl
@[simp] theorem notice_now (k : NoticeClass) (c : Chip) : (notice k c).now = c.now := rfl
@[simp] theorem notice_freeIndex (k : NoticeClass) (c : Chip) : (notice k c).freeIndex = c.freeIndex := rfl

@[simp] theorem raise_port (e : Event) (c : Chip) : (raise e c).port = c.port := rfl
@[simp] theorem raise_scan (e : Event) (c : Chip) : (raise e c).scan = c.scan := rfl
@[simp] theorem raise_records (e : Event) (c : Chip) : (raise e c).records = c.records := rfl
@[simp] theorem raise_service (e : Event) (c : Chip) : (raise e c).service = c.service := rfl
@[simp] theorem raise_notices (e : Event) (c : Chip) : (raise e c).notices = c.notices := rfl
@[simp] theorem raise_answers (e : Event) (c : Chip) : (raise e c).answers = c.answers := rfl
@[simp] theorem raise_settings (e : Event) (c : Chip) : (raise e c).settings = c.settings := rfl
@[simp] theorem raise_pixel (e : Event) (c : Chip) : (raise e c).pixel = c.pixel := rfl
@[simp] theorem raise_flicker (e : Event) (c : Chip) : (raise e c).flicker = c.flicker := rfl
@[simp] theorem raise_tables (e : Event) (c : Chip) : (raise e c).tables = c.tables := rfl
@[simp] theorem raise_wear (e : Event) (c : Chip) : (raise e c).wear = c.wear := rfl
@[simp] theorem raise_zoom (e : Event) (c : Chip) : (raise e c).zoom = c.zoom := rfl
@[simp] theorem raise_focus (e : Event) (c : Chip) : (raise e c).focus = c.focus := rfl
@[simp] theorem raise_control (e : Event) (c : Chip) : (raise e c).control = c.control := rfl
@[simp] theorem raise_search (e : Event) (c : Chip) : (raise e c).search = c.search := rfl
@[simp] theorem raise_following (e : Event) (c : Chip) : (raise e c).following = c.following := rfl
@[simp] theorem raise_exposure (e : Event) (c : Chip) : (raise e c).exposure = c.exposure := rfl
@[simp] theorem raise_stab (e : Event) (c : Chip) : (raise e c).stab = c.stab := rfl
@[simp] theorem raise_capture (e : Event) (c : Chip) : (raise e c).capture = c.capture := rfl
@[simp] theorem raise_slots (e : Event) (c : Chip) : (raise e c).slots = c.slots := rfl
@[simp] theorem raise_store (e : Event) (c : Chip) : (raise e c).store = c.store := rfl
@[simp] theorem raise_card (e : Event) (c : Chip) : (raise e c).card = c.card := rfl
@[simp] theorem raise_busOut (e : Event) (c : Chip) : (raise e c).busOut = c.busOut := rfl
@[simp] theorem raise_now (e : Event) (c : Chip) : (raise e c).now = c.now := rfl
@[simp] theorem raise_freeIndex (e : Event) (c : Chip) : (raise e c).freeIndex = c.freeIndex := rfl

@[simp] theorem setRecord_port (r : RecordId) (e : RecordState) (c : Chip) : (setRecord r e c).port = c.port := rfl
@[simp] theorem setRecord_scan (r : RecordId) (e : RecordState) (c : Chip) : (setRecord r e c).scan = c.scan := rfl
@[simp] theorem setRecord_service (r : RecordId) (e : RecordState) (c : Chip) : (setRecord r e c).service = c.service := rfl
@[simp] theorem setRecord_notices (r : RecordId) (e : RecordState) (c : Chip) : (setRecord r e c).notices = c.notices := rfl
@[simp] theorem setRecord_answers (r : RecordId) (e : RecordState) (c : Chip) : (setRecord r e c).answers = c.answers := rfl
@[simp] theorem setRecord_settings (r : RecordId) (e : RecordState) (c : Chip) : (setRecord r e c).settings = c.settings := rfl
@[simp] theorem setRecord_pixel (r : RecordId) (e : RecordState) (c : Chip) : (setRecord r e c).pixel = c.pixel := rfl
@[simp] theorem setRecord_flicker (r : RecordId) (e : RecordState) (c : Chip) : (setRecord r e c).flicker = c.flicker := rfl
@[simp] theorem setRecord_tables (r : RecordId) (e : RecordState) (c : Chip) : (setRecord r e c).tables = c.tables := rfl
@[simp] theorem setRecord_wear (r : RecordId) (e : RecordState) (c : Chip) : (setRecord r e c).wear = c.wear := rfl
@[simp] theorem setRecord_zoom (r : RecordId) (e : RecordState) (c : Chip) : (setRecord r e c).zoom = c.zoom := rfl
@[simp] theorem setRecord_focus (r : RecordId) (e : RecordState) (c : Chip) : (setRecord r e c).focus = c.focus := rfl
@[simp] theorem setRecord_control (r : RecordId) (e : RecordState) (c : Chip) : (setRecord r e c).control = c.control := rfl
@[simp] theorem setRecord_search (r : RecordId) (e : RecordState) (c : Chip) : (setRecord r e c).search = c.search := rfl
@[simp] theorem setRecord_following (r : RecordId) (e : RecordState) (c : Chip) : (setRecord r e c).following = c.following := rfl
@[simp] theorem setRecord_exposure (r : RecordId) (e : RecordState) (c : Chip) : (setRecord r e c).exposure = c.exposure := rfl
@[simp] theorem setRecord_stab (r : RecordId) (e : RecordState) (c : Chip) : (setRecord r e c).stab = c.stab := rfl
@[simp] theorem setRecord_capture (r : RecordId) (e : RecordState) (c : Chip) : (setRecord r e c).capture = c.capture := rfl
@[simp] theorem setRecord_slots (r : RecordId) (e : RecordState) (c : Chip) : (setRecord r e c).slots = c.slots := rfl
@[simp] theorem setRecord_store (r : RecordId) (e : RecordState) (c : Chip) : (setRecord r e c).store = c.store := rfl
@[simp] theorem setRecord_card (r : RecordId) (e : RecordState) (c : Chip) : (setRecord r e c).card = c.card := rfl
@[simp] theorem setRecord_events (r : RecordId) (e : RecordState) (c : Chip) : (setRecord r e c).events = c.events := rfl
@[simp] theorem setRecord_busOut (r : RecordId) (e : RecordState) (c : Chip) : (setRecord r e c).busOut = c.busOut := rfl
@[simp] theorem setRecord_now (r : RecordId) (e : RecordState) (c : Chip) : (setRecord r e c).now = c.now := rfl
@[simp] theorem setRecord_freeIndex (r : RecordId) (e : RecordState) (c : Chip) : (setRecord r e c).freeIndex = c.freeIndex := rfl

@[simp] theorem busWrite_port (a : Nat) (bs : List Byte) (c : Chip) : (busWrite a bs c).port = c.port := rfl
@[simp] theorem busWrite_scan (a : Nat) (bs : List Byte) (c : Chip) : (busWrite a bs c).scan = c.scan := rfl
@[simp] theorem busWrite_records (a : Nat) (bs : List Byte) (c : Chip) : (busWrite a bs c).records = c.records := rfl
@[simp] theorem busWrite_service (a : Nat) (bs : List Byte) (c : Chip) : (busWrite a bs c).service = c.service := rfl
@[simp] theorem busWrite_notices (a : Nat) (bs : List Byte) (c : Chip) : (busWrite a bs c).notices = c.notices := rfl
@[simp] theorem busWrite_answers (a : Nat) (bs : List Byte) (c : Chip) : (busWrite a bs c).answers = c.answers := rfl
@[simp] theorem busWrite_settings (a : Nat) (bs : List Byte) (c : Chip) : (busWrite a bs c).settings = c.settings := rfl
@[simp] theorem busWrite_pixel (a : Nat) (bs : List Byte) (c : Chip) : (busWrite a bs c).pixel = c.pixel := rfl
@[simp] theorem busWrite_flicker (a : Nat) (bs : List Byte) (c : Chip) : (busWrite a bs c).flicker = c.flicker := rfl
@[simp] theorem busWrite_tables (a : Nat) (bs : List Byte) (c : Chip) : (busWrite a bs c).tables = c.tables := rfl
@[simp] theorem busWrite_wear (a : Nat) (bs : List Byte) (c : Chip) : (busWrite a bs c).wear = c.wear := rfl
@[simp] theorem busWrite_zoom (a : Nat) (bs : List Byte) (c : Chip) : (busWrite a bs c).zoom = c.zoom := rfl
@[simp] theorem busWrite_focus (a : Nat) (bs : List Byte) (c : Chip) : (busWrite a bs c).focus = c.focus := rfl
@[simp] theorem busWrite_control (a : Nat) (bs : List Byte) (c : Chip) : (busWrite a bs c).control = c.control := rfl
@[simp] theorem busWrite_search (a : Nat) (bs : List Byte) (c : Chip) : (busWrite a bs c).search = c.search := rfl
@[simp] theorem busWrite_following (a : Nat) (bs : List Byte) (c : Chip) : (busWrite a bs c).following = c.following := rfl
@[simp] theorem busWrite_exposure (a : Nat) (bs : List Byte) (c : Chip) : (busWrite a bs c).exposure = c.exposure := rfl
@[simp] theorem busWrite_stab (a : Nat) (bs : List Byte) (c : Chip) : (busWrite a bs c).stab = c.stab := rfl
@[simp] theorem busWrite_capture (a : Nat) (bs : List Byte) (c : Chip) : (busWrite a bs c).capture = c.capture := rfl
@[simp] theorem busWrite_slots (a : Nat) (bs : List Byte) (c : Chip) : (busWrite a bs c).slots = c.slots := rfl
@[simp] theorem busWrite_store (a : Nat) (bs : List Byte) (c : Chip) : (busWrite a bs c).store = c.store := rfl
@[simp] theorem busWrite_card (a : Nat) (bs : List Byte) (c : Chip) : (busWrite a bs c).card = c.card := rfl
@[simp] theorem busWrite_events (a : Nat) (bs : List Byte) (c : Chip) : (busWrite a bs c).events = c.events := rfl
@[simp] theorem busWrite_now (a : Nat) (bs : List Byte) (c : Chip) : (busWrite a bs c).now = c.now := rfl
@[simp] theorem busWrite_freeIndex (a : Nat) (bs : List Byte) (c : Chip) : (busWrite a bs c).freeIndex = c.freeIndex := rfl

@[simp] theorem setZoom_port (f : Zoom → Zoom) (c : Chip) : (setZoom f c).port = c.port := rfl
@[simp] theorem setZoom_scan (f : Zoom → Zoom) (c : Chip) : (setZoom f c).scan = c.scan := rfl
@[simp] theorem setZoom_records (f : Zoom → Zoom) (c : Chip) : (setZoom f c).records = c.records := rfl
@[simp] theorem setZoom_service (f : Zoom → Zoom) (c : Chip) : (setZoom f c).service = c.service := rfl
@[simp] theorem setZoom_notices (f : Zoom → Zoom) (c : Chip) : (setZoom f c).notices = c.notices := rfl
@[simp] theorem setZoom_answers (f : Zoom → Zoom) (c : Chip) : (setZoom f c).answers = c.answers := rfl
@[simp] theorem setZoom_settings (f : Zoom → Zoom) (c : Chip) : (setZoom f c).settings = c.settings := rfl
@[simp] theorem setZoom_pixel (f : Zoom → Zoom) (c : Chip) : (setZoom f c).pixel = c.pixel := rfl
@[simp] theorem setZoom_flicker (f : Zoom → Zoom) (c : Chip) : (setZoom f c).flicker = c.flicker := rfl
@[simp] theorem setZoom_tables (f : Zoom → Zoom) (c : Chip) : (setZoom f c).tables = c.tables := rfl
@[simp] theorem setZoom_wear (f : Zoom → Zoom) (c : Chip) : (setZoom f c).wear = c.wear := rfl
@[simp] theorem setZoom_focus (f : Zoom → Zoom) (c : Chip) : (setZoom f c).focus = c.focus := rfl
@[simp] theorem setZoom_control (f : Zoom → Zoom) (c : Chip) : (setZoom f c).control = c.control := rfl
@[simp] theorem setZoom_search (f : Zoom → Zoom) (c : Chip) : (setZoom f c).search = c.search := rfl
@[simp] theorem setZoom_following (f : Zoom → Zoom) (c : Chip) : (setZoom f c).following = c.following := rfl
@[simp] theorem setZoom_exposure (f : Zoom → Zoom) (c : Chip) : (setZoom f c).exposure = c.exposure := rfl
@[simp] theorem setZoom_stab (f : Zoom → Zoom) (c : Chip) : (setZoom f c).stab = c.stab := rfl
@[simp] theorem setZoom_capture (f : Zoom → Zoom) (c : Chip) : (setZoom f c).capture = c.capture := rfl
@[simp] theorem setZoom_slots (f : Zoom → Zoom) (c : Chip) : (setZoom f c).slots = c.slots := rfl
@[simp] theorem setZoom_store (f : Zoom → Zoom) (c : Chip) : (setZoom f c).store = c.store := rfl
@[simp] theorem setZoom_card (f : Zoom → Zoom) (c : Chip) : (setZoom f c).card = c.card := rfl
@[simp] theorem setZoom_events (f : Zoom → Zoom) (c : Chip) : (setZoom f c).events = c.events := rfl
@[simp] theorem setZoom_busOut (f : Zoom → Zoom) (c : Chip) : (setZoom f c).busOut = c.busOut := rfl
@[simp] theorem setZoom_now (f : Zoom → Zoom) (c : Chip) : (setZoom f c).now = c.now := rfl
@[simp] theorem setZoom_freeIndex (f : Zoom → Zoom) (c : Chip) : (setZoom f c).freeIndex = c.freeIndex := rfl

@[simp] theorem setFocus_port (f : Focus → Focus) (c : Chip) : (setFocus f c).port = c.port := rfl
@[simp] theorem setFocus_scan (f : Focus → Focus) (c : Chip) : (setFocus f c).scan = c.scan := rfl
@[simp] theorem setFocus_records (f : Focus → Focus) (c : Chip) : (setFocus f c).records = c.records := rfl
@[simp] theorem setFocus_service (f : Focus → Focus) (c : Chip) : (setFocus f c).service = c.service := rfl
@[simp] theorem setFocus_notices (f : Focus → Focus) (c : Chip) : (setFocus f c).notices = c.notices := rfl
@[simp] theorem setFocus_answers (f : Focus → Focus) (c : Chip) : (setFocus f c).answers = c.answers := rfl
@[simp] theorem setFocus_settings (f : Focus → Focus) (c : Chip) : (setFocus f c).settings = c.settings := rfl
@[simp] theorem setFocus_pixel (f : Focus → Focus) (c : Chip) : (setFocus f c).pixel = c.pixel := rfl
@[simp] theorem setFocus_flicker (f : Focus → Focus) (c : Chip) : (setFocus f c).flicker = c.flicker := rfl
@[simp] theorem setFocus_tables (f : Focus → Focus) (c : Chip) : (setFocus f c).tables = c.tables := rfl
@[simp] theorem setFocus_wear (f : Focus → Focus) (c : Chip) : (setFocus f c).wear = c.wear := rfl
@[simp] theorem setFocus_zoom (f : Focus → Focus) (c : Chip) : (setFocus f c).zoom = c.zoom := rfl
@[simp] theorem setFocus_control (f : Focus → Focus) (c : Chip) : (setFocus f c).control = c.control := rfl
@[simp] theorem setFocus_search (f : Focus → Focus) (c : Chip) : (setFocus f c).search = c.search := rfl
@[simp] theorem setFocus_following (f : Focus → Focus) (c : Chip) : (setFocus f c).following = c.following := rfl
@[simp] theorem setFocus_exposure (f : Focus → Focus) (c : Chip) : (setFocus f c).exposure = c.exposure := rfl
@[simp] theorem setFocus_stab (f : Focus → Focus) (c : Chip) : (setFocus f c).stab = c.stab := rfl
@[simp] theorem setFocus_capture (f : Focus → Focus) (c : Chip) : (setFocus f c).capture = c.capture := rfl
@[simp] theorem setFocus_slots (f : Focus → Focus) (c : Chip) : (setFocus f c).slots = c.slots := rfl
@[simp] theorem setFocus_store (f : Focus → Focus) (c : Chip) : (setFocus f c).store = c.store := rfl
@[simp] theorem setFocus_card (f : Focus → Focus) (c : Chip) : (setFocus f c).card = c.card := rfl
@[simp] theorem setFocus_events (f : Focus → Focus) (c : Chip) : (setFocus f c).events = c.events := rfl
@[simp] theorem setFocus_busOut (f : Focus → Focus) (c : Chip) : (setFocus f c).busOut = c.busOut := rfl
@[simp] theorem setFocus_now (f : Focus → Focus) (c : Chip) : (setFocus f c).now = c.now := rfl
@[simp] theorem setFocus_freeIndex (f : Focus → Focus) (c : Chip) : (setFocus f c).freeIndex = c.freeIndex := rfl

@[simp] theorem setPixel_port (f : Pixel → Pixel) (c : Chip) : (setPixel f c).port = c.port := rfl
@[simp] theorem setPixel_scan (f : Pixel → Pixel) (c : Chip) : (setPixel f c).scan = c.scan := rfl
@[simp] theorem setPixel_records (f : Pixel → Pixel) (c : Chip) : (setPixel f c).records = c.records := rfl
@[simp] theorem setPixel_service (f : Pixel → Pixel) (c : Chip) : (setPixel f c).service = c.service := rfl
@[simp] theorem setPixel_notices (f : Pixel → Pixel) (c : Chip) : (setPixel f c).notices = c.notices := rfl
@[simp] theorem setPixel_answers (f : Pixel → Pixel) (c : Chip) : (setPixel f c).answers = c.answers := rfl
@[simp] theorem setPixel_settings (f : Pixel → Pixel) (c : Chip) : (setPixel f c).settings = c.settings := rfl
@[simp] theorem setPixel_flicker (f : Pixel → Pixel) (c : Chip) : (setPixel f c).flicker = c.flicker := rfl
@[simp] theorem setPixel_tables (f : Pixel → Pixel) (c : Chip) : (setPixel f c).tables = c.tables := rfl
@[simp] theorem setPixel_wear (f : Pixel → Pixel) (c : Chip) : (setPixel f c).wear = c.wear := rfl
@[simp] theorem setPixel_zoom (f : Pixel → Pixel) (c : Chip) : (setPixel f c).zoom = c.zoom := rfl
@[simp] theorem setPixel_focus (f : Pixel → Pixel) (c : Chip) : (setPixel f c).focus = c.focus := rfl
@[simp] theorem setPixel_control (f : Pixel → Pixel) (c : Chip) : (setPixel f c).control = c.control := rfl
@[simp] theorem setPixel_search (f : Pixel → Pixel) (c : Chip) : (setPixel f c).search = c.search := rfl
@[simp] theorem setPixel_following (f : Pixel → Pixel) (c : Chip) : (setPixel f c).following = c.following := rfl
@[simp] theorem setPixel_exposure (f : Pixel → Pixel) (c : Chip) : (setPixel f c).exposure = c.exposure := rfl
@[simp] theorem setPixel_stab (f : Pixel → Pixel) (c : Chip) : (setPixel f c).stab = c.stab := rfl
@[simp] theorem setPixel_capture (f : Pixel → Pixel) (c : Chip) : (setPixel f c).capture = c.capture := rfl
@[simp] theorem setPixel_slots (f : Pixel → Pixel) (c : Chip) : (setPixel f c).slots = c.slots := rfl
@[simp] theorem setPixel_store (f : Pixel → Pixel) (c : Chip) : (setPixel f c).store = c.store := rfl
@[simp] theorem setPixel_card (f : Pixel → Pixel) (c : Chip) : (setPixel f c).card = c.card := rfl
@[simp] theorem setPixel_events (f : Pixel → Pixel) (c : Chip) : (setPixel f c).events = c.events := rfl
@[simp] theorem setPixel_busOut (f : Pixel → Pixel) (c : Chip) : (setPixel f c).busOut = c.busOut := rfl
@[simp] theorem setPixel_now (f : Pixel → Pixel) (c : Chip) : (setPixel f c).now = c.now := rfl
@[simp] theorem setPixel_freeIndex (f : Pixel → Pixel) (c : Chip) : (setPixel f c).freeIndex = c.freeIndex := rfl

@[simp] theorem setPort_scan (f : Port → Port) (c : Chip) : (setPort f c).scan = c.scan := rfl
@[simp] theorem setPort_records (f : Port → Port) (c : Chip) : (setPort f c).records = c.records := rfl
@[simp] theorem setPort_service (f : Port → Port) (c : Chip) : (setPort f c).service = c.service := rfl
@[simp] theorem setPort_notices (f : Port → Port) (c : Chip) : (setPort f c).notices = c.notices := rfl
@[simp] theorem setPort_answers (f : Port → Port) (c : Chip) : (setPort f c).answers = c.answers := rfl
@[simp] theorem setPort_settings (f : Port → Port) (c : Chip) : (setPort f c).settings = c.settings := rfl
@[simp] theorem setPort_pixel (f : Port → Port) (c : Chip) : (setPort f c).pixel = c.pixel := rfl
@[simp] theorem setPort_flicker (f : Port → Port) (c : Chip) : (setPort f c).flicker = c.flicker := rfl
@[simp] theorem setPort_tables (f : Port → Port) (c : Chip) : (setPort f c).tables = c.tables := rfl
@[simp] theorem setPort_wear (f : Port → Port) (c : Chip) : (setPort f c).wear = c.wear := rfl
@[simp] theorem setPort_zoom (f : Port → Port) (c : Chip) : (setPort f c).zoom = c.zoom := rfl
@[simp] theorem setPort_focus (f : Port → Port) (c : Chip) : (setPort f c).focus = c.focus := rfl
@[simp] theorem setPort_control (f : Port → Port) (c : Chip) : (setPort f c).control = c.control := rfl
@[simp] theorem setPort_search (f : Port → Port) (c : Chip) : (setPort f c).search = c.search := rfl
@[simp] theorem setPort_following (f : Port → Port) (c : Chip) : (setPort f c).following = c.following := rfl
@[simp] theorem setPort_exposure (f : Port → Port) (c : Chip) : (setPort f c).exposure = c.exposure := rfl
@[simp] theorem setPort_stab (f : Port → Port) (c : Chip) : (setPort f c).stab = c.stab := rfl
@[simp] theorem setPort_capture (f : Port → Port) (c : Chip) : (setPort f c).capture = c.capture := rfl
@[simp] theorem setPort_slots (f : Port → Port) (c : Chip) : (setPort f c).slots = c.slots := rfl
@[simp] theorem setPort_store (f : Port → Port) (c : Chip) : (setPort f c).store = c.store := rfl
@[simp] theorem setPort_card (f : Port → Port) (c : Chip) : (setPort f c).card = c.card := rfl
@[simp] theorem setPort_events (f : Port → Port) (c : Chip) : (setPort f c).events = c.events := rfl
@[simp] theorem setPort_busOut (f : Port → Port) (c : Chip) : (setPort f c).busOut = c.busOut := rfl
@[simp] theorem setPort_now (f : Port → Port) (c : Chip) : (setPort f c).now = c.now := rfl
@[simp] theorem setPort_freeIndex (f : Port → Port) (c : Chip) : (setPort f c).freeIndex = c.freeIndex := rfl

@[simp] theorem setScan_port (f : Scan → Scan) (c : Chip) : (setScan f c).port = c.port := rfl
@[simp] theorem setScan_records (f : Scan → Scan) (c : Chip) : (setScan f c).records = c.records := rfl
@[simp] theorem setScan_service (f : Scan → Scan) (c : Chip) : (setScan f c).service = c.service := rfl
@[simp] theorem setScan_notices (f : Scan → Scan) (c : Chip) : (setScan f c).notices = c.notices := rfl
@[simp] theorem setScan_answers (f : Scan → Scan) (c : Chip) : (setScan f c).answers = c.answers := rfl
@[simp] theorem setScan_settings (f : Scan → Scan) (c : Chip) : (setScan f c).settings = c.settings := rfl
@[simp] theorem setScan_pixel (f : Scan → Scan) (c : Chip) : (setScan f c).pixel = c.pixel := rfl
@[simp] theorem setScan_flicker (f : Scan → Scan) (c : Chip) : (setScan f c).flicker = c.flicker := rfl
@[simp] theorem setScan_tables (f : Scan → Scan) (c : Chip) : (setScan f c).tables = c.tables := rfl
@[simp] theorem setScan_wear (f : Scan → Scan) (c : Chip) : (setScan f c).wear = c.wear := rfl
@[simp] theorem setScan_zoom (f : Scan → Scan) (c : Chip) : (setScan f c).zoom = c.zoom := rfl
@[simp] theorem setScan_focus (f : Scan → Scan) (c : Chip) : (setScan f c).focus = c.focus := rfl
@[simp] theorem setScan_control (f : Scan → Scan) (c : Chip) : (setScan f c).control = c.control := rfl
@[simp] theorem setScan_search (f : Scan → Scan) (c : Chip) : (setScan f c).search = c.search := rfl
@[simp] theorem setScan_following (f : Scan → Scan) (c : Chip) : (setScan f c).following = c.following := rfl
@[simp] theorem setScan_exposure (f : Scan → Scan) (c : Chip) : (setScan f c).exposure = c.exposure := rfl
@[simp] theorem setScan_stab (f : Scan → Scan) (c : Chip) : (setScan f c).stab = c.stab := rfl
@[simp] theorem setScan_capture (f : Scan → Scan) (c : Chip) : (setScan f c).capture = c.capture := rfl
@[simp] theorem setScan_slots (f : Scan → Scan) (c : Chip) : (setScan f c).slots = c.slots := rfl
@[simp] theorem setScan_store (f : Scan → Scan) (c : Chip) : (setScan f c).store = c.store := rfl
@[simp] theorem setScan_card (f : Scan → Scan) (c : Chip) : (setScan f c).card = c.card := rfl
@[simp] theorem setScan_events (f : Scan → Scan) (c : Chip) : (setScan f c).events = c.events := rfl
@[simp] theorem setScan_busOut (f : Scan → Scan) (c : Chip) : (setScan f c).busOut = c.busOut := rfl
@[simp] theorem setScan_now (f : Scan → Scan) (c : Chip) : (setScan f c).now = c.now := rfl
@[simp] theorem setScan_freeIndex (f : Scan → Scan) (c : Chip) : (setScan f c).freeIndex = c.freeIndex := rfl

@[simp] theorem setRun_port (f : Run → Run) (c : Chip) : (setRun f c).port = c.port := rfl
@[simp] theorem setRun_scan (f : Run → Run) (c : Chip) : (setRun f c).scan = c.scan := rfl
@[simp] theorem setRun_records (f : Run → Run) (c : Chip) : (setRun f c).records = c.records := rfl
@[simp] theorem setRun_service (f : Run → Run) (c : Chip) : (setRun f c).service = c.service := rfl
@[simp] theorem setRun_notices (f : Run → Run) (c : Chip) : (setRun f c).notices = c.notices := rfl
@[simp] theorem setRun_answers (f : Run → Run) (c : Chip) : (setRun f c).answers = c.answers := rfl
@[simp] theorem setRun_settings (f : Run → Run) (c : Chip) : (setRun f c).settings = c.settings := rfl
@[simp] theorem setRun_pixel (f : Run → Run) (c : Chip) : (setRun f c).pixel = c.pixel := rfl
@[simp] theorem setRun_flicker (f : Run → Run) (c : Chip) : (setRun f c).flicker = c.flicker := rfl
@[simp] theorem setRun_tables (f : Run → Run) (c : Chip) : (setRun f c).tables = c.tables := rfl
@[simp] theorem setRun_wear (f : Run → Run) (c : Chip) : (setRun f c).wear = c.wear := rfl
@[simp] theorem setRun_zoom (f : Run → Run) (c : Chip) : (setRun f c).zoom = c.zoom := rfl
@[simp] theorem setRun_focus (f : Run → Run) (c : Chip) : (setRun f c).focus = c.focus := rfl
@[simp] theorem setRun_control (f : Run → Run) (c : Chip) : (setRun f c).control = c.control := rfl
@[simp] theorem setRun_search (f : Run → Run) (c : Chip) : (setRun f c).search = c.search := rfl
@[simp] theorem setRun_following (f : Run → Run) (c : Chip) : (setRun f c).following = c.following := rfl
@[simp] theorem setRun_exposure (f : Run → Run) (c : Chip) : (setRun f c).exposure = c.exposure := rfl
@[simp] theorem setRun_stab (f : Run → Run) (c : Chip) : (setRun f c).stab = c.stab := rfl
@[simp] theorem setRun_capture (f : Run → Run) (c : Chip) : (setRun f c).capture = c.capture := rfl
@[simp] theorem setRun_slots (f : Run → Run) (c : Chip) : (setRun f c).slots = c.slots := rfl
@[simp] theorem setRun_store (f : Run → Run) (c : Chip) : (setRun f c).store = c.store := rfl
@[simp] theorem setRun_events (f : Run → Run) (c : Chip) : (setRun f c).events = c.events := rfl
@[simp] theorem setRun_busOut (f : Run → Run) (c : Chip) : (setRun f c).busOut = c.busOut := rfl
@[simp] theorem setRun_now (f : Run → Run) (c : Chip) : (setRun f c).now = c.now := rfl
@[simp] theorem setRun_freeIndex (f : Run → Run) (c : Chip) : (setRun f c).freeIndex = c.freeIndex := rfl

@[simp] theorem evalLines_scan (c : Chip) : (evalLines c).scan = c.scan := rfl
@[simp] theorem evalLines_records (c : Chip) : (evalLines c).records = c.records := rfl
@[simp] theorem evalLines_service (c : Chip) : (evalLines c).service = c.service := rfl
@[simp] theorem evalLines_notices (c : Chip) : (evalLines c).notices = c.notices := rfl
@[simp] theorem evalLines_answers (c : Chip) : (evalLines c).answers = c.answers := rfl
@[simp] theorem evalLines_settings (c : Chip) : (evalLines c).settings = c.settings := rfl
@[simp] theorem evalLines_pixel (c : Chip) : (evalLines c).pixel = c.pixel := rfl
@[simp] theorem evalLines_flicker (c : Chip) : (evalLines c).flicker = c.flicker := rfl
@[simp] theorem evalLines_tables (c : Chip) : (evalLines c).tables = c.tables := rfl
@[simp] theorem evalLines_wear (c : Chip) : (evalLines c).wear = c.wear := rfl
@[simp] theorem evalLines_zoom (c : Chip) : (evalLines c).zoom = c.zoom := rfl
@[simp] theorem evalLines_focus (c : Chip) : (evalLines c).focus = c.focus := rfl
@[simp] theorem evalLines_control (c : Chip) : (evalLines c).control = c.control := rfl
@[simp] theorem evalLines_search (c : Chip) : (evalLines c).search = c.search := rfl
@[simp] theorem evalLines_following (c : Chip) : (evalLines c).following = c.following := rfl
@[simp] theorem evalLines_exposure (c : Chip) : (evalLines c).exposure = c.exposure := rfl
@[simp] theorem evalLines_stab (c : Chip) : (evalLines c).stab = c.stab := rfl
@[simp] theorem evalLines_capture (c : Chip) : (evalLines c).capture = c.capture := rfl
@[simp] theorem evalLines_slots (c : Chip) : (evalLines c).slots = c.slots := rfl
@[simp] theorem evalLines_store (c : Chip) : (evalLines c).store = c.store := rfl
@[simp] theorem evalLines_card (c : Chip) : (evalLines c).card = c.card := rfl
@[simp] theorem evalLines_events (c : Chip) : (evalLines c).events = c.events := rfl
@[simp] theorem evalLines_busOut (c : Chip) : (evalLines c).busOut = c.busOut := rfl
@[simp] theorem evalLines_now (c : Chip) : (evalLines c).now = c.now := rfl
@[simp] theorem evalLines_freeIndex (c : Chip) : (evalLines c).freeIndex = c.freeIndex := rfl

/-! A zoom count marks no record (R69). -/

@[simp] theorem zoneCheck_answers (c : Chip) : (zoneCheck c).answers = c.answers := by
  unfold zoneCheck; dsimp only; (repeat' split) <;> rfl
@[simp] theorem openDrift_answers (c : Chip) : (openDrift c).answers = c.answers := by
  unfold openDrift; split <;> rfl

/-! ### What an operation writes -/

@[simp] theorem mark_marks (a : AnswerId) (c : Chip) :
    (mark a c).answers.marks = c.answers.marks.set (answerIndex a) true := rfl
@[simp] theorem mark_zoomPart (a : AnswerId) (c : Chip) : (mark a c).answers.zoomPart = c.answers.zoomPart := rfl
@[simp] theorem mark_focusPart (a : AnswerId) (c : Chip) : (mark a c).answers.focusPart = c.answers.focusPart := rfl
@[simp] theorem mark_zoomEvent (a : AnswerId) (c : Chip) : (mark a c).answers.zoomEvent = c.answers.zoomEvent := rfl
@[simp] theorem mark_focusEvent (a : AnswerId) (c : Chip) : (mark a c).answers.focusEvent = c.answers.focusEvent := rfl
@[simp] theorem markZoomPart_marks (c : Chip) :
    (markZoomPart c).answers.marks = c.answers.marks.set (answerIndex .lens) true := rfl
@[simp] theorem markZoomPart_zoomEvent (c : Chip) : (markZoomPart c).answers.zoomEvent = true := rfl
@[simp] theorem markZoomPart_focusEvent (c : Chip) : (markZoomPart c).answers.focusEvent = c.answers.focusEvent := rfl
@[simp] theorem markZoomPart_zoomPart (c : Chip) : (markZoomPart c).answers.zoomPart = c.answers.zoomPart := rfl
@[simp] theorem markZoomPart_focusPart (c : Chip) : (markZoomPart c).answers.focusPart = c.answers.focusPart := rfl
@[simp] theorem markFocusPart_marks (c : Chip) :
    (markFocusPart c).answers.marks = c.answers.marks.set (answerIndex .lens) true := rfl
@[simp] theorem markFocusPart_zoomEvent (c : Chip) : (markFocusPart c).answers.zoomEvent = c.answers.zoomEvent := rfl
@[simp] theorem markFocusPart_focusEvent (c : Chip) : (markFocusPart c).answers.focusEvent = true := rfl
@[simp] theorem markFocusPart_zoomPart (c : Chip) : (markFocusPart c).answers.zoomPart = c.answers.zoomPart := rfl
@[simp] theorem markFocusPart_focusPart (c : Chip) : (markFocusPart c).answers.focusPart = c.answers.focusPart := rfl
@[simp] theorem takeLensParts_zoomPart (c : Chip) : (takeLensParts c).answers.zoomPart =
    if c.answers.zoomEvent then zoomPartOf c.zoom else c.answers.zoomPart := rfl
@[simp] theorem takeLensParts_focusPart (c : Chip) : (takeLensParts c).answers.focusPart =
    if c.answers.focusEvent then focusPartOf c.focus else c.answers.focusPart := rfl
@[simp] theorem takeLensParts_zoomEvent (c : Chip) : (takeLensParts c).answers.zoomEvent = false := rfl
@[simp] theorem takeLensParts_focusEvent (c : Chip) : (takeLensParts c).answers.focusEvent = false := rfl
@[simp] theorem takeLensParts_stamps (c : Chip) : (takeLensParts c).answers.stamps = c.answers.stamps := rfl
@[simp] theorem takeLensParts_marks (c : Chip) : (takeLensParts c).answers.marks = c.answers.marks := rfl
@[simp] theorem takeLensParts_finishing (c : Chip) : (takeLensParts c).answers.finishing = c.answers.finishing := rfl
@[simp] theorem takeLensParts_last (c : Chip) : (takeLensParts c).answers.last = c.answers.last := rfl
@[simp] theorem takeLensParts_inFlight (c : Chip) : (takeLensParts c).answers.inFlight = c.answers.inFlight := rfl
@[simp] theorem mark_inFlight (a : AnswerId) (c : Chip) : (mark a c).answers.inFlight = c.answers.inFlight := rfl
@[simp] theorem mark_last (a : AnswerId) (c : Chip) : (mark a c).answers.last = c.answers.last := rfl
@[simp] theorem notice_counts (k : NoticeClass) (c : Chip) :
    (notice k c).notices.counts = c.notices.counts.modify k.ctorIdx (· + 1) := rfl
@[simp] theorem notice_seen (k : NoticeClass) (c : Chip) : (notice k c).notices.seen = c.notices.seen := rfl
@[simp] theorem raise_appends (e : Event) (c : Chip) : (raise e c).events = c.events ++ [e] := rfl
@[simp] theorem busWrite_appends (a : Nat) (bs : List Byte) (c : Chip) :
    (busWrite a bs c).busOut = c.busOut ++ [(a, bs)] := rfl
@[simp] theorem setRecord_sets (r : RecordId) (e : RecordState) (c : Chip) :
    (setRecord r e c).records = c.records.set (recordIndex r) e := rfl
@[simp] theorem setZoom_sets (f : Zoom → Zoom) (c : Chip) : (setZoom f c).zoom = f c.zoom := rfl
@[simp] theorem setFocus_sets (f : Focus → Focus) (c : Chip) : (setFocus f c).focus = f c.focus := rfl
@[simp] theorem setPixel_sets (f : Pixel → Pixel) (c : Chip) : (setPixel f c).pixel = f c.pixel := rfl
@[simp] theorem setPort_sets (f : Port → Port) (c : Chip) : (setPort f c).port = f c.port := rfl
@[simp] theorem setScan_sets (f : Scan → Scan) (c : Chip) : (setScan f c).scan = f c.scan := rfl

end Sys2Proof.Machine
end

