-- ==== Sys2Proof/Laws/Conclude.lean ====
section
/-! SUPPORT. The end of every command: what concluding leaves, what it does to the notice lines and to the bus, and the drives'
parts of LENS. -/

namespace Sys2Proof.Machine

theorem settle_of_no_events (c : Chip) (h : c.events = []) : settle c = c := by
  unfold settle eventLimit drain
  rw [h]

/-! ### Fields that the end of a command leaves when no event waits -/

theorem setFollowing_scan (w : Following → Following) (c : Chip) : (setFollowing w c).scan = c.scan := by
  unfold setFollowing; dsimp only; split <;> rfl

@[simp] theorem evalFollowing_scan (c : Chip) : (evalFollowing c).scan = c.scan := by
  unfold evalFollowing watchKeepingStep
  split
  · rfl
  · split <;> simp only [setFollowing_scan]

theorem setFollowing_records (w : Following → Following) (c : Chip) : (setFollowing w c).records = c.records := by
  unfold setFollowing; dsimp only; split <;> rfl

@[simp] theorem evalFollowing_records (c : Chip) : (evalFollowing c).records = c.records := by
  unfold evalFollowing watchKeepingStep
  split
  · rfl
  · split <;> simp only [setFollowing_records]

theorem setFollowing_service (w : Following → Following) (c : Chip) : (setFollowing w c).service = c.service := by
  unfold setFollowing; dsimp only; split <;> rfl

@[simp] theorem evalFollowing_service (c : Chip) : (evalFollowing c).service = c.service := by
  unfold evalFollowing watchKeepingStep
  split
  · rfl
  · split <;> simp only [setFollowing_service]

theorem setFollowing_notices (w : Following → Following) (c : Chip) : (setFollowing w c).notices = c.notices := by
  unfold setFollowing; dsimp only; split <;> rfl

@[simp] theorem evalFollowing_notices (c : Chip) : (evalFollowing c).notices = c.notices := by
  unfold evalFollowing watchKeepingStep
  split
  · rfl
  · split <;> simp only [setFollowing_notices]

theorem setFollowing_settings (w : Following → Following) (c : Chip) : (setFollowing w c).settings = c.settings := by
  unfold setFollowing; dsimp only; split <;> rfl

@[simp] theorem evalFollowing_settings (c : Chip) : (evalFollowing c).settings = c.settings := by
  unfold evalFollowing watchKeepingStep
  split
  · rfl
  · split <;> simp only [setFollowing_settings]

theorem setFollowing_pixel (w : Following → Following) (c : Chip) : (setFollowing w c).pixel = c.pixel := by
  unfold setFollowing; dsimp only; split <;> rfl

@[simp] theorem evalFollowing_pixel (c : Chip) : (evalFollowing c).pixel = c.pixel := by
  unfold evalFollowing watchKeepingStep
  split
  · rfl
  · split <;> simp only [setFollowing_pixel]

theorem setFollowing_flicker (w : Following → Following) (c : Chip) : (setFollowing w c).flicker = c.flicker := by
  unfold setFollowing; dsimp only; split <;> rfl

@[simp] theorem evalFollowing_flicker (c : Chip) : (evalFollowing c).flicker = c.flicker := by
  unfold evalFollowing watchKeepingStep
  split
  · rfl
  · split <;> simp only [setFollowing_flicker]

theorem setFollowing_tables (w : Following → Following) (c : Chip) : (setFollowing w c).tables = c.tables := by
  unfold setFollowing; dsimp only; split <;> rfl

@[simp] theorem evalFollowing_tables (c : Chip) : (evalFollowing c).tables = c.tables := by
  unfold evalFollowing watchKeepingStep
  split
  · rfl
  · split <;> simp only [setFollowing_tables]

theorem setFollowing_wear (w : Following → Following) (c : Chip) : (setFollowing w c).wear = c.wear := by
  unfold setFollowing; dsimp only; split <;> rfl

@[simp] theorem evalFollowing_wear (c : Chip) : (evalFollowing c).wear = c.wear := by
  unfold evalFollowing watchKeepingStep
  split
  · rfl
  · split <;> simp only [setFollowing_wear]

theorem setFollowing_zoom (w : Following → Following) (c : Chip) : (setFollowing w c).zoom = c.zoom := by
  unfold setFollowing; dsimp only; split <;> rfl

@[simp] theorem evalFollowing_zoom (c : Chip) : (evalFollowing c).zoom = c.zoom := by
  unfold evalFollowing watchKeepingStep
  split
  · rfl
  · split <;> simp only [setFollowing_zoom]

theorem setFollowing_focus (w : Following → Following) (c : Chip) : (setFollowing w c).focus = c.focus := by
  unfold setFollowing; dsimp only; split <;> rfl

@[simp] theorem evalFollowing_focus (c : Chip) : (evalFollowing c).focus = c.focus := by
  unfold evalFollowing watchKeepingStep
  split
  · rfl
  · split <;> simp only [setFollowing_focus]

theorem setFollowing_control (w : Following → Following) (c : Chip) : (setFollowing w c).control = c.control := by
  unfold setFollowing; dsimp only; split <;> rfl

@[simp] theorem evalFollowing_control (c : Chip) : (evalFollowing c).control = c.control := by
  unfold evalFollowing watchKeepingStep
  split
  · rfl
  · split <;> simp only [setFollowing_control]

theorem setFollowing_search (w : Following → Following) (c : Chip) : (setFollowing w c).search = c.search := by
  unfold setFollowing; dsimp only; split <;> rfl

@[simp] theorem evalFollowing_search (c : Chip) : (evalFollowing c).search = c.search := by
  unfold evalFollowing watchKeepingStep
  split
  · rfl
  · split <;> simp only [setFollowing_search]

theorem setFollowing_exposure (w : Following → Following) (c : Chip) : (setFollowing w c).exposure = c.exposure := by
  unfold setFollowing; dsimp only; split <;> rfl

@[simp] theorem evalFollowing_exposure (c : Chip) : (evalFollowing c).exposure = c.exposure := by
  unfold evalFollowing watchKeepingStep
  split
  · rfl
  · split <;> simp only [setFollowing_exposure]

theorem setFollowing_stab (w : Following → Following) (c : Chip) : (setFollowing w c).stab = c.stab := by
  unfold setFollowing; dsimp only; split <;> rfl

@[simp] theorem evalFollowing_stab (c : Chip) : (evalFollowing c).stab = c.stab := by
  unfold evalFollowing watchKeepingStep
  split
  · rfl
  · split <;> simp only [setFollowing_stab]

theorem setFollowing_capture (w : Following → Following) (c : Chip) : (setFollowing w c).capture = c.capture := by
  unfold setFollowing; dsimp only; split <;> rfl

@[simp] theorem evalFollowing_capture (c : Chip) : (evalFollowing c).capture = c.capture := by
  unfold evalFollowing watchKeepingStep
  split
  · rfl
  · split <;> simp only [setFollowing_capture]

theorem setFollowing_slots (w : Following → Following) (c : Chip) : (setFollowing w c).slots = c.slots := by
  unfold setFollowing; dsimp only; split <;> rfl

@[simp] theorem evalFollowing_slots (c : Chip) : (evalFollowing c).slots = c.slots := by
  unfold evalFollowing watchKeepingStep
  split
  · rfl
  · split <;> simp only [setFollowing_slots]

theorem setFollowing_store (w : Following → Following) (c : Chip) : (setFollowing w c).store = c.store := by
  unfold setFollowing; dsimp only; split <;> rfl

@[simp] theorem evalFollowing_store (c : Chip) : (evalFollowing c).store = c.store := by
  unfold evalFollowing watchKeepingStep
  split
  · rfl
  · split <;> simp only [setFollowing_store]

theorem setFollowing_card (w : Following → Following) (c : Chip) : (setFollowing w c).card = c.card := by
  unfold setFollowing; dsimp only; split <;> rfl

@[simp] theorem evalFollowing_card (c : Chip) : (evalFollowing c).card = c.card := by
  unfold evalFollowing watchKeepingStep
  split
  · rfl
  · split <;> simp only [setFollowing_card]

theorem setFollowing_events (w : Following → Following) (c : Chip) : (setFollowing w c).events = c.events := by
  unfold setFollowing; dsimp only; split <;> rfl

@[simp] theorem evalFollowing_events (c : Chip) : (evalFollowing c).events = c.events := by
  unfold evalFollowing watchKeepingStep
  split
  · rfl
  · split <;> simp only [setFollowing_events]

theorem setFollowing_now (w : Following → Following) (c : Chip) : (setFollowing w c).now = c.now := by
  unfold setFollowing; dsimp only; split <;> rfl

@[simp] theorem evalFollowing_now (c : Chip) : (evalFollowing c).now = c.now := by
  unfold evalFollowing watchKeepingStep
  split
  · rfl
  · split <;> simp only [setFollowing_now]

theorem setFollowing_freeIndex (w : Following → Following) (c : Chip) : (setFollowing w c).freeIndex = c.freeIndex := by
  unfold setFollowing; dsimp only; split <;> rfl

@[simp] theorem evalFollowing_freeIndex (c : Chip) : (evalFollowing c).freeIndex = c.freeIndex := by
  unfold evalFollowing watchKeepingStep
  split
  · rfl
  · split <;> simp only [setFollowing_freeIndex]

theorem setFollowing_port (w : Following → Following) (c : Chip) : (setFollowing w c).port = c.port := by
  unfold setFollowing; dsimp only; split <;> rfl

@[simp] theorem evalFollowing_port (c : Chip) : (evalFollowing c).port = c.port := by
  unfold evalFollowing watchKeepingStep
  split
  · rfl
  · split <;> simp only [setFollowing_port]

theorem setFollowing_busOut (w : Following → Following) (c : Chip) : (setFollowing w c).busOut = c.busOut := by
  unfold setFollowing; dsimp only; split <;> rfl

@[simp] theorem evalFollowing_busOut (c : Chip) : (evalFollowing c).busOut = c.busOut := by
  unfold evalFollowing watchKeepingStep
  split
  · rfl
  · split <;> simp only [setFollowing_busOut]

@[simp] theorem writeNext_scan (c : Chip) : (writeNext c).scan = c.scan := by
  unfold writeNext; split
  · rfl
  · split <;> rfl

@[simp] theorem writeNext_records (c : Chip) : (writeNext c).records = c.records := by
  unfold writeNext; split
  · rfl
  · split <;> rfl

@[simp] theorem writeNext_service (c : Chip) : (writeNext c).service = c.service := by
  unfold writeNext; split
  · rfl
  · split <;> rfl

@[simp] theorem writeNext_notices (c : Chip) : (writeNext c).notices = c.notices := by
  unfold writeNext; split
  · rfl
  · split <;> rfl

@[simp] theorem writeNext_settings (c : Chip) : (writeNext c).settings = c.settings := by
  unfold writeNext; split
  · rfl
  · split <;> rfl

@[simp] theorem writeNext_pixel (c : Chip) : (writeNext c).pixel = c.pixel := by
  unfold writeNext; split
  · rfl
  · split <;> rfl

@[simp] theorem writeNext_flicker (c : Chip) : (writeNext c).flicker = c.flicker := by
  unfold writeNext; split
  · rfl
  · split <;> rfl

@[simp] theorem writeNext_tables (c : Chip) : (writeNext c).tables = c.tables := by
  unfold writeNext; split
  · rfl
  · split <;> rfl

@[simp] theorem writeNext_wear (c : Chip) : (writeNext c).wear = c.wear := by
  unfold writeNext; split
  · rfl
  · split <;> rfl

@[simp] theorem writeNext_zoom (c : Chip) : (writeNext c).zoom = c.zoom := by
  unfold writeNext; split
  · rfl
  · split <;> rfl

@[simp] theorem writeNext_focus (c : Chip) : (writeNext c).focus = c.focus := by
  unfold writeNext; split
  · rfl
  · split <;> rfl

@[simp] theorem writeNext_control (c : Chip) : (writeNext c).control = c.control := by
  unfold writeNext; split
  · rfl
  · split <;> rfl

@[simp] theorem writeNext_search (c : Chip) : (writeNext c).search = c.search := by
  unfold writeNext; split
  · rfl
  · split <;> rfl

@[simp] theorem writeNext_exposure (c : Chip) : (writeNext c).exposure = c.exposure := by
  unfold writeNext; split
  · rfl
  · split <;> rfl

@[simp] theorem writeNext_stab (c : Chip) : (writeNext c).stab = c.stab := by
  unfold writeNext; split
  · rfl
  · split <;> rfl

@[simp] theorem writeNext_capture (c : Chip) : (writeNext c).capture = c.capture := by
  unfold writeNext; split
  · rfl
  · split <;> rfl

@[simp] theorem writeNext_slots (c : Chip) : (writeNext c).slots = c.slots := by
  unfold writeNext; split
  · rfl
  · split <;> rfl

@[simp] theorem writeNext_store (c : Chip) : (writeNext c).store = c.store := by
  unfold writeNext; split
  · rfl
  · split <;> rfl

@[simp] theorem writeNext_card (c : Chip) : (writeNext c).card = c.card := by
  unfold writeNext; split
  · rfl
  · split <;> rfl

@[simp] theorem writeNext_events (c : Chip) : (writeNext c).events = c.events := by
  unfold writeNext; split
  · rfl
  · split <;> rfl

@[simp] theorem writeNext_now (c : Chip) : (writeNext c).now = c.now := by
  unfold writeNext; split
  · rfl
  · split <;> rfl

@[simp] theorem writeNext_freeIndex (c : Chip) : (writeNext c).freeIndex = c.freeIndex := by
  unfold writeNext; split
  · rfl
  · split <;> rfl

@[simp] theorem writeNext_port (c : Chip) : (writeNext c).port = c.port := by
  unfold writeNext; split
  · rfl
  · split <;> rfl

@[simp] theorem writeNext_following (c : Chip) : (writeNext c).following = c.following := by
  unfold writeNext; split
  · rfl
  · split <;> rfl

theorem conclude_scan (c : Chip) (h : c.events = []) : (conclude c).scan = c.scan := by
  unfold conclude; rw [writeNext_scan, evalLines_scan, takeLensParts_scan, evalFollowing_scan, settle_of_no_events c h]

theorem conclude_records (c : Chip) (h : c.events = []) : (conclude c).records = c.records := by
  unfold conclude; rw [writeNext_records, evalLines_records, takeLensParts_records, evalFollowing_records, settle_of_no_events c h]

theorem conclude_service (c : Chip) (h : c.events = []) : (conclude c).service = c.service := by
  unfold conclude; rw [writeNext_service, evalLines_service, takeLensParts_service, evalFollowing_service, settle_of_no_events c h]

theorem conclude_notices (c : Chip) (h : c.events = []) : (conclude c).notices = c.notices := by
  unfold conclude; rw [writeNext_notices, evalLines_notices, takeLensParts_notices, evalFollowing_notices, settle_of_no_events c h]

theorem conclude_settings (c : Chip) (h : c.events = []) : (conclude c).settings = c.settings := by
  unfold conclude; rw [writeNext_settings, evalLines_settings, takeLensParts_settings, evalFollowing_settings, settle_of_no_events c h]

theorem conclude_pixel (c : Chip) (h : c.events = []) : (conclude c).pixel = c.pixel := by
  unfold conclude; rw [writeNext_pixel, evalLines_pixel, takeLensParts_pixel, evalFollowing_pixel, settle_of_no_events c h]

theorem conclude_flicker (c : Chip) (h : c.events = []) : (conclude c).flicker = c.flicker := by
  unfold conclude; rw [writeNext_flicker, evalLines_flicker, takeLensParts_flicker, evalFollowing_flicker, settle_of_no_events c h]

theorem conclude_tables (c : Chip) (h : c.events = []) : (conclude c).tables = c.tables := by
  unfold conclude; rw [writeNext_tables, evalLines_tables, takeLensParts_tables, evalFollowing_tables, settle_of_no_events c h]

theorem conclude_wear (c : Chip) (h : c.events = []) : (conclude c).wear = c.wear := by
  unfold conclude; rw [writeNext_wear, evalLines_wear, takeLensParts_wear, evalFollowing_wear, settle_of_no_events c h]

theorem conclude_zoom (c : Chip) (h : c.events = []) : (conclude c).zoom = c.zoom := by
  unfold conclude; rw [writeNext_zoom, evalLines_zoom, takeLensParts_zoom, evalFollowing_zoom, settle_of_no_events c h]

theorem conclude_focus (c : Chip) (h : c.events = []) : (conclude c).focus = c.focus := by
  unfold conclude; rw [writeNext_focus, evalLines_focus, takeLensParts_focus, evalFollowing_focus, settle_of_no_events c h]

theorem conclude_control (c : Chip) (h : c.events = []) : (conclude c).control = c.control := by
  unfold conclude; rw [writeNext_control, evalLines_control, takeLensParts_control, evalFollowing_control, settle_of_no_events c h]

theorem conclude_search (c : Chip) (h : c.events = []) : (conclude c).search = c.search := by
  unfold conclude; rw [writeNext_search, evalLines_search, takeLensParts_search, evalFollowing_search, settle_of_no_events c h]

theorem conclude_exposure (c : Chip) (h : c.events = []) : (conclude c).exposure = c.exposure := by
  unfold conclude; rw [writeNext_exposure, evalLines_exposure, takeLensParts_exposure, evalFollowing_exposure, settle_of_no_events c h]

theorem conclude_stab (c : Chip) (h : c.events = []) : (conclude c).stab = c.stab := by
  unfold conclude; rw [writeNext_stab, evalLines_stab, takeLensParts_stab, evalFollowing_stab, settle_of_no_events c h]

theorem conclude_capture (c : Chip) (h : c.events = []) : (conclude c).capture = c.capture := by
  unfold conclude; rw [writeNext_capture, evalLines_capture, takeLensParts_capture, evalFollowing_capture, settle_of_no_events c h]

theorem conclude_slots (c : Chip) (h : c.events = []) : (conclude c).slots = c.slots := by
  unfold conclude; rw [writeNext_slots, evalLines_slots, takeLensParts_slots, evalFollowing_slots, settle_of_no_events c h]

theorem conclude_store (c : Chip) (h : c.events = []) : (conclude c).store = c.store := by
  unfold conclude; rw [writeNext_store, evalLines_store, takeLensParts_store, evalFollowing_store, settle_of_no_events c h]

theorem conclude_card (c : Chip) (h : c.events = []) : (conclude c).card = c.card := by
  unfold conclude; rw [writeNext_card, evalLines_card, takeLensParts_card, evalFollowing_card, settle_of_no_events c h]

theorem conclude_events (c : Chip) (h : c.events = []) : (conclude c).events = c.events := by
  unfold conclude; rw [writeNext_events, evalLines_events, takeLensParts_events, evalFollowing_events, settle_of_no_events c h]

theorem conclude_now (c : Chip) (h : c.events = []) : (conclude c).now = c.now := by
  unfold conclude; rw [writeNext_now, evalLines_now, takeLensParts_now, evalFollowing_now, settle_of_no_events c h]

theorem conclude_freeIndex (c : Chip) (h : c.events = []) : (conclude c).freeIndex = c.freeIndex := by
  unfold conclude
  rw [writeNext_freeIndex, evalLines_freeIndex, takeLensParts_freeIndex, evalFollowing_freeIndex,
    settle_of_no_events c h]

/-! ### The drives' parts of LENS -/

theorem setFollowing_zoomPart (w : Following → Following) (c : Chip) :
    (setFollowing w c).answers.zoomPart = c.answers.zoomPart := by
  unfold setFollowing; dsimp only; split <;> rfl

@[simp] theorem evalFollowing_zoomPart (c : Chip) : (evalFollowing c).answers.zoomPart = c.answers.zoomPart := by
  unfold evalFollowing watchKeepingStep
  split
  · rfl
  · split <;> simp only [setFollowing_zoomPart]

@[simp] theorem writeNext_zoomPart (c : Chip) : (writeNext c).answers.zoomPart = c.answers.zoomPart := by
  unfold writeNext; split
  · rfl
  · split <;> rfl

theorem setFollowing_focusPart (w : Following → Following) (c : Chip) :
    (setFollowing w c).answers.focusPart = c.answers.focusPart := by
  unfold setFollowing; dsimp only; split <;> rfl

@[simp] theorem evalFollowing_focusPart (c : Chip) : (evalFollowing c).answers.focusPart = c.answers.focusPart := by
  unfold evalFollowing watchKeepingStep
  split
  · rfl
  · split <;> simp only [setFollowing_focusPart]

@[simp] theorem writeNext_focusPart (c : Chip) : (writeNext c).answers.focusPart = c.answers.focusPart := by
  unfold writeNext; split
  · rfl
  · split <;> rfl

theorem setFollowing_zoomEvent (w : Following → Following) (c : Chip) :
    (setFollowing w c).answers.zoomEvent = c.answers.zoomEvent := by
  unfold setFollowing; dsimp only; split <;> rfl

@[simp] theorem evalFollowing_zoomEvent (c : Chip) : (evalFollowing c).answers.zoomEvent = c.answers.zoomEvent := by
  unfold evalFollowing watchKeepingStep
  split
  · rfl
  · split <;> simp only [setFollowing_zoomEvent]

@[simp] theorem writeNext_zoomEvent (c : Chip) : (writeNext c).answers.zoomEvent = c.answers.zoomEvent := by
  unfold writeNext; split
  · rfl
  · split <;> rfl

theorem setFollowing_focusEvent (w : Following → Following) (c : Chip) :
    (setFollowing w c).answers.focusEvent = c.answers.focusEvent := by
  unfold setFollowing; dsimp only; split <;> rfl

@[simp] theorem evalFollowing_focusEvent (c : Chip) : (evalFollowing c).answers.focusEvent = c.answers.focusEvent := by
  unfold evalFollowing watchKeepingStep
  split
  · rfl
  · split <;> simp only [setFollowing_focusEvent]

@[simp] theorem writeNext_focusEvent (c : Chip) : (writeNext c).answers.focusEvent = c.answers.focusEvent := by
  unfold writeNext; split
  · rfl
  · split <;> rfl

/-- The Zoom Drive's part of LENS is taken anew when an event of R69 has come in the command, and stays otherwise. -/
theorem conclude_zoomPart (c : Chip) (h : c.events = []) : (conclude c).answers.zoomPart =
    if c.answers.zoomEvent then zoomPartOf c.zoom else c.answers.zoomPart := by
  unfold conclude
  rw [writeNext_zoomPart, evalLines_answers, takeLensParts_zoomPart, evalFollowing_zoomEvent, evalFollowing_zoom,
    evalFollowing_zoomPart, settle_of_no_events c h]

/-- The Focus Drive's part of LENS is taken anew when an event of R88 has come in the command, and stays otherwise. -/
theorem conclude_focusPart (c : Chip) (h : c.events = []) : (conclude c).answers.focusPart =
    if c.answers.focusEvent then focusPartOf c.focus else c.answers.focusPart := by
  unfold conclude
  rw [writeNext_focusPart, evalLines_answers, takeLensParts_focusPart, evalFollowing_focusEvent, evalFollowing_focus,
    evalFollowing_focusPart, settle_of_no_events c h]

/-- No event of a drive's part of LENS is left waiting at the end of a command. -/
theorem conclude_partEvents (c : Chip) :
    (conclude c).answers.zoomEvent = false ∧ (conclude c).answers.focusEvent = false := by
  simp [conclude]

theorem answerBody_lens (c : Chip) : answerBody .lens c = lensBody c := rfl

theorem drop_put8 (a n : Nat) (bs : List Byte) : (put8 a ++ bs).drop (n + 1) = bs.drop n := rfl
theorem drop_put16 (a n : Nat) (bs : List Byte) : (put16 a ++ bs).drop (n + 2) = bs.drop n := rfl
theorem drop_put32 (a n : Nat) (bs : List Byte) : (put32 a ++ bs).drop (n + 4) = bs.drop n := rfl
theorem drop_putFlag (b : Bool) (n : Nat) (bs : List Byte) : (putFlag b ++ bs).drop (n + 1) = bs.drop n := rfl
theorem drop_putSigned32 (i : Int) (n : Nat) (bs : List Byte) : (putSigned32 i ++ bs).drop (n + 4) = bs.drop n := rfl
theorem drop_padding1 (n : Nat) (bs : List Byte) : (padding 1 ++ bs).drop (n + 1) = bs.drop n := rfl
theorem take_putSigned32 (i : Int) (bs : List Byte) : (putSigned32 i ++ bs).take 4 = putSigned32 i := rfl
theorem take_putSigned16 (i : Int) (bs : List Byte) : (putSigned16 i ++ bs).take 2 = putSigned16 i := rfl

/-- The zoom counter in LENS is that of the Zoom Drive's part (Table 11-8, offset 24). -/
theorem lensBody_zoomCounter (c : Chip) : ((lensBody c).drop 24).take 4 = putSigned32 c.answers.zoomPart.counter := by
  unfold lensBody
  simp only [List.append_assoc, drop_put8, drop_put16, drop_put32, drop_putFlag, drop_padding1, List.drop_zero,
    take_putSigned32]

/-- The focus counter in LENS is that of the Focus Drive's part (Table 11-8, offset 40). -/
theorem lensBody_focusCounter (c : Chip) : ((lensBody c).drop 40).take 2 = putSigned16 c.answers.focusPart.counter := by
  unfold lensBody
  simp only [List.append_assoc, drop_put8, drop_put16, drop_put32, drop_putFlag, drop_padding1, drop_putSigned32,
    List.drop_zero, take_putSigned16]

/-! ### Fields that the end of a command leaves, whatever events wait -/

theorem outer_settle (c : Chip) : Laws.outer (settle c) = Laws.outer c := Laws.outer_drain eventLimit c

/-- The end of a command leaves the part state, the RUN field, the fault code and the Common Area in use. -/
theorem conclude_port (c : Chip) :
    (conclude c).port.partState = c.port.partState ∧ (conclude c).port.run = c.port.run
      ∧ (conclude c).port.fault = c.port.fault ∧ (conclude c).port.areaInUse = c.port.areaInUse
      ∧ (conclude c).port.startRead = c.port.startRead := by
  have h := outer_settle c
  simp only [Laws.outer, Prod.mk.injEq] at h
  simp only [conclude, writeNext_port, evalLines, takeLensParts_port, evalFollowing_port]
  exact ⟨h.1, h.2.1, h.2.2.1, h.2.2.2.1, h.2.2.2.2.1⟩

/-- The end of a command leaves the seen counts. -/
theorem conclude_seen (c : Chip) : (conclude c).notices.seen = c.notices.seen := by
  have h := outer_settle c
  simp only [Laws.outer, Prod.mk.injEq] at h
  simp only [conclude, writeNext_notices, evalLines_notices, takeLensParts_notices, evalFollowing_notices]
  exact h.2.2.2.2.2.2.2.1

/-- Both lines follow R14 at the end of a command. -/
theorem conclude_lines (c : Chip) :
    (conclude c).port.noticeA = lineLevel steersToA (conclude c)
      ∧ (conclude c).port.noticeB = lineLevel steersToB (conclude c) := by
  simp [conclude, evalLines, lineLevel]

end Sys2Proof.Machine
end

