-- ==== Sys2Proof/Laws/Memory.lean ====
section
/-! SUPPORT. System memory: every operation keeps the canonical form, and what a read gives after a write. -/

namespace Sys2Proof.Machine

theorem Memory.wf_nil : Memory.wf [] := ⟨List.Pairwise.nil, by simp⟩

theorem Memory.cells_ge (a : Nat) (bs : List Byte) : ∀ c ∈ Memory.cells a bs, a ≤ c.1 := by
  induction bs generalizing a with
  | nil => simp [Memory.cells]
  | cons b bs ih =>
    intro c h
    unfold Memory.cells at h
    split at h
    · exact Nat.le_of_succ_le (ih (a + 1) c h)
    · rcases List.mem_cons.mp h with rfl | h
      · exact Nat.le_refl _
      · exact Nat.le_of_succ_le (ih (a + 1) c h)

theorem Memory.cells_lt (a : Nat) (bs : List Byte) : ∀ c ∈ Memory.cells a bs, c.1 < a + bs.length := by
  induction bs generalizing a with
  | nil => simp [Memory.cells]
  | cons b bs ih =>
    intro c h
    unfold Memory.cells at h
    simp only [List.length_cons]
    split at h
    · have := ih (a + 1) c h; omega
    · rcases List.mem_cons.mp h with rfl | h
      · simp
      · have := ih (a + 1) c h; omega

theorem Memory.cells_wf (a : Nat) (bs : List Byte) : Memory.wf (Memory.cells a bs) := by
  induction bs generalizing a with
  | nil => exact Memory.wf_nil
  | cons b bs ih =>
    unfold Memory.cells
    split
    · exact ih (a + 1)
    · rename_i h
      refine ⟨List.pairwise_cons.mpr ⟨fun c hc => Memory.cells_ge (a + 1) bs c hc, (ih (a + 1)).1⟩, ?_⟩
      intro c hc
      rcases List.mem_cons.mp hc with rfl | hc
      · exact h
      · exact (ih (a + 1)).2 c hc

theorem Memory.write_wf (m : List Host.Cell) (a : Nat) (bs : List Byte) (h : Memory.wf m) :
    Memory.wf (Memory.write m a bs) := by
  unfold Memory.write
  refine ⟨?_, ?_⟩
  · refine List.pairwise_append.mpr ⟨List.pairwise_append.mpr ⟨h.1.filter _, (Memory.cells_wf a bs).1, ?_⟩,
      h.1.filter _, ?_⟩
    · intro c hc d hd
      have h1 : c.1 < a := by simpa using (List.mem_filter.mp hc).2
      exact Nat.lt_of_lt_of_le h1 (Memory.cells_ge a bs d hd)
    · intro c hc d hd
      have h2 : a + bs.length ≤ d.1 := by simpa using (List.mem_filter.mp hd).2
      rcases List.mem_append.mp hc with hc | hc
      · have h1 : c.1 < a := by simpa using (List.mem_filter.mp hc).2
        omega
      · exact Nat.lt_of_lt_of_le (Memory.cells_lt a bs c hc) h2
  · intro c hc
    rcases List.mem_append.mp hc with hc | hc
    · rcases List.mem_append.mp hc with hc | hc
      · exact h.2 c (List.mem_filter.mp hc).1
      · exact (Memory.cells_wf a bs).2 c hc
    · exact h.2 c (List.mem_filter.mp hc).1

theorem Memory.writeAll_wf (m : List Host.Cell) (ws : List (Nat × List Byte)) (h : Memory.wf m) :
    Memory.wf (Memory.writeAll m ws) := by
  induction ws generalizing m with
  | nil => exact h
  | cons w ws ih => exact ih _ (Memory.write_wf m w.1 w.2 h)

/-! ### Reads -/

theorem Memory.read_append_of_absent (m n : List Host.Cell) (a : Nat) (h : ∀ c ∈ m, c.1 ≠ a) :
    Memory.read (m ++ n) a = Memory.read n a := by
  induction m with
  | nil => rfl
  | cons c m ih =>
    simp only [List.cons_append, Memory.read, h c (List.mem_cons_self ..), if_false]
    exact ih (fun d hd => h d (List.mem_cons_of_mem _ hd))

theorem Memory.read_append_left (m n : List Host.Cell) (a : Nat) (h : ∀ c ∈ n, c.1 ≠ a) :
    Memory.read (m ++ n) a = Memory.read m a := by
  induction m with
  | nil =>
    have := Memory.read_append_of_absent n [] a h
    simpa [Memory.read] using this
  | cons c m ih => simp only [List.cons_append, Memory.read, ih]

theorem Memory.read_filter (m : List Host.Cell) (p : Host.Cell → Bool) (a : Nat)
    (h : ∀ c ∈ m, c.1 = a → p c = true) : Memory.read (m.filter p) a = Memory.read m a := by
  induction m with
  | nil => rfl
  | cons c m ih =>
    have ih := ih (fun d hd => h d (List.mem_cons_of_mem _ hd))
    by_cases hc : c.1 = a
    · simp [h c (List.mem_cons_self ..) hc, Memory.read, hc]
    · by_cases hp : p c = true <;> simp [hp, Memory.read, hc, ih]

/-- Outside the bytes written, a read gives what it gave. -/
theorem Memory.read_write_outside (m : List Host.Cell) (a : Nat) (bs : List Byte) (x : Nat)
    (h : x < a ∨ a + bs.length ≤ x) : Memory.read (Memory.write m a bs) x = Memory.read m x := by
  unfold Memory.write
  rcases h with h | h
  · rw [Memory.read_append_left, Memory.read_append_left, Memory.read_filter]
    · intro c _ hc; simp [hc, h]
    · intro c hc e; have := Memory.cells_ge a bs c hc; omega
    · intro c hc e; have := (List.mem_filter.mp hc).2; simp at this; omega
  · rw [Memory.read_append_of_absent, Memory.read_filter]
    · intro c _ hc; simp [hc, h]
    · intro c hc e
      rcases List.mem_append.mp hc with hc | hc
      · have := (List.mem_filter.mp hc).2; simp at this; omega
      · have := Memory.cells_lt a bs c hc; omega

theorem Memory.read_cells (a : Nat) (bs : List Byte) (i : Nat) (h : i < bs.length) :
    Memory.read (Memory.cells a bs) (a + i) = bs[i] := by
  induction bs generalizing a i with
  | nil => simp at h
  | cons b bs ih =>
    have absent : ∀ n, Memory.read (Memory.cells (a + 1) n) a = Memory.unwritten := by
      intro n
      have := Memory.read_append_of_absent (Memory.cells (a + 1) n) [] a
        (fun c hc e => by have := Memory.cells_ge (a + 1) n c hc; omega)
      simpa [Memory.read] using this
    unfold Memory.cells
    cases i with
    | zero =>
      split
      · rename_i hb; simp [absent, hb]
      · simp [Memory.read]
    | succ i =>
      have key := ih (a + 1) i (by simpa using h)
      have e : a + 1 + i = a + (i + 1) := by omega
      rw [e] at key
      split
      · simpa using key
      · simp only [Memory.read, List.getElem_cons_succ]
        rw [if_neg (by omega)]
        exact key

/-- A byte written is read back. -/
theorem Memory.read_write_inside (m : List Host.Cell) (a : Nat) (bs : List Byte) (i : Nat) (h : i < bs.length) :
    Memory.read (Memory.write m a bs) (a + i) = bs[i] := by
  unfold Memory.write
  rw [Memory.read_append_left, Memory.read_append_of_absent, Memory.read_cells a bs i h]
  · intro c hc e; have := (List.mem_filter.mp hc).2; simp at this; omega
  · intro c hc e; have := (List.mem_filter.mp hc).2; simp at this; omega

end Sys2Proof.Machine
end

