-- ==== Sys2Proof/Laws/Ops.lean ====
section
/-! SUPPORT. What each shared operation can do, case by case: the acknowledgement table, notices and counters, slots, part
faults, and the adoption and hand-over of requests. Later proofs cite these in place of the definitions. -/

namespace Sys2Proof.Machine

/-! ### The acknowledgement table -/

theorem recordIndex_lt (r : RecordId) : recordIndex r < 9 := by cases r <;> decide

theorem recordIndex_inj {r q : RecordId} (h : recordIndex r = recordIndex q) : r = q := by
  revert h; cases r <;> cases q <;> decide

theorem record_setRecord_same (r : RecordId) (e : RecordState) (c : Chip) (h : c.records.length = 9) :
    record (setRecord r e c) r = e := by
  have hr := recordIndex_lt r
  simp [record, setRecord, List.getD_eq_getElem?_getD, h, hr]

theorem record_setRecord_other {r q : RecordId} (e : RecordState) (c : Chip) (h : q ≠ r) :
    record (setRecord r e c) q = record c q := by
  have hne : recordIndex r ≠ recordIndex q := fun k => h (recordIndex_inj k).symm
  simp [record, setRecord, List.getD_eq_getElem?_getD, hne]

theorem setRecord_records_length (r : RecordId) (e : RecordState) (c : Chip) :
    (setRecord r e c).records.length = c.records.length := by simp [setRecord]

/-! ### The end of a request (R8, R9) -/

/-- An earlier request of the record ends: its notice is counted and the held one may go on. -/
theorem finish_earlier (r : RecordId) (o : ReqOutcome) (d : Detail) (c : Chip) (h : (record c r).earlierActive = true) :
    finish r o d c
      = raise .handHeld (notice (recordClass r) (setRecord r { record c r with earlierActive := false } c)) := by
  simp [finish, h]

/-- The ACTIVE request of a superseding record ends. -/
theorem finish_superseding (r : RecordId) (o : ReqOutcome) (d : Detail) (c : Chip)
    (he : (record c r).earlierActive = false) (ha : (record c r).outcome = .active) (hq : isQueuing r = false) :
    finish r o d c
      = notice (recordClass r) (mark .ack (setRecord r { record c r with outcome := o, detail := d } c)) := by
  simp [finish, he, ha, hq]

/-- The ACTIVE request of a queuing record ends. -/
theorem finish_queuing (r : RecordId) (o : ReqOutcome) (d : Detail) (c : Chip)
    (he : (record c r).earlierActive = false) (ha : (record c r).outcome = .active) (hq : isQueuing r = true) :
    finish r o d c = raise .handHeld
      (notice (recordClass r) (mark .ack (setRecord r { record c r with outcome := o, detail := d } c))) := by
  simp [finish, he, ha, hq]

/-- A request that is no longer the ACTIVE one of its record writes no outcome. -/
theorem finish_none (r : RecordId) (o : ReqOutcome) (d : Detail) (c : Chip)
    (he : (record c r).earlierActive = false) (ha : (record c r).outcome ≠ .active) : finish r o d c = c := by
  simp [finish, he, ha]

theorem finishService_none (o : ReqOutcome) (d : Detail) (c : Chip) (h : c.service = none) : finishService o d c = c := by
  simp [finishService, h]

theorem finishService_some (o : ReqOutcome) (d : Detail) (c : Chip) (w : ServiceWork) (h : c.service = some w) :
    finishService o d c = finish .service o d { c with service := none } := by simp [finishService, h]

/-! ### Notices, faults and counters -/

theorem partFault_halted (f : FaultCode) (c : Chip) (h : c.port.partState = .halted) :
    partFault f c
      = if c.port.fault = f then c else mark .partState { c with port := { c.port with fault := f } } := by
  simp [partFault, h]

theorem partFault_counts (f : FaultCode) (c : Chip) (h : c.port.partState ≠ .halted) :
    partFault f c = notice .fault
      (if c.port.fault = f then c else mark .partState { c with port := { c.port with fault := f } }) := by
  simp [partFault, h]

/-- A saturated error counter stays (R170). -/
theorem count_saturated (k : CounterId) (c : Chip) (h : 65535 ≤ c.wear.counts.getD k.ctorIdx 0) : count k c = c := by
  simp only [count, Config.counterMax, ge_iff_le, h, if_true]

/-- Otherwise the counter is one more. -/
theorem count_counts (k : CounterId) (c : Chip) (h : c.wear.counts.getD k.ctorIdx 0 < 65535) :
    (count k c).wear.counts = c.wear.counts.set k.ctorIdx (c.wear.counts.getD k.ctorIdx 0 + 1) := by
  have h' : ¬ 65535 ≤ c.wear.counts.getD k.ctorIdx 0 := by omega
  simp only [count, Config.counterMax, ge_iff_le, h', if_false]
  split <;> rfl

/-! ### Slots -/

theorem setSlot_slots (n : Nat) (p : PictureRecord) (c : Chip) : (setSlot n p c).slots = c.slots.set n p := by
  unfold setSlot; dsimp only; split <;> rfl

theorem slot_setSlot_same (n : Nat) (p : PictureRecord) (c : Chip) (h : n < c.slots.length) :
    slot (setSlot n p c) n = p := by
  simp [slot, setSlot_slots, List.getD_eq_getElem?_getD, h]

theorem slot_setSlot_other (n m : Nat) (p : PictureRecord) (c : Chip) (h : m ≠ n) :
    slot (setSlot n p c) m = slot c m := by
  simp [slot, setSlot_slots, List.getD_eq_getElem?_getD, Ne.symm h]

/-! ### Adoption and hand-over (R8) -/

theorem record_newEdition (r : RecordId) (e : Word) (c : Chip) (h : c.records.length = 9) :
    record (newEdition r e c) r = { record c r with
      edition := e, outcome := .active, detail := .none, clamped := false, held := none } :=
  record_setRecord_same r _ c h

theorem record_hold (r : RecordId) (d : Detail) (q : Request) (c : Chip) (h : c.records.length = 9) :
    record (hold r d q c) r = { record c r with outcome := .pending, detail := d, held := some q } :=
  record_setRecord_same r _ c h

theorem handOver_none (r : RecordId) (q : Request) (c : Chip) (h : holdReason r q c = none) :
    handOver r q c = deliver q (endSearchForZoom q (activate r c)) := by simp [handOver, h]

theorem handOver_held (r : RecordId) (q : Request) (d : Detail) (c : Chip) (h : holdReason r q c = some d)
    (hd : d ≠ .heldZoomBusy) : handOver r q c = hold r d q c := by simp [handOver, h, hd]

/-- A held edition whose condition stands gives its place to the newer one, which is held in the same way. -/
theorem adopt_held (r : RecordId) (e : Word) (q : Request) (c : Chip) (h : heldStill (record c r) c = true) :
    adopt r e q c = replaceHeld r e q c := by simp [adopt, h]

theorem heldStill_notPending (e : RecordState) (c : Chip) (h : e.outcome ≠ .pending) : heldStill e c = false := by
  simp [heldStill, h]

theorem adopt_superseding (r : RecordId) (e : Word) (q : Request) (c : Chip) (h : isQueuing r = false)
    (hp : heldStill (record c r) c = false) : adopt r e q c = handOver r q (newEdition r e c) := by
  simp [adopt, h, hp]

theorem adopt_behindActive (r : RecordId) (e : Word) (q : Request) (c : Chip) (h : isQueuing r = true)
    (ha : (record c r).outcome = .active) : adopt r e q c = adoptHeld r e q .heldPrevious true c := by
  simp [adopt, h, ha, heldStill_notPending (record c r) c (by rw [ha]; decide)]

theorem adopt_afterFinal (r : RecordId) (e : Word) (q : Request) (c : Chip)
    (hf : isFinal (record c r).outcome = true) (he : (record c r).earlierActive = false) :
    adopt r e q c = handOver r q (newEdition r e c) := by
  unfold adopt heldStill
  revert hf
  cases ho : (record c r).outcome <;> simp [isFinal, ho, he]

theorem readNew_nothingNew (r : RecordId) (e : Word) (q : Request) (c : Chip) (h : isNewRequest r e c = false) :
    readNew r e q c = c := by simp [readNew, h]

/-- While another event waits, the hand-over of held requests changes nothing but the queue of events. -/
theorem takeHandHeld_waits (c : Chip) (h : c.events ≠ []) :
    takeHandHeld c = { c with events := (takeHandHeld c).events } := by
  unfold takeHandHeld; rw [if_neg h]; split <;> rfl

/-- With no other event waiting, the first request that is ready is handed over, and the hand-over goes on after its
events. -/
theorem takeHandHeld_hands (r : RecordId) (q : Request) (c : Chip) (h : c.events = []) (hf : firstReady c = some (r, q)) :
    takeHandHeld c = raise .handHeld (handOver r q c) := by simp [takeHandHeld, handNextHeld, h, hf]

theorem takeHandHeld_none (c : Chip) (h : c.events = []) (hf : firstReady c = none) : takeHandHeld c = c := by
  simp [takeHandHeld, handNextHeld, h, hf]

/-! ### Ramping down (R72, R75) -/

/-- A train that ramps down from a place within the range ends within it. -/
theorem stepFrom_rampCount (c : Chip) (p : Int) (h0 : 0 ≤ p) (h1 : p ≤ fMax c) :
    0 ≤ stepFrom c.focus.direction p (rampCount c p) ∧ stepFrom c.focus.direction p (rampCount c p) ≤ fMax c := by
  unfold rampCount roomFrom stepFrom
  split <;> simp_all <;> omega

/-! ### What the links carry -/

theorem sensorTransaction_inFlight (c : Chip) (t : Triple) (h : c.pixel.inFlight = some t) :
    sensorTransaction c = some ⟨c.pixel.carried.address, exposureWrite c.pixel.carried t⟩ := by
  simp [sensorTransaction, h]

theorem sensorTransaction_streamOff (c : Chip) (hi : c.pixel.inFlight = none) (hs : c.pixel.stopping = .writing) :
    sensorTransaction c = some ⟨(cfg c).sensor.address, .streamOff⟩ := by
  simp [sensorTransaction, hi, hs]

theorem sensorTransaction_config (c : Chip) (w : ConfigWork) (hw : c.pixel.config = some w)
    (hi : c.pixel.inFlight = none) (hs : c.pixel.stopping ≠ .writing) :
    sensorTransaction c = some ⟨c.pixel.carried.address, configWrite c.pixel.carried w⟩ := by
  simp [sensorTransaction, hw, hi, hs]

theorem cardCommand_response (k : Card) (r : Run) (h : k.run = some r) (hp : r.phase = .response) :
    cardCommand k = some (if r.write then .writeMulti r.plan.sector else .readMulti r.plan.sector) := by
  simp [cardCommand, h, hp]

theorem cardCommand_stop (k : Card) (r : Run) (h : k.run = some r) (hp : r.phase = .stopResponse) :
    cardCommand k = some .stop := by
  simp [cardCommand, h, hp]

theorem blockSent_header (s : State) (r : Run) (h : s.chip.card.run = some r) (hw : r.write = true)
    (hp : r.phase = .token) (hh : r.plan.isHeader = true) : blockSent s = some r.header := by
  simp [blockSent, h, hw, hp, hh]

theorem bytesFromMemory_le (r : Run) (c : Chip) : bytesFromMemory r c ≤ 512 := by
  unfold bytesFromMemory
  split <;> omega

/-- A block from memory is 512 bytes: `bytesFromMemory` bytes at the block's place, and 0 after them. -/
theorem blockSent_data (s : State) (r : Run) (h : s.chip.card.run = some r) (hw : r.write = true)
    (hp : r.phase = .token) (hh : r.plan.isHeader = false) :
    blockSent s = some ((List.range (bytesFromMemory r s.chip)).map
      (fun i => Memory.read s.memory (r.address + 512 * r.block + i)) ++ padding (512 - bytesFromMemory r s.chip)) := by
  simp [blockSent, h, hw, hp, hh]

/-! ### Words read from memory (R172) -/

theorem wordOf_put32 (w : Word) : wordOf (put32 w.toNat) = w := by
  apply BitVec.eq_of_toNat_eq
  have h := w.isLt
  simp [wordOf, u32, u16, u8, put32, put16]
  omega

/-- A word is read back from the bytes that the part writes for it. -/
theorem wordsOf_put32 (ws : List Word) : wordsOf (ws.flatMap (fun w => put32 w.toNat)) = ws := by
  induction ws with
  | nil => rfl
  | cons w ws ih =>
    have h : wordsOf (put32 w.toNat ++ ws.flatMap (fun w => put32 w.toNat))
        = wordOf (put32 w.toNat) :: wordsOf (ws.flatMap (fun w => put32 w.toNat)) := rfl
    rw [List.flatMap_cons, h, ih, wordOf_put32]

theorem halfOf_put16 (h : Half) : BitVec.ofNat 16 (u16 (put16 h.toNat) 0) = h := by
  apply BitVec.eq_of_toNat_eq
  have hl := h.isLt
  simp [u16, u8, put16]
  omega

theorem halvesOf_put16 (hs : List Half) : halvesOf (hs.flatMap (fun h => put16 h.toNat)) = hs := by
  induction hs with
  | nil => rfl
  | cons h hs ih =>
    have e : halvesOf (put16 h.toNat ++ hs.flatMap (fun h => put16 h.toNat))
        = BitVec.ofNat 16 (u16 (put16 h.toNat) 0) :: halvesOf (hs.flatMap (fun h => put16 h.toNat)) := rfl
    rw [List.flatMap_cons, e, ih, halfOf_put16]

/-! ### The capture hold (R76) -/

/-- A final target handed to an IDLE drive under the capture hold is taken into SUSPENDED, whatever the counter. -/
theorem handTarget_idleHeld (t : Int) (c : Chip) (hs : c.focus.state = .idle) (ht : c.focus.train = .none)
    (hh : c.focus.hold = true) :
    (handTarget t c).focus = { c.focus with target := limitFocusPosition c t, train := .suspended, state := .moving } := by
  simp only [handTarget, ht, hs, hh, enterFocus]
  rfl

theorem handTarget_suspended (t : Int) (c : Chip) (ht : c.focus.train = .suspended) :
    handTarget t c = setFocus (fun f => { f with target := limitFocusPosition c t }) c := by
  simp only [handTarget, ht]

/-- A train that ramps down for a lens table fault is left to it by homing. -/
theorem startHoming_rampToFault (g : FocusGoal) (c : Chip) (ht : c.focus.train = .counted)
    (ha : c.focus.afterRamp = .fault) : startHoming g c = c := by
  simp [startHoming, ht, ha]

/-! ### The re-split (R119) -/

theorem followApplied_exposure (c : Chip) : (followApplied c).exposure = c.exposure := by
  unfold followApplied; repeat' split
  all_goals rfl

/-- Beside what a change of the exposure state marks and counts, the applied triple is the one it was given. -/
theorem setExposure_applied (f : Exposure → Exposure) (c : Chip) :
    (setExposure f c).exposure.applied = (f c.exposure).applied := by
  unfold setExposure; dsimp only
  repeat' split
  all_goals simp [mark, notice, followApplied_exposure]

/-- A re-split that changes no component leaves the applied triple, with its flags. -/
theorem resplit_same (c : Chip) (h : (resplit c).1 = false) :
    (resplit c).2.exposure.applied = c.exposure.applied := by
  unfold resplit at h ⊢
  split
  · rfl
  · next t ht =>
    simp only [ht] at h
    simp [setExposure_applied, takeLimit, h, ht]

end Sys2Proof.Machine
end

