-- ==== Sys2Proof/Laws/PerInstr.lean ====
section
/-! SUPPORT. The family WellFormedRow: a well-formed request row names an edition that a scan takes, so never edition 0
(R7). -/

namespace Sys2Proof.Laws.WellFormedRow

/-- The edition of a request row; a row that is not a request has none. -/
def edition : Instr → Option Word
  | .settings ed _ => some ed
  | .rehomeLens ed => some ed
  | .park ed => some ed
  | .unpark ed => some ed
  | .clearCounters ed => some ed
  | .clearFlags ed => some ed
  | .restartStabilizer ed => some ed
  | .restartCard ed => some ed
  | .zoomGoto ed _ => some ed
  | .zoomGotoZone ed _ => some ed
  | .zoomRun ed _ => some ed
  | .zoomStop ed => some ed
  | .setDistance ed _ => some ed
  | .resumeTracking ed => some ed
  | .search ed => some ed
  | .continuousOn ed => some ed
  | .exposureAuto ed _ => some ed
  | .exposureLock ed => some ed
  | .exposureManual ed _ _ _ => some ed
  | .capturePrepare ed => some ed
  | .startBurst ed _ => some ed
  | .captureStop ed => some ed
  | .space ed _ _ => some ed
  | .spare ed _ _ => some ed
  | .cardOrder ed _ _ _ _ => some ed
  | _ => none

/-- A well-formed row that names an edition names one that is not 0. -/
def Statement (i : Instr) : Prop := ∀ e, edition i = some e → i.wellFormed = true → e ≠ 0

theorem of_none {i : Instr} (h : edition i = none) : Statement i := fun e he => by rw [h] at he; cases he

theorem of_some {i : Instr} {ed : Word} (h : edition i = some ed) (w : i.wellFormed = true → ed ≠ 0) : Statement i :=
  fun e he hw => by rw [h] at he; cases he; exact w hw

theorem ne_zero {ed : Word} (h : (ed != 0) = true) : ed ≠ 0 := by simpa using h

theorem powerOnReset : Statement .powerOnReset := of_none rfl

theorem softReset : Statement .softReset := of_none rfl

theorem areaBaseWrite (value : Word) : Statement (.areaBaseWrite value) := of_none rfl

theorem runWrite (run : Bool) : Statement (.runWrite run) := of_none rfl

theorem nudge (run : Bool) : Statement (.nudge run) := of_none rfl

theorem registerWriteIgnored (register : ReadOnlyRegister) (value : Word) : Statement (.registerWriteIgnored register value) := of_none rfl

theorem startHeaderRead (layout seen : List Byte) : Statement (.startHeaderRead layout seen) := of_none rfl

theorem areaBusError : Statement .areaBusError := of_none rfl

theorem startStepEnd : Statement .startStepEnd := of_none rfl

theorem stopSequenceEnd : Statement .stopSequenceEnd := of_none rfl

theorem idleScanTimer : Statement .idleScanTimer := of_none rfl

theorem scanRecordRead (leading body trailing : List Byte) : Statement (.scanRecordRead leading body trailing) := of_none rfl

theorem releaseCountRead (counts : List Byte) : Statement (.releaseCountRead counts) := of_none rfl

theorem seenCountRead (counts : List Byte) : Statement (.seenCountRead counts) := of_none rfl

theorem answerRecordWrite : Statement .answerRecordWrite := of_none rfl

theorem answerBusError : Statement .answerBusError := of_none rfl

theorem settings (ed : Word) (body : List Byte) : Statement (.settings ed body) :=
  of_some rfl fun h => ne_zero (Bool.and_eq_true_iff.mp h).1

theorem rehomeLens (ed : Word) : Statement (.rehomeLens ed) := of_some rfl fun h => ne_zero h

theorem park (ed : Word) : Statement (.park ed) := of_some rfl fun h => ne_zero h

theorem unpark (ed : Word) : Statement (.unpark ed) := of_some rfl fun h => ne_zero h

theorem clearCounters (ed : Word) : Statement (.clearCounters ed) := of_some rfl fun h => ne_zero h

theorem clearFlags (ed : Word) : Statement (.clearFlags ed) := of_some rfl fun h => ne_zero h

theorem restartStabilizer (ed : Word) : Statement (.restartStabilizer ed) := of_some rfl fun h => ne_zero h

theorem restartCard (ed : Word) : Statement (.restartCard ed) := of_some rfl fun h => ne_zero h

theorem configWriteDone (acknowledged : Bool) : Statement (.configWriteDone acknowledged) := of_none rfl

theorem sensorReconfigure : Statement .sensorReconfigure := of_none rfl

theorem stallTimeout : Statement .stallTimeout := of_none rfl

theorem frameStart (time : Nat) (upsets : List Upset) : Statement (.frameStart time upsets) := of_none rfl

theorem frameEnd (frame : ReceivedFrame) : Statement (.frameEnd frame) := of_none rfl

theorem frameTruncated : Statement .frameTruncated := of_none rfl

theorem truncationTimeout : Statement .truncationTimeout := of_none rfl

theorem sensorWriteDone : Statement .sensorWriteDone := of_none rfl

theorem sensorWriteNotAcknowledged : Statement .sensorWriteNotAcknowledged := of_none rfl

theorem dmaBusError : Statement .dmaBusError := of_none rfl

theorem dmaAbandonReport : Statement .dmaAbandonReport := of_none rfl

theorem flkEdge (time : Nat) : Statement (.flkEdge time) := of_none rfl

theorem flickerTimeout : Statement .flickerTimeout := of_none rfl

theorem tableBlockRead (block : List Byte) : Statement (.tableBlockRead block) := of_none rfl

theorem tableLoadBusError : Statement .tableLoadBusError := of_none rfl

theorem tablesPlace : Statement .tablesPlace := of_none rfl

theorem refetchBegin : Statement .refetchBegin := of_none rfl

theorem refetchRead (block : List Byte) : Statement (.refetchRead block) := of_none rfl

theorem refetchBusError : Statement .refetchBusError := of_none rfl

theorem encoderTransition (transition : EncoderStep) : Statement (.encoderTransition transition) := of_none rfl

theorem referenceEdge (level : SensorLevel) : Statement (.referenceEdge level) := of_none rfl

theorem zoomBrakeTimer : Statement .zoomBrakeTimer := of_none rfl

theorem zoomSettleTimer : Statement .zoomSettleTimer := of_none rfl

theorem zoomStallTimer : Statement .zoomStallTimer := of_none rfl

theorem homingTimer : Statement .homingTimer := of_none rfl

theorem driftTimer : Statement .driftTimer := of_none rfl

theorem zoomGoto (ed : Word) (position : Word) : Statement (.zoomGoto ed position) := of_some rfl fun h => ne_zero h

theorem zoomGotoZone (ed : Word) (zone : Word) : Statement (.zoomGotoZone ed zone) := of_some rfl fun h => ne_zero h

theorem zoomRun (ed : Word) (direction : Word) : Statement (.zoomRun ed direction) := of_some rfl fun h => ne_zero h

theorem zoomStop (ed : Word) : Statement (.zoomStop ed) := of_some rfl fun h => ne_zero h

theorem focusPulse (time : Nat) : Statement (.focusPulse time) := of_none rfl

theorem reversalDwellEnd : Statement .reversalDwellEnd := of_none rfl

theorem homeSensorChange (level : SensorLevel) : Statement (.homeSensorChange level) := of_none rfl

theorem homePulseLimit : Statement .homePulseLimit := of_none rfl

theorem setDistance (ed : Word) (distance : Half) : Statement (.setDistance ed distance) := of_some rfl fun h => ne_zero h

theorem resumeTracking (ed : Word) : Statement (.resumeTracking ed) := of_some rfl fun h => ne_zero h

theorem search (ed : Word) : Statement (.search ed) := of_some rfl fun h => ne_zero h

theorem continuousOn (ed : Word) : Statement (.continuousOn ed) := of_some rfl fun h => ne_zero h

theorem exposureAuto (ed : Word) (compensation : Half) : Statement (.exposureAuto ed compensation) := of_some rfl fun h => ne_zero h

theorem exposureLock (ed : Word) : Statement (.exposureLock ed) := of_some rfl fun h => ne_zero h

theorem exposureManual (ed : Word) (xt : Half) (xg : Half) (xa : Half) : Statement (.exposureManual ed xt xg xa) := of_some rfl fun h => ne_zero h

theorem exposureRecordTimer : Statement .exposureRecordTimer := of_none rfl

theorem gyroConfigWriteDone : Statement .gyroConfigWriteDone := of_none rfl

theorem gyroDataReady : Statement .gyroDataReady := of_none rfl

theorem gyroSample (rateX rateY : RateBytes) : Statement (.gyroSample rateX rateY) := of_none rfl

theorem gyroLost : Statement .gyroLost := of_none rfl

theorem gyroStopWriteDone : Statement .gyroStopWriteDone := of_none rfl

theorem learnTimer : Statement .learnTimer := of_none rfl

theorem rampTimer : Statement .rampTimer := of_none rfl

theorem stabilizerRecordTimer : Statement .stabilizerRecordTimer := of_none rfl

theorem buttonLineChange (line : Button) (pressed : Bool) : Statement (.buttonLineChange line pressed) := of_none rfl

theorem qualificationTimer (line : Button) : Statement (.qualificationTimer line) := of_none rfl

theorem capturePrepare (ed : Word) : Statement (.capturePrepare ed) := of_some rfl fun h => ne_zero h

theorem startBurst (ed : Word) (count : Byte) : Statement (.startBurst ed count) := of_some rfl fun h => ne_zero h

theorem captureStop (ed : Word) : Statement (.captureStop ed) := of_some rfl fun h => ne_zero h

theorem focusWaitTimer : Statement .focusWaitTimer := of_none rfl

theorem space (ed : Word) (start : Word) (count : Word) : Statement (.space ed start count) := of_some rfl fun h => ne_zero h

theorem spare (ed : Word) (start : Word) (count : Word) : Statement (.spare ed start count) := of_some rfl fun h => ne_zero h

theorem cardOrder (ed : Word) (kind : Byte) (count : Half) (sector : Word) (address : Word) : Statement (.cardOrder ed kind count sector address) := of_some rfl fun h => ne_zero h

theorem cardDetChange (present : Bool) : Statement (.cardDetChange present) := of_none rfl

theorem cardDetTimer : Statement .cardDetTimer := of_none rfl

theorem cardResponse (capacity : Word) : Statement (.cardResponse capacity) := of_none rfl

theorem cardStatusToken (token : StatusToken) : Statement (.cardStatusToken token) := of_none rfl

theorem cardBusyEnd : Statement .cardBusyEnd := of_none rfl

theorem cardReadBlock (crcOk : Bool) (data : List Byte) : Statement (.cardReadBlock crcOk data) := of_none rfl

theorem cardResponseTimeout : Statement .cardResponseTimeout := of_none rfl

theorem cardBusyTimeout : Statement .cardBusyTimeout := of_none rfl

theorem cardMemoryBusError : Statement .cardMemoryBusError := of_none rfl

theorem streamOffWriteDone (acknowledged : Bool) : Statement (.streamOffWriteDone acknowledged) := of_none rfl

end Sys2Proof.Laws.WellFormedRow
end

