-- ==== Sys2Proof/Laws/Tables.lean ====
section
/-! SUPPORT. What a read of the lens tables can do: its result follows from the tables (and, for a tracking position, the zoom
points), and beside the tables it changes nothing but the error counters, the marks, the notices and the events. -/

namespace Sys2Proof.Machine

/-- `d` follows from `c` by reads of the lens tables. -/
def ReadFrom (c d : Chip) : Prop :=
  d = { c with tables := d.tables, wear := d.wear, answers := d.answers, notices := d.notices, events := d.events }
    ∧ d.tables.state = c.tables.state ∧ d.tables.summary = c.tables.summary ∧ d.tables.load = c.tables.load
    ∧ ∃ es, d.events = c.events ++ es

theorem ReadFrom.refl (c : Chip) : ReadFrom c c := ⟨rfl, rfl, rfl, rfl, [], by simp⟩

theorem ReadFrom.trans {c d e : Chip} (h : ReadFrom c d) (k : ReadFrom d e) : ReadFrom c e := by
  obtain ⟨h1, h2, h3, h4, es, h5⟩ := h
  obtain ⟨k1, k2, k3, k4, fs, k5⟩ := k
  refine ⟨?_, k2.trans h2, k3.trans h3, k4.trans h4, es ++ fs, by rw [k5, h5, List.append_assoc]⟩
  rw [k1, h1]

theorem count_readFrom (k : CounterId) (c d : Chip) (h : ReadFrom c d) : ReadFrom c (count k d) := by
  refine h.trans ?_
  unfold count
  dsimp only
  split
  · exact .refl d
  · split <;> exact ⟨rfl, rfl, rfl, rfl, [], by simp [mark, notice]⟩

theorem setBlock_rest (b : TableBlock) (k : Block) (t : Tables) :
    (setBlock b k t).state = t.state ∧ (setBlock b k t).summary = t.summary ∧ (setBlock b k t).load = t.load := by
  cases b <;> exact ⟨rfl, rfl, rfl⟩

theorem loseBlock_readFrom (b : TableBlock) (c : Chip) : ReadFrom c (loseBlock b c) := by
  have raised : ∀ d, ReadFrom c d → ReadFrom c (raise .blockLost d) :=
    fun d h => h.trans ⟨rfl, rfl, rfl, rfl, [.blockLost], rfl⟩
  refine raised _ (count_readFrom _ _ _ ?_)
  have queued : ∀ (p : Prop) [Decidable p] (t : Tables), (if p then queueRefetch b t else t).state = t.state
      ∧ (if p then queueRefetch b t else t).summary = t.summary
      ∧ (if p then queueRefetch b t else t).load = t.load := by
    intro p _ t
    unfold queueRefetch
    (repeat' split) <;> exact ⟨rfl, rfl, rfl⟩
  obtain ⟨h1, h2, h3⟩ := setBlock_rest b { blockOf c.tables b with state := .invalid } c.tables
  exact ⟨rfl, (queued _ _).1.trans h1, (queued _ _).2.1.trans h2, (queued _ _).2.2.trans h3, [],
    by simp [setBlockState, mark]⟩

theorem readWord_readFrom (b : TableBlock) (i : Nat) (c : Chip) : ReadFrom c (readWord b i c).2 := by
  unfold readWord
  split
  · exact .refl c
  · dsimp only
    split
    · exact .refl c
    · split
      · exact loseBlock_readFrom b c
      · exact count_readFrom _ _ _ ⟨rfl, rfl, rfl, rfl, [], by simp⟩

theorem readWords_readFrom (b : TableBlock) (is : List Nat) (c : Chip) : ReadFrom c (readWords b is c).2 := by
  induction is generalizing c with
  | nil => exact .refl c
  | cons i is ih => exact (readWord_readFrom b i c).trans (ih _)

theorem readTrack_readFrom (pos : Int) (c : Chip) : ReadFrom c (readTrack pos c).2 := by
  unfold readTrack readRow
  dsimp only
  split <;>
    exact ((readWords_readFrom _ _ _).trans (readWords_readFrom _ _ _)).trans (readWords_readFrom _ _ _)

/-! ### The result follows from the tables -/

theorem count_tables (k : CounterId) (c : Chip) : (count k c).tables = c.tables := by
  unfold count
  dsimp only
  (repeat' split) <;> rfl

theorem readWord_congr (b : TableBlock) (i : Nat) {c d : Chip} (h : c.tables = d.tables) :
    (readWord b i c).1 = (readWord b i d).1 ∧ (readWord b i c).2.tables = (readWord b i d).2.tables := by
  unfold readWord loseBlock setBlockState raise mark
  rw [h]
  split
  · exact ⟨rfl, h⟩
  · dsimp only
    split
    · exact ⟨rfl, h⟩
    · split
      · exact ⟨rfl, by rw [count_tables, count_tables]⟩
      · exact ⟨rfl, by rw [count_tables, count_tables]⟩

theorem readWords_congr (b : TableBlock) (is : List Nat) {c d : Chip} (h : c.tables = d.tables) :
    (readWords b is c).1 = (readWords b is d).1 ∧ (readWords b is c).2.tables = (readWords b is d).2.tables := by
  induction is generalizing c d with
  | nil => exact ⟨rfl, h⟩
  | cons i is ih =>
    obtain ⟨h1, h2⟩ := readWord_congr b i h
    obtain ⟨h3, h4⟩ := ih h2
    exact ⟨by simp only [readWords, h1, h3], h4⟩

/-- The tracking data at a position follow from the tables and the zoom points. -/
theorem readTrack_congr (pos : Int) {c d : Chip} (h : c.tables = d.tables) (hp : c.zoom.points = d.zoom.points) :
    (readTrack pos c).1 = (readTrack pos d).1 := by
  unfold readTrack readRow
  dsimp only
  rw [hp]
  obtain ⟨a1, a2⟩ := readWords_congr .zp [3 + zoneOf d.zoom.points pos, 4 + zoneOf d.zoom.points pos] h
  obtain ⟨b1, b2⟩ := readWords_congr (rowPlace (zoneOf d.zoom.points pos)).1
    (fieldsAt id (rowPlace (zoneOf d.zoom.points pos)).2 1 8) a2
  obtain ⟨c1, _⟩ := readWords_congr (rowPlace (zoneOf d.zoom.points pos + 1)).1
    (fieldsAt id (rowPlace (zoneOf d.zoom.points pos + 1)).2 1 8) b2
  rw [a1, b1, c1]
  split <;> rfl

end Sys2Proof.Machine
end

