-- ==== Sys2Proof/Tests/Slice0.lean ====
section
/-! SUPPORT. Tests: ill-formed commands that the check refuses, one-step tests on small states, and for every obligation
with hypotheses a state and operands that meet them. -/

open Sys2Proof Sys2Proof.Machine

namespace Sys2Proof.Tests

/-! ### Small states -/

/-- A state whose part is `c`. -/
def on (c : Chip) : State := { chip := c }

/-- A part in state `p`, everything else as after reset. -/
def inState (p : PartState) : Chip := { port := { partState := p } }

def up : Chip := inState .running

/-- A running part whose table state is VALID. -/
def upTables : Chip := { up with tables := { state := .valid } }

/-- A running part with valid tables, the zoom at rest at `n` with a known position, and zoom points 0 to 16000 in
steps of 500. -/
def zoomAt (n : Int) : Chip :=
  { upTables with
    tables := { state := .valid, summary := { zMax := 16000, fMax := 4000 } }
    zoom := { state := .idle, known := true, counter := n, points := (List.range 33).map (· * 500), motor := .rest } }

/-- The running part with record `r` in state `q`. -/
def withRecord (r : RecordId) (q : RecordState) (c : Chip) : Chip := setRecord r q c

/-- The blocks of a lens table that passes, with edition 0, F_MAX 100 and Z_MAX 32. -/
def zpWords : List Word :=
  [1, 0, 100] ++ (List.range 33).map (BitVec.ofNat 32) ++ List.replicate 128 0 ++ [-629]

def tr0Words : List Word := [2, 0] ++ List.replicate 136 0 ++ [-2]

def tr1Words : List Word := [3, 0] ++ List.replicate 128 0 ++ [-3]

/-- Words as they lie in memory. -/
def bytesOf (ws : List Word) : List Byte := ws.flatMap (fun w => put32 w.toNat)

/-- An open frame of 64 by 64. -/
def openFrame (slot : Option Nat) (t : Option Triple) : OpenFrame :=
  { number := 1, effective := t, metered := true, captureSlot := slot, geometry := {}, width := 64, height := 64 }

def darkLines : List (List (BitVec 12)) := List.replicate 64 (List.replicate 64 0)

/-- A streaming sensor in a running part. -/
def streaming : Chip := { up with pixel := { stream := .streaming } }

/-- A running part that fills slot 0, with a frame open for it. -/
def fillingSlot (t : Option Triple) : Chip :=
  { up with
    pixel := { stream := .streaming, frame := some (openFrame (some 0) t), dma := .running }
    capture := { state := .filling, filling := some 0 } }

/-- A card run in phase `p` on block `b` of two. -/
def cardRunIn (p : RunPhase) (b : Nat) : Run :=
  { kind := .cardOrder, write := p == .token || p == .busy, plan := ⟨5, 2, 0, false, 0⟩, address := 4096, phase := p,
    block := b, retryLimit := 3, busyLimit := 250 }

def cardIn (p : RunPhase) (b : Nat) : Chip :=
  { up with card := { state := .ready, capacity := some 100, run := some (cardRunIn p b) } }

/-! ### Ill-formed commands -/

theorem test_illFormed_startHeader : (Instr.startHeaderRead [1, 0, 0, 0] (List.replicate 19 0)).wellFormed = false := by decide
theorem test_illFormed_scanRecord : (Instr.scanRecordRead [1, 0, 0, 0] [0] [1, 0, 0, 0]).wellFormed = false := by decide
theorem test_illFormed_releaseCounts : (Instr.releaseCountRead (List.replicate 31 0)).wellFormed = false := by decide
theorem test_illFormed_seenCounts : (Instr.seenCountRead (List.replicate 22 0)).wellFormed = false := by decide
theorem test_illFormed_settingsBody : (Instr.settings 1 (List.replicate 8 0)).wellFormed = false := by decide
theorem test_illFormed_settingsEdition : ∀ b, (Instr.settings 0 b).wellFormed = false := fun _ => rfl
theorem test_illFormed_editions :
    (∀ i ∈ [Instr.rehomeLens 0, .park 0, .unpark 0, .clearCounters 0, .clearFlags 0, .restartStabilizer 0,
      .restartCard 0, .zoomGoto 0 5, .zoomGotoZone 0 1, .zoomRun 0 1, .zoomStop 0, .setDistance 0 1, .resumeTracking 0,
      .search 0, .continuousOn 0, .exposureAuto 0 0, .exposureLock 0, .exposureManual 0 1 1 1, .capturePrepare 0,
      .startBurst 0 1, .captureStop 0, .space 0 1 1, .spare 0 1 1, .cardOrder 0 0 1 1 1],
      i.wellFormed = false) := by decide
theorem test_illFormed_upset : (Instr.frameStart 0 [⟨.zp, 165, false⟩]).wellFormed = false := by decide
theorem test_illFormed_fewLines : (Instr.frameEnd ⟨List.replicate 63 (List.replicate 64 0), true⟩).wellFormed = false := by decide
theorem test_illFormed_shortLine : (Instr.frameEnd ⟨List.replicate 64 (List.replicate 63 0), true⟩).wellFormed = false := by decide
theorem test_illFormed_tableBlock : (Instr.tableBlockRead (List.replicate 659 0)).wellFormed = false := by decide +kernel
theorem test_illFormed_refetch : (Instr.refetchRead (List.replicate 525 0)).wellFormed = false := by decide +kernel
theorem test_illFormed_cardBlock : (Instr.cardReadBlock true (List.replicate 511 0)).wellFormed = false := by decide +kernel
theorem test_wellFormed_boundary :
    (∀ i ∈ [Instr.startHeaderRead [1, 0, 0, 0] (List.replicate 20 0), .releaseCountRead (List.replicate 32 0),
      .frameStart 0 [⟨.zp, 164, false⟩], .tableBlockRead (bytesOf zpWords), .tableBlockRead (bytesOf tr0Words), .refetchRead (bytesOf tr1Words),
      .frameEnd ⟨darkLines, false⟩], i.wellFormed = true) := by decide +kernel

/-! ### The queue -/

/-- No row of the table gives bits, so no word spells a command. -/
theorem test_noWordSpellsACommand :
    decodeTableWord 32 0 = none ∧ State.reset.withFetchWord 32 0 = State.reset := ⟨rfl, rfl⟩

theorem test_emptyQueueIdles (s : State) (h : s.pending = []) : step s = .next s := by
  unfold step; rw [h]

theorem witness_QueueAndAreaBaseFrame :
    (∃ t, exec (.areaBaseWrite 0x1FFF) State.reset = .next t) ∧ (∃ t, exec .powerOnReset (on up) = .next t)
      ∧ ∃ t, exec .gyroDataReady (on up) = .next t := ⟨⟨_, rfl⟩, ⟨_, rfl⟩, ⟨_, rfl⟩⟩

theorem test_areaBase_aligned :
    exec (.areaBaseWrite 0x12345FFF#32) State.reset = .next { State.reset with areaBase := 0x12345000#32 } := rfl

theorem test_areaBase_ignoredInRunning : exec (.areaBaseWrite 4096) (on up) = .next (on up) := rfl

theorem witness_PartStateFrame :
    Said.changesPart .areaBusError = false ∧ Said.changesPart .flickerTimeout = false
      ∧ (∃ t, exec .areaBusError (on up) = .next t) ∧ ∃ t, exec .flickerTimeout (on up) = .next t :=
  ⟨rfl, rfl, ⟨_, rfl⟩, ⟨_, rfl⟩⟩

/-- A running part with the LENS record marked. -/
def oneMark : Chip := mark .lens up

/-- The address just above the leading stamp of the LENS record. -/
theorem witness_MemoryFrame :
    Said.stores .gyroDataReady = false ∧ (on oneMark).chip.busOut = []
      ∧ ∃ t, exec .gyroDataReady (on oneMark) = .next t
        ∧ t.chip.answers.inFlight.map (·.record) = some .lens
        ∧ ∀ w, t.chip.answers.inFlight = some w →
          4096 + answerOffset .lens + 4 < t.chip.port.areaInUse.toNat + 4096 + answerOffset w.record
            ∨ t.chip.port.areaInUse.toNat + 4096 + answerOffset w.record + 4 ≤ 4096 + answerOffset .lens + 4 := by
  refine ⟨rfl, rfl, _, rfl, by decide, fun w h => ?_⟩
  have h2 := congrArg (Option.map (·.record)) h
  have h3 : some AnswerId.lens = some w.record := h2
  rw [← Option.some.inj h3]
  decide

/-- The first byte above the buffer of slot 0, in a truncated frame of 64 by 64. -/
theorem witness_FrameStoresFrame :
    (on (fillingSlot none)).chip.busOut = [] ∧ (∃ t, exec .frameTruncated (on (fillingSlot none)) = .next t)
      ∧ ¬ Said.inBuffer (fillingSlot none) 0 6144 ∧ Said.inBuffer (fillingSlot none) 0 6143
      ∧ (∃ t, exec .powerOnReset State.reset = .next t ∧ t.chip.answers.inFlight = none) := by
  refine ⟨rfl, ⟨_, rfl⟩, ?_, ?_, _, rfl, by decide⟩ <;> unfold Said.inBuffer <;> decide

/-! ### Invariants -/

/-- A running part whose FAULT class differs from its seen count. -/
def noticed : Chip :=
  { up with
    port := { partState := .running, noticeA := true }
    notices := { counts := (List.replicate 10 0).set 8 1 } }

theorem witness_NoticeLinesFollow :
    LinesFollow (on noticed) ∧ (∃ t, step (on noticed) = .next t)
      ∧ (∃ t, step { on noticed with pending := [.gyroDataReady] } = .next t)
      ∧ ({ up.scan with active := true, position := 10 } : Scan).position = 10 := by
  refine ⟨⟨⟨fun _ => ⟨by decide, 8, by decide, ?_, fun _ => by decide, by decide⟩, fun _ => rfl⟩,
    ⟨fun h => absurd h (by decide), ?_⟩⟩, ⟨_, rfl⟩, ⟨_, rfl⟩, rfl⟩
  · exact fun _ h => nomatch (h : (none : Option Settings) = some _)
  · rintro ⟨_, _, _, _, h, _⟩
    exact absurd (h rfl) (by decide)

theorem test_seenCountRead_lowersTheLine :
    ∃ t, exec (.seenCountRead ((List.replicate 20 0).set 16 1))
        (on { noticed with scan := { active := true, position := 10 } }) = .next t ∧ t.chip.port.noticeA = false :=
  ⟨_, rfl, by decide⟩

theorem witness_MemoryStaysCanonical :
    MemoryCanonical { on up with memory := [(16, 3), (17, 255)] }
      ∧ ∃ t, step { on up with memory := [(16, 3), (17, 255)] } = .next t := ⟨⟨by decide, rfl⟩, ⟨_, rfl⟩⟩

theorem witness_AreaBaseStaysAligned :
    BaseAligned { on up with areaBase := 0xFFFFF000#32 }
      ∧ ∃ t, step { on up with areaBase := 0xFFFFF000#32 } = .next t :=
  ⟨by unfold BaseAligned; decide, ⟨_, rfl⟩⟩

theorem witness_TablesKeepTheirSizes :
    Instr.gyroDataReady.wellFormed = true ∧ Shaped (on up) ∧ ∃ t, exec .gyroDataReady (on up) = .next t :=
  ⟨rfl, by unfold Shaped; decide, ⟨_, rfl⟩⟩

/-! ### Registers, start and stop -/

theorem witness_ResetsActOnTheWholePart :
    (on (fillingSlot none)).chip.busOut = [] ∧ (∃ t, exec .powerOnReset (on up) = .next t)
      ∧ (∃ t, exec .softReset (on up) = .next t) ∧ up.capture.filling = none := ⟨rfl, ⟨_, rfl⟩, ⟨_, rfl⟩, rfl⟩

/-- A halted part whose start is in its header read. -/
def headerRead : Chip := { port := { startRead := true, run := true } }

theorem witness_RunWrite :
    (State.reset.chip.port.partState = .halted ∧ State.reset.chip.port.startRead = false)
      ∧ (headerRead.port.partState = .halted ∧ headerRead.port.startRead = true)
      ∧ (headerRead.port.partState = .halted ∧ true = headerRead.port.startRead)
      ∧ (inState .starting).port.partState = .starting ∧ up.port.partState = .running
      ∧ (inState .stopping).port.partState = .stopping := by decide

/-- A part in RUNNING with an ACTIVE zoom request, a PENDING focus request and a card order whose run is in flight. -/
def busyPart : Chip :=
  { withRecord .zoom { edition := 1, outcome := .active } (withRecord .focus { edition := 1, outcome := .pending }
      (withRecord .cardOrder { edition := 1, outcome := .active } up)) with
    card := { state := .ready, run := some (cardRunIn .stopBusy 1) }
    store := { order := some { write := false, sector := 5, count := 2, address := 4096 } } }

theorem witness_RunWrite_stop :
    (∀ p ∈ [PartState.starting, .running], (inState p).port.partState = p ∧ (inState p).records.length = 9)
      ∧ busyPart.records.length = 9 ∧ (∀ r ∈ [RecordId.zoom, .focus], isFinal (record busyPart r).outcome = false)
      ∧ (busyPart.card.run = some (cardRunIn .stopBusy 1) ∧ (cardRunIn .stopBusy 1).kind = .cardOrder
        ∧ (record busyPart .cardOrder).outcome = .active)
      ∧ isFinal (record { busyPart with card := {} } .cardOrder).outcome = false
      ∧ (∀ z, ({ up with zoom := { state := z } } : Chip).zoom.state = z)
      ∧ (let f : Focus := { state := .idle }; f.train = .none)
      ∧ (let f : Focus := { state := .homing, train := .continuous, homing := .seekIn }; f.homing ≠ .goal)
      ∧ up.capture.filling = none ∧ (fillingSlot none).capture.filling = some 0
      ∧ 0 < (fillingSlot none).slots.length := by
  refine ⟨by decide, by decide, by decide, by decide, by decide, fun z => rfl, rfl, by decide, rfl, rfl, by decide⟩

/-- A focus at `counter` in a train of 8 pulses toward 100 that ramps down for a lens table fault. -/
def rampingToFault (counter : Int) : Focus :=
  { state := .moving, homed := true, train := .counted, counter := counter, target := 100, remaining := 8,
    afterRamp := .fault }

theorem witness_rampToFault :
    (rampingToFault 0).state = .moving ∧ (rampingToFault 0).train = .counted ∧ (rampingToFault 0).afterRamp = .fault
      ∧ ({ rampingToFault 0 with remaining := 1 } : Focus).remaining ≤ 1 := by decide

/-- The stop makes the park position the final target, and the drive still ramps down to FAULT (R80, R88). -/
theorem test_stopFocus_keepsTheFault :
    (stopFocus { up with focus := rampingToFault 7 }).focus = { rampingToFault 7 with target := 0 } := by decide

/-- Homing does not take the place of the FAULT that a train ramps down to (R80; log 27). -/
theorem test_startHoming_keepsTheFault :
    (startHoming .track { up with focus := rampingToFault 7 }).focus.afterRamp = .fault := by decide

theorem test_stop_abandonsRequests :
    ∃ t, exec (.runWrite false) (on busyPart) = .next t ∧ (record t.chip .zoom).outcome = .abandoned
      ∧ (record t.chip .focus).detail = .stopped ∧ (record t.chip .cardOrder).outcome = .active :=
  ⟨_, rfl, by decide +kernel⟩

theorem test_runWrite_beginsAStart :
    ∃ t, exec (.runWrite true) { State.reset with areaBase := 4096 } = .next t
      ∧ t.chip.port.startRead = true ∧ t.chip.port.areaInUse = 4096 := ⟨_, rfl, by decide⟩

theorem witness_ScanTriggers :
    up.scan.active = false ∧ (record up .settings).held = none ∧ up.pixel.stream ≠ .streaming
      ∧ ({ up with scan := { active := true } } : Chip).scan.active = true
      ∧ ({ up with scan := { active := true } } : Chip).port.partState = .running
      ∧ (inState .stopping).port.partState = .stopping := by decide

theorem witness_CommandPageReads :
    (headerRead.port.startRead = true ∧ wordOf [1, 0, 0, 0] = 1 ∧ (record headerRead .settings).held = none)
      ∧ (headerRead.port.startRead = true ∧ wordOf [0, 0, 0, 1] ≠ 1 ∧ headerRead.port.partState = .halted)
      ∧ (up.port.startRead = false ∧ up.port.partState ≠ .halted
        ∧ ({ up with scan := { active := true } } : Chip).scan.active = true ∧ up.scan.marked = false) := by decide

theorem test_badLayout :
    ∃ t, exec (.startHeaderRead [2, 0, 0, 0] (List.replicate 20 0)) (on headerRead) = .next t
      ∧ t.chip.port.fault = .badLayout ∧ t.chip.port.partState = .halted := ⟨_, rfl, by decide⟩

/-- A starting part at step `p`. -/
def startAt (p : StartStep) : Chip := { inState .starting with port := { partState := .starting, startStep := p } }

theorem witness_StartSteps :
    (∀ z ∈ [ZoomState.idle, .parked, .fault],
        let c := { startAt .zoom with zoom := { state := z } }
        c.port.startStep = .zoom ∧ c.zoom.state = z ∧ c.focus.train ≠ .counted
          ∧ { c with focus := rampingToFault 0 }.focus.afterRamp = .fault)
      ∧ (∀ f ∈ [FocusState.idle, .moving, .fault], ∀ ws ∈ [[], [(0, 0)]],
        let c := { startAt .focus with
          focus := { state := f }, exposure := { applied := some { xt := 112, xg := 0, xa := 0 } },
          settings := some { stab := { config := ws } } }
        c.port.startStep = .focus ∧ c.focus.state ≠ .homing ∧ c.focus.afterRamp = .none ∧ (cfg c).stab.config = ws
          ∧ c.exposure.applied = some { xt := 112, xg := 0, xa := 0 })
      ∧ ((startAt .streams).pixel.starting = false ∧ (startAt .streams).stab.starting = false
        ∧ (startAt .streams).capture.state = .idle ∧ (startAt .streams).capture.s1.pressed = false
        ∧ (startAt .streams).capture.s2.pressed = false ∧ (startAt .streams).capture.press = .none) := by decide

/-- A reconfiguration that has begun does not keep a start in its last step (R16, R22, R24). -/
theorem test_reconfigurationInLastStep :
    ∃ t, exec .startStepEnd (on { startAt .streams with pixel := {
        stream := .configuring, config := some ⟨0, false, { xt := 112, xg := 0, xa := 0 }⟩ } }) = .next t
      ∧ t.chip.port.partState = .running := ⟨_, rfl, by decide⟩

/-- A record whose request is held until RUNNING. -/
def heldStarting (q : Request) : RecordState :=
  { edition := 1, outcome := .pending, detail := .heldStarting, held := some q }

/-- A START_BURST and a PARK held in STARTING: the burst has begun when the PARK is handed over (R145, R16). -/
theorem test_heldBurstFirst :
    let c := withRecord .service (heldStarting (.service .park))
      (withRecord .capture (heldStarting (.capture (.startBurst 1))) (startAt .streams))
    ∃ t, exec .startStepEnd (on c) = .next t ∧ (record t.chip .capture).outcome = .active
      ∧ (record t.chip .service).detail = .heldBurst ∧ t.chip.capture.state = .waitFrame := ⟨_, rfl, by decide⟩

/-- A stopping part whose stop sequence has ended, the RUN field reading `run`. -/
def stopped (run : Bool) : Chip :=
  { port := { partState := .stopping, run := run }, zoom := { state := .parked },
    pixel := { stopping := .done }, stab := { stopping := .done } }

theorem witness_StopSequenceEnd : ∀ run,
    let c := stopped run
    c.port.partState = .stopping ∧ c.card.run = none ∧ c.zoom.state = .parked ∧ c.focus.state = .lost
      ∧ c.pixel.stopping = .done ∧ c.stab.stopping = .done ∧ c.stab.x.output = 0 ∧ c.stab.y.output = 0 := by decide

/-! ### Scans and answers -/

/-- A running part whose scan is at place `p`. -/
def scanAt (p : Nat) : Chip := { up with scan := { active := true, position := p } }

theorem witness_ScannedRecord :
    (∀ p ∈ [0, 8], (scanAt p).scan.active = true ∧ (scanAt p).scan.position < 9)
      ∧ (1 : Word) ≠ 2
      ∧ ((5 : Word) ≠ 0 ∧ (5 : Word) ≠ (record (scanAt 8) (recordAt 8)).edition ∧ recordAt 8 ≠ .settings)
      ∧ (let c := withRecord (recordAt 8) { edition := 5 } (scanAt 8)
        (5 : Word) = (record c (recordAt 8)).edition ∧ recordAt 8 ≠ .settings) := by decide

/-- Slots 0 and 1 STORED and STORE_FAILED, with fill counts 1 and 2. -/
def usedSlots : Chip :=
  { scanAt 9 with slots := [{ state := .stored, fill := 1 }, { state := .storeFailed, fill := 2 }] ++ List.replicate 14 {} }

theorem witness_ReleaseCounts :
    (scanAt 9).scan.active = true ∧ (scanAt 9).scan.position = 9
      ∧ (let p := slot usedSlots 1; (1 < (cfg usedSlots).pool.slotCount) ∧ p.state = .storeFailed
        ∧ (halvesOf [1, 0, 2, 0]).getD 1 0 = p.fill)
      ∧ (cfg usedSlots).pool.slotCount ≤ 2 := by decide

theorem test_releaseCounts :
    ∃ t, exec (.releaseCountRead [1, 0, 1, 0]) (on usedSlots) = .next t ∧ (slot t.chip 0).state = .free
      ∧ (slot t.chip 1).state = .storeFailed := ⟨_, rfl, by decide⟩

def writing : Chip := { up with answers := { inFlight := some ⟨.lens, 7, [1, 2, 3]⟩ } }

theorem witness_AnswerRecordWrites : (on writing).chip.answers.inFlight = some ⟨.lens, 7, [1, 2, 3]⟩ := rfl

/-- In HALTED a record marked again at the entry is not written again after a bus error (R12). -/
theorem test_answerBusError_halted :
    let a : Answers := { inFlight := some ⟨.lens, 7, [1]⟩, finishing := (List.replicate 26 false).set (answerIndex .lens) true }
    ∃ t, exec .answerBusError (on { inState .halted with answers := a }) = .next t ∧ t.chip.answers.inFlight = none :=
  ⟨_, rfl, by decide⟩

theorem witness_AnswerOrder :
    oneMark.answers.inFlight = none ∧ oneMark.port.partState ≠ .halted ∧ answerIndex .lens < 26
      ∧ oneMark.answers.marks.getD ((oneMark.answers.last + 1 + answerIndex .lens) % 26) false = true
      ∧ ∀ j < answerIndex .lens, oneMark.answers.marks.getD ((oneMark.answers.last + 1 + j) % 26) false = false := by
  decide

theorem witness_ConcludeFrame :
    up.events = [] ∧ up.answers.zoomEvent = false ∧ up.answers.focusEvent = false
      ∧ (markZoomPart (markFocusPart up)).events = [] ∧ (markZoomPart (markFocusPart up)).answers.zoomEvent = true
      ∧ (markZoomPart (markFocusPart up)).answers.focusEvent = true := by decide

/-- LENS written for the Focus Drive shows the zoom counter of the last event of R69, and its own part anew (log 37). -/
theorem test_lens_showsTheCounterOfTheLastEvent :
    (conclude (markFocusPart { zoomAt 500 with focus := { counter := 9 } })).answers.inFlight.map
        (fun w => ((w.body.drop 24).take 4, (w.body.drop 40).take 2))
      = some (put32 0, put16 9) := by decide +kernel

/-- A count marks nothing and leaves the zoom counter that LENS shows (R69). -/
theorem test_count_keepsTheLensPart :
    ∃ t, exec (.encoderTransition .tele) (on (zoomAt 500)) = .next t ∧ t.chip.zoom.counter = 501
      ∧ t.chip.answers.zoomPart.counter = 0 := ⟨_, rfl, by decide +kernel⟩

/-- The drives' parts of LENS at reset are those of the drives at reset. -/
theorem test_reset_lensParts :
    zoomPartOf State.reset.chip.zoom = State.reset.chip.answers.zoomPart
      ∧ focusPartOf State.reset.chip.focus = State.reset.chip.answers.focusPart := by decide

/-! ### Requests -/

theorem witness_NewRequest :
    ∀ r ∈ [RecordId.settings, .zoom, .focus, .exposure, .capture, .space, .spare, .cardOrder, .service],
      Said.NewRequest r 1 up ∧ Said.NewRequest r 1 upTables := by
  unfold Said.NewRequest; decide

/-- A body of 768 zeros: its settings are the limits of the tables. -/
def zeroBody : List Byte := List.replicate 768 0

/-- Zeros, but for the slot size 6144, the bytes of a 64 by 64 frame. -/
def slotBody : List Byte := List.replicate 13 0 ++ [0x18] ++ List.replicate 754 0

/-- The part with the settings that `zeroBody` gives, changed by `f`. -/
def settled (f : PoolSettings → PoolSettings) : Chip :=
  let n := settingsOf zeroBody
  { upTables with settings := some { n with pool := f n.pool } }

/-- The conditions common to the clauses of SettingsRequest. -/
def settingsFresh (c : Chip) : Bool :=
  c.port.partState == .running && (1 : Word) != (record c .settings).edition
    && !(record c .settings).earlierActive && isFinal (record c .settings).outcome && c.records.length == 9

theorem witness_SettingsRequest_geometry :
    let c := { settled (fun p => { p with poolBase := p.poolBase + 4096 }) with
      slots := { state := .stored } :: List.replicate 15 {} }
    settingsFresh c = true ∧ c.slots.any (fun p => p.state != .free) = true
      ∧ (cfg c).pool.poolBase ≠ (settingsOf zeroBody).pool.poolBase := by decide

theorem witness_SettingsRequest_table :
    let n := settingsOf zeroBody
    let busy := { settled id with zoom := { state := .moving }, tables := { state := .valid, summary := { edition := 1 } } }
    let changed := { settled id with tables := { state := .valid, summary := { edition := 1 } } }
    let same := { settled id with tables := { state := .valid, summary := { imageAddress := n.pool.imageAddress, edition := n.pool.tableEdition } } }
    settingsFresh busy = true ∧ settingsFresh changed = true ∧ settingsFresh same = true
      ∧ busy.tables.summary.edition ≠ n.pool.tableEdition ∧ changed.zoom.state = .lost ∧ changed.focus.state = .lost
      ∧ same.tables.summary.edition = n.pool.tableEdition ∧ same.search.phase = .none
      ∧ (∀ t ∈ [TableState.empty, .fault], ({ same with tables := { same.tables with state := t } } : Chip).tables.state ≠ .valid)
      ∧ n.pool.slotSize < frameBytes n.sensor := by decide

theorem witness_SettingsRequest_slotSuffices :
    ∃ body : List Byte, body.length = 768 ∧ frameBytes (settingsOf body).sensor ≤ (settingsOf body).pool.slotSize :=
  ⟨slotBody, by decide +kernel, by decide +kernel⟩

theorem witness_SensorSettingsLimits :
    let c := fun b => { upTables with settings := some (settingsOf b) }
    let t := upTables.tables.summary
    (settingsFresh (c slotBody) = true ∧ t.imageAddress = (settingsOf slotBody).pool.imageAddress
      ∧ t.edition = (settingsOf slotBody).pool.tableEdition)
      ∧ (settingsFresh (c zeroBody) = true ∧ t.imageAddress = (settingsOf zeroBody).pool.imageAddress
        ∧ t.edition = (settingsOf zeroBody).pool.tableEdition ∧ upTables.tables.state = .valid
        ∧ upTables.search.phase = .none)
      ∧ frameBytes (settingsOf slotBody).sensor ≤ (settingsOf slotBody).pool.slotSize
      ∧ (settingsOf zeroBody).pool.slotSize < frameBytes (settingsOf zeroBody).sensor
      ∧ (settingsOf slotBody).sensor ≠ readSensor slotBody := by decide

theorem witness_HeldBehindPrevious :
    (up.port.partState = .running ∧ (2 : Word) ≠ 0)
      ∧ (∀ r ∈ [RecordId.service, .cardOrder, .settings],
        let c := withRecord r { edition := 1, outcome := .active } up
        (2 : Word) ≠ (record c r).edition ∧ (record c r).outcome = .active) := by decide

theorem test_heldService :
    ∃ t, exec (.park 2) (on (withRecord .service { edition := 1, outcome := .active } up)) = .next t
      ∧ (record t.chip .service).outcome = .pending ∧ (record t.chip .service).detail = .heldPrevious :=
  ⟨_, rfl, by decide⟩

theorem witness_LensServices :
    (upTables.tables.state = .valid ∧ upTables.search.phase = .none ∧ upTables.zoom.state = .lost)
      ∧ (∀ z ∈ [ZoomState.idle, .parked, .lost, .fault, .held, .moving],
        Said.NewRequest .service 1 { upTables with zoom := { state := z } }
          ∧ Said.NewRequest .service 1 { up with zoom := { state := z } }
          ∧ ({ upTables with zoom := { state := z } } : Chip).zoom.state = z)
      ∧ up.tables.state ≠ .valid
      ∧ (let c := withRecord .zoom { edition := 1, outcome := .active }
          { upTables with zoom := { state := .moving, motor := .drive .tele } }
        Said.NewRequest .service 1 c ∧ c.zoom.motor = .drive .tele
          ∧ (record c .zoom).earlierActive = false ∧ (record c .zoom).outcome = .active) := by
  unfold Said.NewRequest; decide

/-- REHOME_LENS in HELD brakes before homing (R63). -/
theorem test_rehomeHeld_brakes :
    ∃ t, exec (.rehomeLens 1) (on { upTables with zoom := { state := .held, motor := .rest } }) = .next t
      ∧ t.chip.zoom.motor = .brake ∧ t.chip.zoom.after = .home .unpark := ⟨_, rfl, by decide⟩

/-- A running part with one gyro configuration write and the Stabilizer in FAULT. -/
def gyroFault : Chip :=
  { up with settings := some { stab := { config := [(0, 0)] } }, stab := { mode := .fault } }

theorem witness_RestartServices :
    (Said.NewRequest .service 1 gyroFault ∧ gyroFault.stab.mode = .fault ∧ (cfg gyroFault).stab.config ≠ [])
      ∧ (let c := { gyroFault with settings := some {} }
        Said.NewRequest .service 1 c ∧ c.stab.mode = .fault ∧ (cfg c).stab.config = [])
      ∧ (Said.NewRequest .service 1 up ∧ up.stab.mode ≠ .fault ∧ up.card.state ≠ .fault)
      ∧ (Said.NewRequest .service 1 { up with card := { state := .fault } }) := by
  unfold Said.NewRequest; decide

theorem test_clearCounters :
    ∃ t, exec (.clearCounters 1) (on { up with wear := { counts := [1, 2, 3, 4, 5, 6] } }) = .next t
      ∧ t.chip.wear.counts = List.replicate 6 0 ∧ (record t.chip .service).outcome = .done := ⟨_, rfl, by decide⟩

/-- A move to 16000, to the point of the last zone, and toward WIDE. -/
theorem witness_ZoomMoves :
    (Said.NewRequest .zoom 1 (zoomAt 8000) ∧ (zoomAt 8000).search.phase = .none ∧ (zoomAt 8000).events = []
        ∧ (zoomAt 8000).tables.state = .valid ∧ (zoomAt 8000).zoom.state = .idle)
      ∧ Said.ZoomMove 1 (zoomAt 8000) (.zoomGoto 1 20000) 16000 true
      ∧ Said.ZoomMove 1 (zoomAt 8000) (.zoomGotoZone 1 31) 15500 false
      ∧ Said.ZoomMove 1 (zoomAt 8000) (.zoomRun 1 1) 0 false
      ∧ (cfg (zoomAt 8000)).zoom.brakeLead < ((0 : Int) - (zoomAt 8000).zoom.counter).natAbs
      ∧ (cfg (zoomAt 8000)).zoom.tolerance < ((0 : Int) - (zoomAt 8000).zoom.counter).natAbs := by
  refine ⟨by unfold Said.NewRequest; decide, .inl ⟨20000, rfl, by decide, by decide⟩,
    .inr (.inl ⟨31, rfl, by decide, by decide⟩), .inr (.inr ⟨1, rfl, by decide, by decide⟩), by decide, by decide⟩

theorem test_zoomGoto :
    ∃ t, exec (.zoomGoto 1 20000) (on (zoomAt 8000)) = .next t ∧ t.chip.zoom.target = 16000
      ∧ t.chip.zoom.motor = .drive .tele ∧ (record t.chip .zoom).clamped = true := ⟨_, rfl, by decide⟩

/-- The part with the zoom in state `z` and the tables in state `t`. -/
def zoomIn (t : TableState) (z : ZoomState) : Chip := { up with tables := { state := t }, zoom := { state := z } }

/-- A move that brakes toward its lens table fault. -/
def towardFault : Chip :=
  { up with tables := { state := .fault }, zoom := { state := .moving, motor := .brake, after := .tableFault } }

theorem witness_ZoomStopAndRefusals :
    (∀ z ∈ [ZoomState.idle, .parked, .lost, .fault], ∀ t ∈ [TableState.valid, .empty, .fault],
        Said.NewRequest .zoom 1 (zoomIn t z) ∧ (zoomIn t z).search.phase = .none ∧ (zoomIn t z).events = []
          ∧ (zoomIn t z).zoom.state = z ∧ (zoomIn t z).tables.state = t)
      ∧ (let c := { up with zoom := { state := .moving, motor := .drive .tele } }
        Said.NewRequest .zoom 1 c ∧ c.zoom.state = .moving ∧ c.zoom.motor = .drive .tele ∧ c.zoom.after ≠ .tableFault)
      ∧ (Said.NewRequest .zoom 1 (zoomIn .valid .held) ∧ (zoomIn .valid .held).zoom.state = .held) := by
  unfold Said.NewRequest; decide

theorem witness_ZoomStop_towardFault :
    Said.NewRequest .zoom 1 towardFault ∧ towardFault.search.phase = .none ∧ towardFault.events = []
      ∧ towardFault.zoom.state = .moving ∧ towardFault.zoom.motor = .brake ∧ towardFault.zoom.after = .tableFault := by
  unfold Said.NewRequest; decide

/-- A STOP in the braking toward a lens table fault is ACTIVE, a cut leaves it so, and FAULT ends it (R60, R65, R67). -/
theorem test_stopTowardFault :
    ∃ t, exec (.zoomStop 1) (on towardFault) = .next t ∧ (record t.chip .zoom).outcome = .active
      ∧ (record (cutZoom t.chip) .zoom).outcome = .active
      ∧ (record (brakeTimer t.chip) .zoom).detail = .lensTableFault
      ∧ (brakeTimer t.chip).zoom.state = .fault := ⟨_, rfl, by decide⟩

/-- A cut in that braking ends any other request, and FAULT still follows (R67; log 13). -/
theorem test_cutTowardFault :
    let c := cutZoom (withRecord .zoom { edition := 1, outcome := .active } towardFault)
    (record c .zoom).detail = .cutByCapture ∧ c.zoom.after = .tableFault := by decide

/-- A request held with HELD_ZOOM_BUSY stays held in that braking, and a newer edition takes its place (R60, R8). -/
theorem test_heldTowardFault :
    let held : RecordState := { edition := 1, outcome := .pending, detail := .heldZoomBusy, held := some (.zoom .stop) }
    ∃ t, exec (.zoomStop 2) (on (withRecord .zoom held towardFault)) = .next t
      ∧ (record t.chip .zoom).outcome = .pending ∧ (record t.chip .zoom).detail = .heldZoomBusy := ⟨_, rfl, by decide⟩

theorem witness_ZoomMove_refused (z : ZoomState) : Said.ZoomMove 1 (zoomIn .valid z) (.zoomGoto 1 0) 0 false :=
  .inl ⟨0, rfl, by simp [zMax, zoomIn, up, inState], rfl⟩

theorem witness_FocusModes :
    (Said.NewRequest .focus 1 up ∧ up.search.phase = .none ∧ up.events = [] ∧ up.focus.state ≠ .homing)
      ∧ up.focus.homed = false
      ∧ (∀ c ∈ [{ up with focus := { state := .fault, homed := true } },
          { up with focus := { state := .idle, homed := true }, zoom := { state := .parked } }],
        Said.NewRequest .focus 1 c ∧ (c.focus.state = .fault ∨ c.zoom.state = .parked))
      ∧ (0 < 5 ∧ (cfg up).stats.enables.getD 0 false = true) := by
  unfold Said.NewRequest; decide

theorem test_setDistance_limited :
    ∃ t, exec (.setDistance 1 449) (on up) = .next t ∧ t.chip.control.distance = 448
      ∧ (record t.chip .focus).clamped = true := ⟨_, rfl, by decide⟩

/-- A part with valid tables, the focus homed in state `f` and the zoom in state `z`. -/
def focusIn (f : FocusState) (z : ZoomState) : Chip :=
  { upTables with focus := { state := f, homed := true }, zoom := { state := z } }

theorem witness_SearchRequest :
    (∀ c ∈ [up, focusIn .fault .idle, upTables, focusIn .idle .parked, focusIn .idle .moving],
        Said.NewRequest .focus 1 c ∧ c.search.phase = .none ∧ c.service = none ∧ c.events = [])
      ∧ up.tables.state ≠ .valid ∧ (upTables.focus.state ≠ .fault ∧ upTables.focus.homed = false)
      ∧ zoomStill (focusIn .idle .moving).zoom = false := by
  unfold Said.NewRequest; decide

/-- A part with readable tables, the zoom at rest in zone 0 and the focus homed at rest. -/
def canSearch : Chip :=
  { focusIn .idle .idle with
    tables := {
      state := .valid, summary := { zMax := 32, fMax := 100 }, zp := ⟨.valid, zpWords⟩, tr0 := ⟨.valid, tr0Words⟩,
      tr1 := ⟨.valid, tr1Words⟩ }
    zoom := { state := .idle, known := true, points := List.range 33, motor := .rest } }

/-- The tracking data of `canSearch`: every cell is 0. -/
def flatTrack : TrackData := { u := 0, rowA := List.replicate 8 0, rowB := List.replicate 8 0 }

theorem witness_SearchBegins :
    (∀ c ∈ [canSearch, { canSearch with tables := { state := .valid, zp := { state := .invalid } } },
          { canSearch with service := some ⟨.unpark, .zoom⟩ }, { canSearch with service := some ⟨.unpark, .focus⟩ }],
        Said.NewRequest .focus 1 c ∧ c.search.phase = .none ∧ c.events = [] ∧ Said.CanSearch c ∧ ¬ Said.ZoomParks c
          ∧ zoomStill c.zoom = true)
      ∧ (readTrack canSearch.zoom.counter canSearch).1 = some flatTrack
      ∧ (let c := { canSearch with tables := { state := .valid, zp := { state := .invalid } } }
        (readTrack c.zoom.counter c).1 = none) := by
  unfold Said.NewRequest Said.CanSearch Said.ZoomParks; decide

theorem witness_SearchInBurst :
    let c := { canSearch with capture := { state := .waitFrame } }
    Said.Superseding .focus 1 c ∧ c.search.phase = .none ∧ burstInProgress c = true ∧ Said.CanSearch c
      ∧ c.service = none ∧ ¬ Said.ZoomParks c ∧ c.events = [] := by
  unfold Said.Superseding Said.CanSearch Said.ZoomParks; decide

theorem test_search_sweepsFromItsNearerEnd :
    ∃ t, exec (.search 1) (on canSearch) = .next t ∧ t.chip.search.phase = .coarse ∧ t.chip.search.hi = 32
      ∧ t.chip.search.sweepNear = true := ⟨_, rfl, by decide⟩

/-- At, above and below the threshold of a maximum of 256 with drop 32, and past the peak. -/
theorem witness_PeakSummary :
    let k : Peak := ⟨256, 5, 1, false⟩
    (k.passed = false ∧ k.maximum < 257 ∧ 256 ≤ k.maximum) ∧ 223 < k.maximum * (256 - 32) / 256
      ∧ k.maximum * (256 - 32) / 256 ≤ 224 ∧ ({ k with passed := true } : Peak).passed = true := by decide

/-- COARSE with window 0 enabled, from 0 to 96, the counter at `p`, in an open frame of 64 by 64. -/
def coarseAt (p : Int) (n : Nat) : Chip :=
  { up with
    pixel := { stream := .streaming, frame := some (openFrame none none) }
    focus := { state := .idle, homed := true, counter := p }
    search := {
      phase := .coarse, motor := true, enabled := [true, false, false, false, false], hi := 96,
      record := List.replicate n ⟨0, [0], false⟩ } }

/-- A sample at the start, at the other end, and the 64th. -/
theorem witness_CoarseSample :
    (∀ p ∈ [((0 : Int), 0), (96, 0), (0, 63), (0, 62)],
      let c := coarseAt p.1 p.2
      let f := openFrame none none
      c.pixel.frame = some f ∧ f.metered = true ∧ Said.Complete f ⟨darkLines, true⟩ ∧ c.search.motor = true
        ∧ c.focus.state = .idle ∧ c.focus.train = .none ∧ c.focus.motion = false ∧ c.following.active = false
        ∧ enabledValues c.search.enabled (focusValues f.geometry (activeFrame 64 64 darkLines)) = some [0])
      ∧ updatePeak 32 0 0 none = ⟨0, 0, 0, false⟩ := by
  unfold Said.Complete; decide

theorem test_coarseSample_goesOn :
    ∃ t, exec (.frameEnd ⟨darkLines, true⟩) (on (coarseAt 0 0)) = .next t ∧ t.chip.search.wanted = 48
      ∧ t.chip.search.record.length = 1 := ⟨_, rfl, by decide⟩

theorem witness_WindowChoice :
    (∀ w < 5, up.search.peaks.getD w none = none)
      ∧ (let k : Peak := ⟨19999, 5, 2, true⟩; k.maximum < up.search.kept.minContrast) := by decide

theorem witness_FineSweep :
    let c := coarseAt 0 62
    c.focus.state = .idle ∧ c.focus.train = .none ∧ c.search.record.length < 63 ∧ c.focus.counter ≠ c.search.hi := by
  decide

/-- A denominator of 0, the tie of section 6.8's rounding, and the worked example of section 6.9. -/
theorem witness_PeakOffset :
    (0 ≤ 2 * ((1 : Int) - 2 * 1 + 1)) ∧ 2 * ((0 : Int) - 2 * 1 + 1) < 0 ∧ peakOffset 1 0 1 1 = 0
      ∧ peakOffset 3 0 1 1 = 1 ∧ peakOffset 8 53100 55400 54600 = 2 := by decide

theorem witness_SearchFinish :
    (readTrack canSearch.zoom.counter canSearch).1 = some flatTrack ∧ (readTrack 0 up).1 = none := by decide

theorem witness_ExposureRequests :
    (Said.NewRequest .exposure 1 up ∧ up.events = [] ∧ up.exposure.hold = false)
      ∧ (Said.NewRequest .exposure 1 { up with exposure := { hold := true } }) := by
  unfold Said.NewRequest; decide

theorem test_exposureAuto_limited :
    ∃ t, exec (.exposureAuto 1 49) (on up) = .next t ∧ t.chip.exposure.compensation = 48
      ∧ (record t.chip .exposure).clamped = true := ⟨_, rfl, by decide⟩

/-- A running part whose Capture Control is in state `k`. -/
def captureIn (k : CaptureState) : Chip := { up with capture := { state := k } }

theorem witness_CaptureRequests :
    (Said.NewRequest .capture 1 (captureIn .idle) ∧ halfHeld (captureIn .idle).capture = false)
      ∧ (Said.NewRequest .capture 1 (captureIn .prepared) ∧ fullHeld (captureIn .prepared).capture = false
        ∧ (captureIn .prepared).capture.s1.pressed = false ∧ (captureIn .prepared).capture.s2.pressed = false)
      ∧ up.pixel.stream ≠ .fault ∧ Said.NewRequest .capture 1 { up with pixel := { stream := .fault } } := by
  unfold Said.NewRequest; decide

theorem witness_StopInBurst :
    ∀ k ∈ [CaptureState.waitZoom, .waitFocus, .waitFrame, .waitRoom, .filling],
      let c := withRecord .capture { edition := 1, outcome := .active } { up with capture := { state := k, press := .full } }
      Said.Superseding .capture 2 c ∧ c.capture.press = .full ∧ c.capture.s1.pressed = false
        ∧ c.capture.s2.pressed = false ∧ c.capture.state = k := by
  unfold Said.Superseding; decide

theorem test_startBurst_fromIdle :
    ∃ t, exec (.startBurst 1 3) (on (captureIn .idle)) = .next t ∧ t.chip.capture.state = .waitFrame
      ∧ t.chip.capture.burst.rate.isSome = true := ⟨_, rfl, by decide⟩

/-- A running part whose card is in state `k`, with the capacity `n`. -/
def cardState (k : CardState) (n : Option Nat) : Chip := { up with card := { state := k, capacity := n } }

theorem witness_Grants :
    ∀ c ∈ [cardState .absent none, cardState .initialising none, cardState .fault none, cardState .ready (some 100),
        cardState .fault (some 100)],
      Said.NewRequest .space 1 c ∧ Said.NewRequest .spare 1 c := by
  unfold Said.NewRequest; decide

/-- A READY card with a space grant of `n` sectors from 10, and slot 1, of 1000 bytes, in the queue. -/
def queued (n : Nat) : Chip :=
  { cardState .ready (some 100) with
    slots := [{}, { state := .filled, store := .queued, byteLength := 1000 }] ++ List.replicate 14 {}
    store := { queue := [1], space := ⟨10, n, 10⟩ } }

theorem witness_PictureBegins :
    ∀ n ∈ [1, 80], let c := queued n
      c.port.partState = .running ∧ c.card.state = .ready ∧ c.card.run = none ∧ c.store.picture = none
        ∧ c.store.order = none ∧ c.store.queue = [1] ∧ 1 < c.slots.length
        ∧ c.store.space.cursor < c.store.space.start + c.store.space.count ∧ 0 < (slot c 1).byteLength := by decide

theorem test_space_limitedToCapacity :
    ∃ t, exec (.space 1 90 20) (on (cardState .ready (some 100))) = .next t
      ∧ t.chip.store.space = ⟨90, 10, 90⟩ ∧ (record t.chip .space).clamped = true := ⟨_, rfl, by decide⟩

theorem witness_CardOrders :
    (∀ c ∈ [cardState .ready (some 100), cardState .absent none, cardState .fault none, cardState .initialising none],
        Said.NewRequest .cardOrder 1 c)
      ∧ 2 ≤ (2 : Byte).toNat ∧ (1 : Byte).toNat < 2 ∧ (99 : Word).toNat < 100 ∧ 100 ≤ (100 : Word).toNat := by
  unfold Said.NewRequest; decide

/-- A picture run is ready and order work waits, or not, with 2 slots FREE of 2 in use. -/
def cardWorkIn (picture order : Bool) (k : RunKind) (pressure : Nat) : Chip :=
  { cardState .ready (some 100) with
    settings := some { capture := { pressure := pressure } }
    store := {
      picture := if picture then some { slot := 0, dataSectors := 1, next := some ⟨5, 1, 0, false, 0⟩ } else none
      order := if order then some { write := true, sector := 5, count := 1, address := 0 } else none
      lastKind := k } }

theorem witness_ArbiterChoice :
    (∀ p o, ∀ k ∈ [RunKind.picture, .cardOrder],
        pictureReady (cardWorkIn p o k 1) = p ∧ (cardWorkIn p o k 1).store.lastKind = k)
      ∧ (∀ p, ∀ k ∈ [RunKind.picture, .cardOrder], freeSlots (cardWorkIn p true k 2) = 2 ∧ (cfg (cardWorkIn p true k 2)).capture.pressure = 2
        ∧ (cfg (cardWorkIn p true k 1)).capture.pressure < freeSlots (cardWorkIn p true k 1))
      ∧ (let o : OrderWork := { write := true, sector := 5, count := 1, address := 0 }
        o.waiting = false ∧ o.done < o.count ∧ o.next = none) := by decide

/-! ### Sensor, frames and the capture DMA -/

def someTriple : Triple := { xt := 160, xg := 16, xa := 8 }

/-- Configuration write `n` is awaited. -/
def configuring (n : Nat) (again : Bool) : Chip :=
  { up with pixel := { stream := .configuring, config := some ⟨n, again, someTriple⟩ } }

theorem witness_StreamConfiguration :
    (∀ n ∈ [0, 1, 2, 3, 4, 5, 6], ∀ again, (configuring n again).pixel.config = some ⟨n, again, someTriple⟩
        ∧ (configuring n again).pixel.inFlight = none ∧ (configuring n again).pixel.stopping ≠ .writing)
      ∧ (∀ p ∈ [{ stream := .streaming, reconfigure := true, waiting := some someTriple },
          ({ stream := .stalled, reconfigure := true, effective := some someTriple } : Pixel)],
        p.reconfigure = true ∧ p.frame = none ∧ p.inFlight = none
          ∧ (p.waiting = some someTriple ∨ (p.waiting = none ∧ p.pipeline = [] ∧ p.effective = some someTriple)))
      ∧ streaming.pixel.stream = .streaming
      ∧ (let newest : PipelineEntry := ⟨someTriple, 7, 1⟩
        let older : PipelineEntry := ⟨someTriple, 6, 0⟩
        ∀ x ∈ [older, newest], x ≠ newest → x.order < newest.order) := by decide

theorem test_lastConfigWrite :
    ∃ t, exec (.configWriteDone true) (on (configuring 6 false)) = .next t ∧ t.chip.pixel.stream = .streaming :=
  ⟨_, rfl, by decide⟩

/-- The sixth configuration write is the one transaction of the triple, as a sensor write is (R22, R29). -/
theorem test_sensorTransaction :
    let k : SensorSettings := { address := 16, shutterRegister := 3, gainRegister := 5 }
    let t : Triple := { someTriple with lineCount := 40, gainCode := 7 }
    ∀ p ∈ [({ carried := k, config := some ⟨5, false, t⟩ } : Pixel), { carried := k, inFlight := some t }],
      sensorTransaction { up with pixel := p } = some ⟨16, .exposure 3 40 5 7⟩ := by decide

/-- A streaming part that waits for a frame to claim, slot 0 in use. -/
def waitingFrame : Chip :=
  { streaming with
    capture := { state := .waitFrame, burst := { earliest := some 10 } }
    slots := { state := .stored } :: List.replicate 15 {} }

/-- A burst in WAIT_ZOOM with a search at position `n`, tables whose tracking position is 0, and every slot FREE. -/
def searchingForBurst (n : Int) : Chip :=
  { streaming with
    tables := { state := .valid, zp := ⟨.valid, []⟩, tr0 := ⟨.valid, []⟩, tr1 := ⟨.valid, []⟩, summary := { fMax := 100 } }
    zoom := { state := .idle, known := true, motor := .rest }
    focus := { state := .idle, homed := true, counter := n, target := 9 }
    search := { phase := .coarse }
    capture := { state := .waitZoom } }

theorem witness_CaptureEndsSearch (n : Int) :
    let c := searchingForBurst n
    Said.CalmButSearch c ∧ c.search.phase ≠ .none ∧ c.capture.state = .waitZoom ∧ c.capture.filling = none
      ∧ zoomStill c.zoom = true ∧ c.capture.burst.priority ≠ 1 ∧ c.now ≤ 5 ∧ Said.LowestFree 0 c
      ∧ c.focus.state ≠ .homing ∧ c.focus.afterRamp = .none ∧ c.focus.train ≠ .continuous := by
  refine ⟨⟨.inl rfl, rfl, rfl, rfl, rfl, rfl, rfl⟩, ?_⟩
  exact ⟨nofun, rfl, rfl, rfl, nofun, Nat.zero_le 5, ⟨rfl, Nat.lt_of_lt_of_le (by decide : 0 < 2) (Nat.le_refl 2), by decide, rfl, nofun⟩, nofun, rfl, nofun⟩

/-- A final target that equals the counter is taken into SUSPENDED too (R76). -/
theorem test_captureEndsSearch_suspends :
    ∃ t, exec (.frameStart 5 []) (on (searchingForBurst 0)) = .next t
      ∧ t.chip.focus.train = .suspended ∧ t.chip.focus.target = 0 ∧ t.chip.focus.counter = 0 := ⟨_, rfl, by decide⟩

theorem witness_FrameStarts :
    (Said.CalmFrame streaming ∧ streaming.pixel.pipeline = [] ∧ streaming.capture.state = .idle
        ∧ streaming.capture.filling = none)
      ∧ (Said.CalmFrame waitingFrame ∧ waitingFrame.capture.state = .waitFrame
        ∧ waitingFrame.capture.burst.earliest = some 10 ∧ 10 ≤ 10 ∧ Said.LowestFree 1 waitingFrame
        ∧ waitingFrame.focus.train = .none)
      ∧ (∀ t ∈ [Train.counted, .dwell], let f : Focus := { state := .moving, train := t }; f.afterRamp = .none ∧ f.state ≠ .homing) := by
  unfold Said.CalmFrame Said.CalmButSearch Said.LowestFree; decide

/-- An entry that takes effect, with another behind it; no slot FREE; and a picture that is not due yet. -/
theorem witness_FrameStarts_pipeline :
    let e : PipelineEntry := ⟨someTriple, 1, 0⟩
    let later : PipelineEntry := ⟨someTriple, 2, 1⟩
    let c : Chip := { streaming with pixel := { stream := .streaming, pipeline := [e, later] } }
    Said.CalmFrame c ∧ Said.EntryDue c.pixel e [later]
      ∧ Said.EntryDue { c.pixel with pipeline := [e] } e []
      ∧ ∀ x ∈ [later], x.frame ≠ streaming.pixel.frameCounter + 1 := by
  unfold Said.CalmFrame Said.CalmButSearch Said.EntryDue; decide

theorem witness_FrameStarts_room :
    (waitingFrame.capture.burst.earliest = some 10 ∧ 9 < 10)
      ∧ (let c := { waitingFrame with slots := List.replicate 16 { state := .stored } }
        Said.CalmFrame c ∧ c.capture.state = .waitFrame ∧ c.capture.filling = none
          ∧ ∀ m < (cfg c).pool.slotCount, (slot c m).state ≠ .free)
      ∧ (let c := { waitingFrame with capture := { state := .waitRoom, burst := { delayed := true } } }
        Said.CalmFrame c ∧ Said.PictureWanted 0 c.capture) := by
  unfold Said.CalmFrame Said.CalmButSearch Said.PictureWanted; decide

theorem test_frameStart_claims :
    ∃ t, exec (.frameStart 10 []) (on waitingFrame) = .next t ∧ t.chip.capture.filling = some 1
      ∧ (slot t.chip 1).number = 1 ∧ t.chip.pixel.dma = .running := ⟨_, rfl, by decide⟩

/-- A running part with an open metered frame that is no capture frame. -/
def frameOpen (t : Option Triple) : Chip :=
  { up with pixel := { stream := .streaming, frame := some (openFrame none t) } }

theorem witness_FrameEnd :
    let c := frameOpen (some someTriple)
    let f := openFrame none (some someTriple)
    c.pixel.frame = some f ∧ f.received = none ∧ Said.Complete f ⟨darkLines, true⟩ ∧ f.metered = true
      ∧ c.search.motor = false ∧ c.following.active = false ∧ c.port.partState = .running := by
  unfold Said.Complete; decide

/-- A capture frame that has been received and waits for its last DMA write. -/
def awaitingWrite : OpenFrame :=
  { openFrame (some 0) (some someTriple) with received := some darkLines }

theorem witness_InSlot :
    Said.InSlot (openFrame (some 0) (some someTriple)) ⟨darkLines, true⟩ (activeFrame 64 64 darkLines)
      ∧ Said.InSlot awaitingWrite ⟨[], true⟩ (activeFrame 64 64 darkLines) := by
  exact ⟨⟨rfl, darkLines, rfl, .inl ⟨rfl, by unfold Said.Complete; decide, rfl⟩⟩,
    rfl, darkLines, rfl, .inr rfl⟩

/-- Both outcomes of the DMA, with and without a notice of the metering step or of the burst's end. -/
theorem witness_FrameEnd_capture :
    ∀ d ∈ [Dma.running, .busFailed],
      let c := { fillingSlot (some someTriple) with
        pixel := { (fillingSlot (some someTriple)).pixel with dma := d } }
      c.pixel.frame = some (openFrame (some 0) (some someTriple)) ∧ c.pixel.dma = d ∧ c.pixel.nextStart = none
        ∧ 0 < c.slots.length ∧ c.search.motor = false ∧ c.following.active = false ∧ c.capture.press ≠ .full
        ∧ ({ c with port := { partState := .stopping } } : Chip).port.partState ≠ .running := by decide

theorem witness_FrameEnd_waits :
    awaitingWrite.captureSlot.isSome = true ∧ awaitingWrite.received = some darkLines
      ∧ (openFrame (some 0) none).received = none ∧ Said.Complete (openFrame (some 0) none) ⟨darkLines, false⟩ := by
  unfold Said.Complete; decide

/-- A frame start that comes before the last DMA write follows the frame end. -/
theorem test_frameStart_waitsForTheFrameEnd :
    let c := { fillingSlot none with
      pixel := { stream := .streaming, frame := some awaitingWrite, dma := .running, nextStart := some 7 } }
    ∃ t, exec (.frameEnd ⟨[], true⟩) (on c) = .next t ∧ t.chip.notices.counts.getD 5 0 = 1
      ∧ t.chip.pixel.frame.map (·.number) = some 1 ∧ t.chip.pixel.frameCounter = 1 := ⟨_, rfl, by decide +kernel⟩

theorem witness_FrameTruncation :
    ((frameOpen none).pixel.frame = some (openFrame none none) ∧ (frameOpen none).pixel.dma = .idle
        ∧ (frameOpen none).pixel.nextStart = none)
      ∧ ((fillingSlot none).pixel.frame = some (openFrame (some 0) none) ∧ (fillingSlot none).pixel.dma = .running
        ∧ (fillingSlot none).pixel.nextStart = none ∧ (fillingSlot none).focus.train ≠ .suspended)
      ∧ ¬ Said.Complete (openFrame none none) ⟨List.replicate 63 (List.replicate 64 0), true⟩ := by
  unfold Said.Complete; decide

theorem test_truncatedPicture :
    ∃ t, exec .frameTruncated (on (fillingSlot none)) = .next t ∧ (slot t.chip 0).resultDetail = .truncated
      ∧ (slot t.chip 0).state = .free := ⟨_, rfl, by decide⟩

theorem witness_SensorWritesAndDma :
    (∃ c : Chip, c.pixel.inFlight = some someTriple ∧ c.pixel.reconfigure = false ∧ c.pixel.pipeline = [])
      ∧ ((fillingSlot none).pixel.dma = .running ∧ (fillingSlot none).capture.filling = some 0)
      ∧ (∀ p ∈ [StopPart.none, .waitDma], (({ dma := .abandoned, stopping := p } : Pixel)).dma = .abandoned)
      ∧ (({ stopping := .writing } : Pixel)).stopping = .writing ∧ (({ stopping := .writing } : Pixel)).inFlight = none :=
  ⟨⟨{ pixel := { inFlight := some someTriple } }, rfl, rfl, rfl⟩, by decide, by decide, rfl, rfl⟩

/-- A pipeline with an entry for the frame that a write with latency 2 takes, between two others. -/
theorem witness_SensorWritesAndDma_pipeline :
    let p : List PipelineEntry := [⟨someTriple, 1, 0⟩, ⟨someTriple, 2, 1⟩, ⟨someTriple, 3, 2⟩]
    p.Pairwise (fun a b => (a.frame - 0).toNat < (b.frame - 0).toNat)
      ∧ insertEntry 0 ⟨someTriple, 2, 3⟩ p = [⟨someTriple, 1, 0⟩, ⟨someTriple, 2, 3⟩, ⟨someTriple, 3, 2⟩] := by
  decide

/-- The free bytes of an early DMA end are as many as the frame has bytes, whatever their values. -/
theorem test_dmaBusError_failsTheDma :
    ∃ t, exec .dmaBusError (on (fillingSlot none)) = .next t ∧ t.chip.pixel.dma = .busFailed
      ∧ t.chip.freeIndex = 6144 := ⟨_, rfl, by decide⟩

/-- Seven periods of 1000 µs counted, the last edge at 5000. -/
def sevenPeriods : Chip := { up with flicker := { lastEdge := some 5000, run100 := 7 } }

theorem witness_FlickerDetection :
    (up.port.partState ≠ .halted ∧ up.flicker.lastEdge = none) ∧ sevenPeriods.flicker.lastEdge = some 5000
      ∧ (cfg sevenPeriods).flicker.min100 ≤ 6000 - 5000 ∧ sevenPeriods.flicker.run100 = 7
      ∧ sevenPeriods.flicker.run120 ≠ 7 := by decide

theorem test_flkEdge_startsThePeriod :
    ∃ t, exec (.flkEdge 7) (on up) = .next t ∧ t.chip.flicker.lastEdge = some 7 := ⟨_, rfl, by decide⟩

/-! ### Lens tables -/

/-- The words of a block lie in memory low byte first. -/
theorem test_wordsOf : wordsOf [0x78, 0x56, 0x34, 0x12, 1, 0, 0, 0x80] = [0x12345678, 0x80000001] := by decide

/-- The blocks that the witnesses below speak of are read from their bytes. -/
theorem witness_blockBytes (ws : List Word) : wordsOf (bytesOf ws) = ws := wordsOf_put32 ws

theorem witness_TrackingBlockCheck :
    (checkBlock .tr0 0 0 none tr0Words).1 = .passed ∧ (checkBlock .tr1 0 0 none tr1Words).1 = .passed
      ∧ (checkBlock .tr0 0 0 none tr1Words).1 = .wrongTag := by decide +kernel

def loading (b : TableBlock) (again : Bool) : LoadWork := { settings := {}, block := b, retried := again, zp := zpWords }

theorem witness_TableLoad :
    (checkBlock .zp 0 (wordAt zpWords 2) none zpWords).1 = .passed
      ∧ (checkBlock .tr0 0 (wordAt zpWords 2) none tr0Words).1 = .passed
      ∧ (checkBlock .tr0 0 (wordAt zpWords 2) none zpWords).1 ≠ .passed
      ∧ (∀ b ∈ [TableBlock.zp, .tr0, .tr1], ∀ again, (loading b again).passed = false ∧ (loading b again).waitRefetch = false)
      ∧ ({ loading .tr1 false with passed := true } : LoadWork).passed = true
      ∧ up.zoom.state = .lost ∧ up.focus.state = .lost := by decide +kernel

theorem witness_TableLoad_lastBlock :
    (checkBlock .tr1 0 (wordAt zpWords 2) none tr1Words).1 = .passed ∧ Said.DrivesIdle up
      ∧ (∀ z ∈ [ZoomState.idle, .parked, .lost, .fault, .held], Said.DrivesIdle { up with zoom := { state := z } })
      ∧ ¬ Said.DrivesIdle { up with zoom := { state := .moving } }
      ∧ ¬ Said.DrivesIdle { up with focus := { state := .dwell } } := by
  unfold Said.DrivesIdle; decide +kernel

theorem test_tableBlockRead_places :
    ∃ t, exec (.tableBlockRead (bytesOf tr1Words)) (on { up with tables := { load := some { loading .tr1 false with tr0 := tr0Words } } })
        = .next t
      ∧ t.chip.tables.state = .valid ∧ t.chip.tables.load = none := ⟨_, rfl, by decide +kernel⟩

theorem test_tableBlockRead_staged :
    ∃ t, exec (.tableBlockRead (bytesOf zpWords)) (on { up with tables := { load := some (loading .zp true) } }) = .next t
      ∧ t.chip.tables.load.map (·.block) = some .tr0 := ⟨_, rfl, by decide +kernel⟩

/-- A refetch of block `b`. -/
def refetching (b : TableBlock) (again : Bool) : Chip :=
  { up with tables := { state := .valid, summary := { fMax := 100, zMax := 32 }, refetch := some ⟨b, again⟩ } }

theorem witness_TableRefetch :
    (∃ c : Chip, c.port.partState ≠ .halted ∧ c.tables.load = none ∧ c.tables.state = .valid
        ∧ c.tables.refetch = none ∧ .tr1 ∈ c.tables.queued ∧ .zp ∉ c.tables.queued ∧ .tr0 ∉ c.tables.queued)
      ∧ (checkBlock .zp 0 100 (some (refetching .zp false).tables.summary) zpWords).1 = .passed
      ∧ (checkBlock .tr1 0 100 (some (refetching .tr1 false).tables.summary) tr0Words).1 ≠ .passed
      ∧ ∀ b ∈ [TableBlock.zp, .tr0, .tr1], ∀ again, (refetching b again).tables.refetch = some ⟨b, again⟩ :=
  ⟨⟨{ upTables with tables := { state := .valid, queued := [.tr1] } }, by decide⟩, by decide +kernel⟩

theorem test_refetchRead_restores :
    ∃ t, exec (.refetchRead (bytesOf tr1Words)) (on (refetching .tr1 true)) = .next t ∧ t.chip.tables.tr1.state = .valid
      ∧ t.chip.tables.refetch = none := ⟨_, rfl, by decide +kernel⟩

/-! ### Zoom and focus -/

/-- One count below the top of the range, at it, and in LOST. -/
theorem witness_ZoomCounting :
    ((zoomAt 16255).zoom.state ≠ .lost ∧ (zoomAt 16255).zoom.known = true ∧ zMax (zoomAt 16255) = 16000
        ∧ (16255 : Int) + 1 ≤ 16000 + 256 ∧ (zoomAt 16255).zoom.points ≠ [])
      ∧ (¬ ((16256 : Int) + 1 ≤ zMax (zoomAt 16256) + 256) ∧ (zoomAt 16256).zoom.state = .idle
        ∧ (zoomAt 16256).zoom.known = true ∧ (zoomAt 16256).port.partState ≠ .stopping)
      ∧ up.zoom.state = .lost ∧ up.zoom.known = false := by decide

theorem witness_ZoomCounting_lost :
    (∀ z ∈ [ZoomState.idle, .moving, .held, .parked, .fault], ∀ a ∈ [AfterSettle.none, .tableFault],
      let c := { zoomAt 0 with zoom := { (zoomAt 0).zoom with state := z, after := a } }
      c.zoom.known = true ∧ c.zoom.state = z ∧ c.zoom.after = a ∧ c.port.partState ≠ .stopping ∧ c.service = none
        ∧ (record c .zoom).earlierActive = false ∧ (record c .zoom).outcome ≠ .active)
      ∧ (let c := withRecord .zoom { edition := 1, outcome := .active } (zoomAt 0)
        (record c .zoom).outcome = .active ∧ c.records.length = 9) := by decide

theorem test_crossing :
    ∃ t, exec (.encoderTransition .tele) (on { zoomAt 499 with zoom := { (zoomAt 499).zoom with zone := 0 } }) = .next t
      ∧ t.chip.zoom.zone = 1 ∧ t.chip.zoom.counter = 500 := ⟨_, rfl, by decide +kernel⟩

def homingZoom (k : HomingStep) : Chip :=
  { up with zoom := { state := .homing, motor := .drive .tele, homingStep := k } }

theorem witness_ReferenceEdge :
    up.zoom.state ≠ .homing
      ∧ ∀ k ∈ [HomingStep.seekOut, .seekIn], (homingZoom k).zoom.state = .homing
        ∧ (homingZoom k).zoom.motor = .drive .tele ∧ (homingZoom k).zoom.homingStep = k
        ∧ ∀ m ∈ [Motor.reverse .wide, .reversePause], ({ (homingZoom k).zoom with motor := m }).motor = m
          ∧ (homingZoom k).zoom.lastDrive = .wide := by decide

/-- The reference edge is taken in the brake pause after a WIDE reversal, and not in the one after a TELE reversal (log 26). -/
theorem test_referenceEdge_inBrakePause :
    ∀ d ∈ [ZoomDir.wide, .tele],
      (referenceChange .inside { up with zoom := {
        state := .homing, motor := .reversePause, homingStep := .seekIn, lastDrive := d } }).zoom.known
        = (d == .wide) := by decide

/-- A move that settles at `n`, with target 8000 and `k` corrections made. -/
def settling (n : Int) (k : Nat) : Chip :=
  withRecord .zoom { edition := 1, outcome := .active }
    { zoomAt n with zoom := { (zoomAt n).zoom with
        state := .moving, motor := .settle, after := .finalCheck, target := 8000, lastDrive := .tele, corrections := k } }

theorem witness_ZoomTimers :
    (∀ a ∈ [AfterSettle.none, .tableFault], ∃ z : Zoom, z.state = .moving ∧ z.motor = .brake ∧ z.after = a)
      ∧ (∀ p ∈ [((8004 : Int), 0), (8005, 1), (8005, 2)],
        let c := settling p.1 p.2
        c.zoom.motor = .settle ∧ c.zoom.after = .finalCheck ∧ c.records.length = 9
          ∧ (record c .zoom).outcome = .active ∧ (record c .zoom).earlierActive = false)
      ∧ (∀ n ∈ [2, 3], let z : Zoom := { motor := .drive .tele, retries := n }
        z.motor = .drive .tele ∧ z.kept.retryLimit = 3)
      ∧ up.wear.counts.getD 0 0 ≤ 65535 ∧ (homingZoom .seekOut).zoom.state = .homing
      ∧ (∃ z : Zoom, z.state = .idle ∧ z.drift = true) :=
  ⟨fun a _ => ⟨{ state := .moving, motor := .brake, after := a }, rfl, rfl, rfl⟩, by decide, by decide, by decide, rfl,
    ⟨{ state := .idle, drift := true }, rfl, rfl⟩⟩

theorem test_settleTimer_onTarget :
    ∃ t, exec .zoomSettleTimer (on (settling 8004 0)) = .next t ∧ t.chip.zoom.state = .idle
      ∧ (record t.chip .zoom).outcome = .done ∧ t.chip.answers.zoomPart.counter = 8004 := ⟨_, rfl, by decide⟩

theorem witness_FocusPulses :
    (({ train := .counted, remaining := 2 } : Focus).train = .counted ∧ 2 ≤ 2)
      ∧ ({ train := .continuous, homingPulses := 4606 } : Focus).homingPulses < (fMax up).toNat + 512
      ∧ fMax up = 4095
      ∧ (let f : Focus := { state := .moving, train := .counted, remaining := 1, counter := 7, target := 8 }
        f.afterRamp = .none ∧ f.direction = .near ∧ f.target = f.counter + 1) := by decide

/-- A ramp-down near the end of the range stops there (R72). -/
theorem test_rampDown_inRange :
    let f : Focus := {
      state := .moving, homed := true, train := .counted, direction := .far, counter := 40, entry := 14,
      kept := { ({} : FocusSettings) with rampPulses := 4 } }
    (rampDown { up with focus := f }).focus.remaining = 40 := by decide

theorem test_focusPulse_counts :
    ∃ t, exec (.focusPulse 9) (on { up with focus := { train := .counted, remaining := 2, counter := 7 } }) = .next t
      ∧ t.chip.focus.counter = 8 ∧ t.chip.focus.remaining = 1 := ⟨_, rfl, by decide⟩

theorem witness_FocusHoming :
    (∃ f : Focus, f.train = .dwell ∧ f.homing = .turn)
      ∧ (∃ f : Focus, f.train = .dwell ∧ f.homing = .none ∧ f.state = .dwell ∧ f.target ≠ f.counter)
      ∧ (∃ f : Focus, f.train = .continuous ∧ f.homing = .seekIn)
      ∧ ({ train := .continuous, homingPulses := 4607 } : Focus).homingPulses = (fMax up).toNat + 512 :=
  ⟨⟨{ train := .dwell, homing := .turn }, rfl, rfl⟩,
    ⟨{ train := .dwell, state := .dwell, target := 1 }, rfl, rfl, rfl, by decide⟩,
    ⟨{ train := .continuous, homing := .seekIn }, rfl, rfl⟩, by decide⟩

theorem test_homePulseLimit :
    ∃ t, exec .homePulseLimit (on { up with focus := { state := .homing, train := .continuous, homingPulses := 4607 } })
        = .next t ∧ t.chip.focus.state = .fault ∧ t.chip.focus.fault = .homeNotFound := ⟨_, rfl, by decide⟩

/-! ### Exposure arithmetic and the Stabilizer -/

/-- The smallest and the largest zone mean: logarithms 0 and 191. -/
theorem witness_MeteringStages :
    (0 < 4096 ∧ max 0 1 < 2 ^ (0 + 1) ∧ 2 ^ 0 ≤ max 0 1) ∧ (4095 < 4096 ∧ max 4095 1 < 2 ^ (11 + 1) ∧ 2 ^ 11 ≤ max 4095 1)
      ∧ (∀ y ∈ [0, 4095], y < 4096) ∧ 0 < ([0, 1] : List Nat).sum ∧ logValue 0 = 0 ∧ logValue 4095 = 191 := by decide

/-- Limits with Xt 112..240, Xg to 64 and Xa 16..48, the handheld limit at 208. -/
def someLimits : Limits := { xtLo := 112, xtFrame := 240, xtMax := 208, xgMax := 64, xaMin := 16, xaHi := 48 }

/-- Below the start state's index, at it, and beyond the program line. -/
theorem witness_ProgramLineWalk :
    (walk someLimits defaultProgram 63).2 = .brightLimit ∧ (walk someLimits defaultProgram 64).2 = .none
      ∧ (walk someLimits defaultProgram 256).2 = .none ∧ (walk someLimits defaultProgram 257).2 = .darkLimit := by
  decide

theorem witness_FlickerSnap :
    let safe : List SafeEntry := [⟨111, 1⟩, ⟨160, 10000⟩, ⟨160, 9999⟩, ⟨176, 20000⟩]
    safe.filter (fun e => someLimits.xtLo ≤ e.xt) = [⟨160, 10000⟩, ⟨160, 9999⟩, ⟨176, 20000⟩]
      ∧ snap someLimits safe { xt := 159, xg := 0, xa := 16 } = { xt := 159, xg := 0, xa := 16 }
      ∧ snap someLimits safe { xt := 175, xg := 60, xa := 16 }
        = { xt := 160, xg := 64, xa := 16, exactTime := some 10000, deficit := true } := by decide

theorem witness_Bound :
    (someLimits.xtLo ≤ someLimits.xtMax ∧ someLimits.xtMax ≤ someLimits.xtFrame ∧ someLimits.xaMin ≤ someLimits.xaHi)
      ∧ boundTriple someLimits true { xt := 209, xg := 64, xa := 16 }
        = { xt := 208, xg := 64, xa := 16, shortfall := true }
      ∧ boundTriple someLimits false { xt := 240, xg := 0, xa := 15 } = { xt := 240, xg := 1, xa := 16 }
      ∧ boundTriple someLimits false { xt := 240, xg := 64, xa := 48 } = { xt := 240, xg := 64, xa := 48 } := by decide

theorem witness_WantedMode :
    (∀ m ∈ [0, 1, 2, 3], ({ mode := m } : StabSettings).mode = m) ∧ up.settings = none := by decide

/-- A gyro start with the writes `ws` left. -/
def gyroStart (ws : List (Nat × Nat)) : Stab := { starting := true, configLeft := ws }

theorem witness_GyroLink :
    (gyroStart [(0, 0)]).configLeft = [(0, 0)] ∧ (gyroStart [(0, 0), (1, 1)]).configLeft = [(0, 0), (1, 1)]
      ∧ (∃ g : Stab, g.linkRunning = true ∧ g.stopping = .none ∧ g.mode ≠ .fault) ∧ up.service = none
      ∧ ({ stopping := .writing } : Stab).stopping = .writing ∧ ({ mode := .starting } : Stab).mode = .starting
      ∧ up.stab.linkRunning = false :=
  ⟨rfl, rfl, ⟨{ linkRunning := true }, rfl, rfl, by decide⟩, rfl, rfl, rfl, rfl⟩

/-- A read in flight in a stop, and one that a lost gyro left, in FAULT, in OFF and after a restart with a marked read. -/
theorem witness_GyroLink_reads :
    (∃ g : Stab, g.reading = true ∧ g.stopping = .waitRead) ∧ (∃ g : Stab, g.reading = true ∧ g.stopping = .none ∧ g.mode = .fault)
      ∧ (∃ g : Stab, g.reading = true ∧ g.discard = true ∧ g.stopping = .waitDma ∧ g.mode = .off)
      ∧ (∃ g : Stab, g.reading = true ∧ g.discard = true ∧ g.stopping = .none ∧ g.mode = .starting ∧ g.marked = true)
      ∧ ∃ g : Stab, g.linkRunning = true ∧ g.stopping = .writing ∧ g.mode = .off :=
  ⟨⟨{ reading := true, stopping := .waitRead }, rfl, rfl⟩, ⟨{ reading := true, mode := .fault }, rfl, rfl, rfl⟩,
    ⟨{ reading := true, discard := true, stopping := .waitDma }, rfl, rfl, rfl, rfl⟩,
    ⟨{ reading := true, discard := true, mode := .starting, marked := true }, rfl, rfl, rfl, rfl, rfl⟩,
    ⟨{ linkRunning := true, stopping := .writing }, rfl, rfl, rfl⟩⟩

theorem test_gyroLost :
    ∃ t, exec .gyroLost (on { up with stab := { linkRunning := true, mode := .active } }) = .next t
      ∧ t.chip.stab.mode = .fault ∧ t.chip.notices.counts.getD 8 0 = 1 := ⟨_, rfl, by decide⟩

theorem test_gyroSample_discarded :
    ∃ t, exec (.gyroSample ⟨0x00, 0x08⟩ ⟨0, 0⟩) (on { up with stab := {
        mode := .starting, linkRunning := true, reading := true, discard := true, marked := true } }) = .next t
      ∧ t.chip.stab.samples = 0 ∧ t.chip.stab.reading = true ∧ t.chip.stab.discard = false := ⟨_, rfl, by decide⟩

/-- A read in flight in ACTIVE, and a rate at the pan rate. -/
def reading : Chip := { up with stab := { mode := .active, linkRunning := true, reading := true } }

theorem witness_GyroSample :
    reading.stab.reading = true ∧ reading.stab.discard = false ∧ reading.stab.stopping = .none ∧ reading.stab.mode = .active
      ∧ reading.stab.window = none
      ∧ (let t := (cfg reading).stab
        let r := Said.rate ⟨0x00, 0x0A⟩
        let a := reading.stab.x
        (r - (if (r * 256 - a.bias).natAbs < t.stillQ then a.bias + (r * 256 - a.bias) / 4096 else a.bias) / 256).natAbs
          ≤ t.panRate) := by decide

theorem test_gyroSample_leaks :
    ∃ t, exec (.gyroSample ⟨0x00, 0x08⟩ ⟨0, 0⟩) (on reading) = .next t ∧ t.chip.stab.x.angle = 2046
      ∧ t.chip.stab.samples = 1 := ⟨_, rfl, by decide⟩

/-! ### Buttons and card -/

theorem witness_ButtonsAndFocusWait :
    (up.capture.s1.raw ≠ true ∧ true ≠ up.capture.s1.pressed ∧ (cfg up).capture.qualification ≠ 0)
      ∧ (({ raw := true, timing := true } : Line).raw ≠ false ∧ ({ raw := true, timing := true } : Line).pressed = false)
      ∧ (captureIn .waitFocus).capture.state = .waitFocus := by decide

/-- Qualification time 0, for both lines and both levels; and S2 that changes back. -/
theorem witness_ButtonsAndFocusWait_atOnce :
    (∀ b, let l : Line := { raw := !b, pressed := !b }
      let c := { up with settings := some { capture := { qualification := 0 } }, capture := { s1 := l, s2 := l } }
      c.capture.s1.raw ≠ b ∧ b ≠ c.capture.s1.pressed ∧ c.capture.s2.raw ≠ b ∧ b ≠ c.capture.s2.pressed
        ∧ (cfg c).capture.qualification = 0)
      ∧ (let l : Line := { raw := true, timing := true }; l.raw ≠ false ∧ false = l.pressed) := by decide

theorem test_qualifiesAtOnce :
    let c := { up with settings := some { capture := { qualification := 0 } } }
    ∃ t, exec (.buttonLineChange .s1 true) (on c) = .next t ∧ t.chip.capture.s1.pressed = true
      ∧ t.chip.capture.state = .prepared := ⟨_, rfl, by decide⟩

theorem test_qualificationTimer :
    ∃ t, exec (.qualificationTimer .s1) (on { up with capture := { s1 := { raw := true, timing := true } } }) = .next t
      ∧ t.chip.capture.s1.pressed = true ∧ t.chip.capture.state = .prepared := ⟨_, rfl, by decide⟩

theorem witness_CardInitialisation :
    (∀ d, ({ detect := d, detectTimer := true } : Card).detectTimer = true
        ∧ ({ detect := d, detectTimer := true } : Card).detect = d ∧ ({ detect := d } : Card).state = .absent)
      ∧ (∀ i ∈ [CardInit.goIdle, .identify, .setWide], ({ init := i } : Card).init = i ∧ ({ init := i } : Card).run = none)
      ∧ (1 : Word) ≠ 0 := by decide

theorem test_identify_capacity :
    ∃ t, exec (.cardResponse 100) (on { up with card := { state := .initialising, init := .identify } }) = .next t
      ∧ t.chip.card.found = 100 ∧ t.chip.card.init = .setWide := ⟨_, rfl, by decide⟩

theorem witness_CardRun :
    (∀ p ∈ [RunPhase.response, .token, .busy, .block, .stopResponse, .stopBusy], ∀ b ∈ [0, 1],
        (cardIn p b).card.run = some (cardRunIn p b) ∧ (cardRunIn p b).phase = p)
      ∧ (cardRunIn .token 1).write = true ∧ (cardRunIn .block 1).plan.isHeader = false
      ∧ (List.replicate 512 (0 : Byte)).length = 512 := by decide +kernel

/-- A picture of 600 bytes whose second data block is sent, from a memory that reads 0. -/
def sendingSecondBlock (isHeader : Bool) : State :=
  on { up with
    slots := { byteLength := 600 } :: List.replicate 15 {}
    store := { picture := some { slot := 0, dataSectors := 2 } }
    card := { run := some { cardRunIn .token 1 with
      kind := .picture, plan := ⟨5, 2, 0, isHeader, 0⟩, header := List.replicate 512 1 } } }

theorem witness_CardRun_blockSent :
    ∀ h, ∃ r p, (sendingSecondBlock h).chip.card.run = some r ∧ r.phase = .token ∧ r.write = true ∧ r.plan.isHeader = h
      ∧ r.kind = .picture ∧ (sendingSecondBlock h).chip.store.picture = some p :=
  fun _ => ⟨_, _, rfl, rfl, rfl, rfl, rfl, rfl⟩

theorem test_blockSent :
    blockSent (sendingSecondBlock true) = some (List.replicate 512 1)
      ∧ bytesFromMemory { cardRunIn .token 1 with kind := .picture } (sendingSecondBlock false).chip = 88
      ∧ cardCommand (cardIn .response 0).card = some (.readMulti 5) := ⟨rfl, by decide, by decide⟩

/-- A picture run of 2 sectors from 10 that has ended in STOP on block 1, with retry limit `limit`. -/
def endedRun (isHeader : Bool) (cause : Option RunResult) (limit : Nat) : Run :=
  { kind := .picture, write := true, plan := ⟨10, 2, 0, isHeader, 0⟩, address := 0, phase := .stopBusy, block := 1,
    cause := cause, retryLimit := limit, busyLimit := 500 }

/-- Slot 1 is being stored by run `r`, with `n` extents before the run's own, and `left` sectors of spare. -/
def storing (r : Run) (n left : Nat) : Chip :=
  { queued 80 with
    slots := [{}, { state := .storing, store := .storing, extents := List.replicate n ⟨0, 1⟩ ++ [⟨10, 2⟩] }]
      ++ List.replicate 14 {}
    store := { picture := some { slot := 1, dataSectors := 2, allocated := 2 }, spare := ⟨50, left, 50⟩ }
    card := { state := .ready, run := some r } }

/-- Runs that succeeded, failed at and beyond the retry limit, and met a WRITE_REJECTED with and without room for it. -/
theorem witness_PictureRun :
    ∀ h, ∀ k ∈ [none, some RunResult.writeRejected, some .crcRejected, some .busyTimeout], ∀ limit ∈ [0, 1], ∀ n ∈ [0, 3],
      ∀ left ∈ [0, 1],
      let r := endedRun h k limit
      let c := storing r n left
      c.card.run = some r ∧ r.phase = .stopBusy ∧ r.kind = .picture ∧ r.cause = k ∧ r.plan.isHeader = h
        ∧ (slot c 1).extents = List.replicate n ⟨0, 1⟩ ++ [⟨10, 2⟩] ∧ 1 < c.slots.length
        ∧ c.store.picture.map (·.slot) = some 1 := by decide

theorem test_remap :
    ∃ t, exec .cardBusyEnd (on (storing (endedRun false (some .writeRejected) 0) 0 1)) = .next t
      ∧ (slot t.chip 1).extents = [⟨10, 1⟩, ⟨50, 1⟩] ∧ t.chip.store.spare.cursor = 51
      ∧ t.chip.store.badSectors = 1 := ⟨_, rfl, by decide⟩

theorem test_cardReadBlock_reachesMemory :
    ∃ t, exec (.cardReadBlock true (9 :: List.replicate 511 0)) (on (cardIn .block 1)) = .next t
      ∧ t.memory = [(4096 + 512, 9)] := ⟨_, rfl, by decide +kernel⟩

theorem test_cardReadBlock_badCrc :
    ∃ t, exec (.cardReadBlock false []) (on (cardIn .block 0)) = .next t ∧ t.memory = []
      ∧ (t.chip.card.run.bind (·.cause)) = some .readCrc := ⟨_, rfl, by decide⟩

/-! ### Worked examples of the spec -/

/-- Section 5.14: track(4150, 150) = 644 and inv(4150, 650) = 155. -/
theorem test_example_tracking :
    let t : TrackData := {
      rowA := [410, 480, 600, 680, 760, 850, 960, 1100], rowB := [440, 520, 640, 730, 820, 915, 1030, 1180],
      u := trackWeight 4150 4000 4400 }
    t.u = 24 ∧ trackAt t 150 = 644 ∧ invAt t 650 = 155 := by decide

/-- Section 7.4: the figures of the worked metering. -/
theorem test_example_metering :
    meter { weights := List.replicate 12 8 ++ List.replicate 180 1 } 0 232 1
        (List.replicate 12 256 ++ List.replicate 120 1024 ++ List.replicate 60 4095)
      = { m := 156, mEff := 168, k := 60, e := -24, b := -76, frame := 1 } := by decide +kernel

/-- Section 8.11: the second sample of the x axis. -/
theorem test_example_sample :
    let c := { up with
      settings := some {},
      stab := { mode := .active, linkRunning := true, reading := true, kx := 49152,
                x := { bias := 3074, angle := 2039, raw := 1529, target := 1529, output := 1529 } } }
    ∃ t, exec (.gyroSample ⟨0xB8, 0x0B⟩ ⟨0, 0⟩) (on c) = .next t
      ∧ t.chip.stab.x = { bias := 3074, angle := 5023, raw := 3767, target := 1800, output := 1593, residual := 241818 }
      ∧ t.chip.stab.shakeSeen = true ∧ t.chip.stab.panRun = 1 :=
  ⟨_, rfl, by decide⟩

end Sys2Proof.Tests
end

section
/-! PROOFS. The notice lines (R14) and the status registers (R4): a line is raised as R14 says it, every command that acts on
the part ends by evaluating the lines, and each register field shows its code. -/

namespace Sys2Proof.Proofs.Notices

open Sys2Proof Sys2Proof.Machine

/-! ### What every command answers -/

/-- A command commits an effect on the part, or is a register write that leaves the part. What it gives the rest of the state
before that is a value of AREA_BASE alone. -/
theorem exec_cases (i : Instr) (s : State) :
    (∃ f a, exec i s = commit f { s with areaBase := a }) ∨ ∃ a, exec i s = .next { s with areaBase := a } := by
  cases i with
  | areaBaseWrite v =>
    have hexec : exec (.areaBaseWrite v) s = execAreaBaseWrite v s := rfl
    rw [hexec, execAreaBaseWrite]
    split
    · exact .inr ⟨alignedBase v, rfl⟩
    · exact .inr ⟨s.areaBase, rfl⟩
  | registerWriteIgnored r v => exact .inr ⟨s.areaBase, rfl⟩
  | _ => exact .inl ⟨_, _, rfl⟩

/-! ### The level of a line -/

theorem steersToA_iff (code : Nat) : steersToA code = true ↔ code ∈ [1, 3] := by simp [steersToA]

theorem steersToB_iff (code : Nat) : steersToB code = true ↔ code ∈ [2, 3] := by simp [steersToB]

/-- Without settings in force, a class counts for a line as one that is enabled and has steering code 1. -/
theorem classRaises_iff {steer : Nat → Bool} {codes : List Nat} (hsteer : ∀ code, steer code = true ↔ code ∈ codes)
    (o : Option Settings) (n : Notices) (k : Nat) :
    classRaises steer o n k = true ↔
      (∀ t, o = some t → t.notices.enables.getD k false = true ∧ t.notices.steering.getD k 1 ∈ codes)
        ∧ (o = none → 1 ∈ codes) ∧ n.counts.getD k 0 ≠ n.seen.getD k 0 := by
  cases o with
  | none => simp [classRaises, hsteer]
  | some t => simp [classRaises, hsteer, and_assoc]

theorem lineLevel_iff {steer : Nat → Bool} {codes : List Nat} (hsteer : ∀ code, steer code = true ↔ code ∈ codes)
    (c : Chip) : lineLevel steer c = true ↔ raisesLine codes c := by
  simp only [lineLevel, raisesLine, Bool.and_eq_true, bne_iff_ne, List.any_eq_true, List.mem_range,
    classRaises_iff hsteer]

theorem linesFollow_iff (s : State) :
    LinesFollow s ↔ s.chip.port.noticeA = lineLevel steersToA s.chip
      ∧ s.chip.port.noticeB = lineLevel steersToB s.chip := by
  rw [LinesFollow, ← lineLevel_iff steersToA_iff, ← lineLevel_iff steersToB_iff, Bool.coe_iff_coe, Bool.coe_iff_coe]

/-! ### The lines after a step -/

theorem concluded_linesFollow (c : Chip) (s : State) : LinesFollow (concluded c s) :=
  (linesFollow_iff _).mpr (conclude_lines c)

theorem exec_keeps_linesFollow {i : Instr} {s t : State} (hs : LinesFollow s) (h : exec i s = .next t) :
    LinesFollow t := by
  obtain ⟨f, a, hcommit⟩ | ⟨a, hwrite⟩ := exec_cases i s
  · rw [hcommit, commit_eq] at h
    cases h
    exact concluded_linesFollow _ _
  · rw [hwrite] at h
    cases h
    exact hs

theorem step_keeps_linesFollow : Kept LinesFollow := by
  intro s t hs h
  unfold step at h
  split at h
  · cases h
    exact hs
  · next i rest _ => exact exec_keeps_linesFollow (s := { s with pending := rest }) hs h

theorem reset_linesFollow : LinesFollow State.reset := (linesFollow_iff _).mpr ⟨rfl, rfl⟩

/-! ### The seen counts last read -/

theorem concluded_seen (c : Chip) (s : State) : (concluded c s).chip.notices.seen = c.notices.seen := conclude_seen c

theorem scanEnd_seen (c : Chip) : (scanEnd c).notices.seen = c.notices.seen := by
  have h := Laws.outer_scanEnd c
  simp only [Laws.outer, Prod.mk.injEq] at h
  obtain ⟨-, -, -, -, -, -, -, hseen, -⟩ := h
  exact hseen

/-- The read that ends a scan sets the seen counts, and a scan that it lets begin leaves them. -/
theorem seenTableRead_seen (counts : List Half) (c : Chip) (hactive : c.scan.active = true)
    (hposition : c.scan.position = 10) : (seenTableRead counts c).notices.seen = counts := by
  rw [seenTableRead, if_pos ⟨hactive, hposition⟩, scanEnd_seen]

theorem resetChip_seen (zoom focus : Int) (c : Chip) :
    (resetChip zoom focus c).notices.seen = List.replicate 10 0 := rfl

/-! ### The obligations -/

/-- Settles O7: every effect on the part is concluded with the lines evaluated, and concluding leaves the seen counts that the
effect set. -/
theorem noticeLinesFollow : Obligations.NoticeLinesFollow := by
  unfold Obligations.NoticeLinesFollow
  refine ⟨step_keeps_linesFollow, reset_linesFollow, ?_, fun s => ⟨?_, ?_⟩⟩
  · intro counts s hactive hposition
    exact ⟨_, commit_eq _ s, (concluded_seen _ s).trans (seenTableRead_seen _ _ hactive hposition),
      concluded_linesFollow _ s⟩
  · exact ⟨_, commit_eq powerOnReset _, (concluded_seen _ _).trans (resetChip_seen _ _ _)⟩
  · exact ⟨_, commit_eq softReset s, (concluded_seen _ s).trans (resetChip_seen _ _ _)⟩

/-- Settles O13, field by field: each part of the status word is the code of its field. -/
theorem statusRegisters : Obligations.StatusRegisters := by
  unfold Obligations.StatusRegisters
  intro s
  refine ⟨rfl, ?status, fun r v => rfl⟩
  unfold readPartStatus
  refine congrArg (BitVec.ofNat 32) ?_
  congr 3
  · cases s.chip.port.partState <;> rfl
  · cases s.chip.port.fault <;> rfl
  · cases s.chip.port.noticeA <;> rfl
  · cases s.chip.port.noticeB <;> rfl

end Sys2Proof.Proofs.Notices
end

section
/-! PROOFS. The limits of the sensor settings (R21), and a SETTINGS request that changes no geometry and no table (R11): it is
adopted and taken at once, refused for its slot size or served with its limited settings. -/

namespace Sys2Proof.Proofs.SensorLimits

open Sys2Proof Sys2Proof.Machine

/-! ### The limits of Table 2-1 -/

theorem limitSensor_latency (f : SensorSettings) :
    (limitSensor f).latency = if f.latency = 0 then 1 else if 3 < f.latency then 3 else f.latency := by
  show clampNat f.latency 1 3 = _
  unfold clampNat
  split
  · omega
  · split <;> omega

/-- The width is rounded down to an even number before its range is applied. -/
theorem limitSensor_width (f : SensorSettings) :
    (limitSensor f).width = max 64 (min 8192 (f.width - f.width % 2)) := by
  have heven : f.width / 2 * 2 = f.width - f.width % 2 := by omega
  show clampNat (f.width / 2 * 2) 64 8192 = _
  rw [heven, clampNat, Nat.min_comm]

theorem limitSensor_height (f : SensorSettings) : (limitSensor f).height = max 64 (min 8192 f.height) := by
  show clampNat f.height 64 8192 = _
  rw [clampNat, Nat.min_comm]

/-- The frame lines have their lower end from the height already limited. -/
theorem limitSensor_frameLines (f : SensorSettings) :
    (limitSensor f).frameLines = max ((limitSensor f).height + 4) (min 16383 f.frameLines) := by
  show clampNat f.frameLines ((limitSensor f).height + 4) 16383 = _
  rw [clampNat, Nat.min_comm]

theorem limitSensor_linePeriod (f : SensorSettings) :
    (limitSensor f).linePeriod = max 1000 (min 200000 f.linePeriod) := by
  show clampNat f.linePeriod 1000 200000 = _
  rw [clampNat, Nat.min_comm]

theorem settingsOf_sensor (body : List Byte) : (settingsOf body).sensor = limitSensor (readSensor body) := rfl

theorem settingsClamped_of_sensor_ne (body : List Byte) (h : (settingsOf body).sensor ≠ readSensor body) :
    settingsClamped body = true := by
  have hne : readSettings body ≠ settingsOf body := fun heq => h (congrArg Settings.sensor heq).symm
  simp [settingsClamped, hne]

/-! ### What the end of a request writes -/

theorem finish_settings (r : RecordId) (o : ReqOutcome) (d : Detail) (c : Chip) :
    (finish r o d c).settings = c.settings := by
  unfold finish
  dsimp only
  split
  · simp
  · split
    · split <;> simp
    · rfl

/-- The end of the ACTIVE request writes its outcome and detail in its entry, whether the record is queuing or superseding. -/
theorem record_finish_active (r : RecordId) (o : ReqOutcome) (d : Detail) (c : Chip)
    (he : (record c r).earlierActive = false) (ha : (record c r).outcome = .active) (hlen : c.records.length = 9) :
    record (finish r o d c) r = { record c r with outcome := o, detail := d } := by
  have hset := record_setRecord_same r { record c r with outcome := o, detail := d } c hlen
  cases hq : isQueuing r with
  | true => rw [finish_queuing r o d c he ha hq]; exact hset
  | false => rw [finish_superseding r o d c he ha hq]; exact hset

theorem record_refuse_active (r : RecordId) (d : Detail) (c : Chip)
    (he : (record c r).earlierActive = false) (ha : (record c r).outcome = .active) (hlen : c.records.length = 9) :
    record (refuse r d c) r = { record c r with outcome := .refused, detail := d, clamped := false } := by
  have hset := record_setRecord_same r { record c r with clamped := false } c hlen
  have hlen' := (setRecord_records_length r { record c r with clamped := false } c).trans hlen
  unfold refuse
  rw [record_finish_active r .refused d _ (by rw [hset]; exact he) (by rw [hset]; exact ha) hlen', hset]

theorem refuse_settings (r : RecordId) (d : Detail) (c : Chip) : (refuse r d c).settings = c.settings :=
  finish_settings r .refused d _

theorem record_setClamped_active (r : RecordId) (b : Bool) (c : Chip) (ha : (record c r).outcome = .active)
    (hk : (record c r).clamped = false) (hlen : c.records.length = 9) :
    record (setClamped r b c) r = { record c r with clamped := b } := by
  cases b with
  | true =>
    have hif : setClamped r true c = mark .ack (setRecord r { record c r with clamped := true } c) := by
      simp [setClamped, ha]
    rw [hif]
    exact record_setRecord_same r _ c hlen
  | false =>
    have hif : setClamped r false c = c := by simp [setClamped]
    rw [hif, ← hk]

theorem setClamped_records_length (r : RecordId) (b : Bool) (c : Chip) :
    (setClamped r b c).records.length = c.records.length := by
  unfold setClamped
  split
  · exact setRecord_records_length r _ c
  · rfl

theorem setClamped_search (r : RecordId) (b : Bool) (c : Chip) : (setClamped r b c).search = c.search := by
  unfold setClamped
  split <;> rfl

/-! ### What the blocks leave when settings take effect -/

/-- The acknowledgement table, the settings in force and the search, which no block changes when settings take effect. -/
def requestView (c : Chip) : List RecordState × Option Settings × Search := (c.records, c.settings, c.search)

@[simp] theorem requestView_mark (a : AnswerId) (c : Chip) : requestView (mark a c) = requestView c := rfl
@[simp] theorem requestView_notice (k : NoticeClass) (c : Chip) : requestView (notice k c) = requestView c := rfl
@[simp] theorem requestView_raise (e : Event) (c : Chip) : requestView (raise e c) = requestView c := rfl
@[simp] theorem requestView_setPixel (f : Pixel → Pixel) (c : Chip) : requestView (setPixel f c) = requestView c := rfl
@[simp] theorem requestView_setWriteDue (c : Chip) : requestView (setWriteDue c) = requestView c := rfl

@[simp] theorem requestView_with_exposure (c : Chip) (x : Exposure) :
    requestView { c with exposure := x } = requestView c := rfl

@[simp] theorem requestView_markFreeSlots (before c : Chip) : requestView (markFreeSlots before c) = requestView c := by
  unfold markFreeSlots; split <;> rfl

@[simp] theorem requestView_thresholdChange (old new : Settings) (k : CounterId) (c : Chip) :
    requestView (thresholdChange old new k c) = requestView c := by
  unfold thresholdChange; dsimp only
  split
  · rfl
  · split <;> rfl

@[simp] theorem requestView_thresholdsSettingsDone (old new : Settings) (c : Chip) :
    requestView (thresholdsSettingsDone old new c) = requestView c := by simp [thresholdsSettingsDone]

@[simp] theorem requestView_flickerSettingsDone (old new : FlickerSettings) (c : Chip) :
    requestView (flickerSettingsDone old new c) = requestView c := by
  unfold flickerSettingsDone; split <;> rfl

@[simp] theorem requestView_setControl (f : Control → Control) (c : Chip) :
    requestView (setControl f c) = requestView c := by
  unfold setControl; dsimp only; split <;> rfl

@[simp] theorem requestView_takeFallback (c : Chip) : requestView (takeFallback c) = requestView c := by
  unfold takeFallback
  split
  · simp
  · rfl

@[simp] theorem requestView_setStab (f : Stab → Stab) (c : Chip) : requestView (setStab f c) = requestView c := by
  unfold setStab; dsimp only; split <;> rfl

@[simp] theorem requestView_handCredit (c : Chip) : requestView (handCredit c) = requestView c := by
  simp [handCredit, apply_ite requestView]

@[simp] theorem requestView_setMode (m : StabMode) (c : Chip) : requestView (setMode m c) = requestView c := by
  unfold setMode; split <;> simp

@[simp] theorem requestView_followWanted (c : Chip) : requestView (followWanted c) = requestView c := by
  unfold followWanted; dsimp only
  split
  · split <;> simp
  · simp
  · simp
  · split <;> simp
  · rfl
  · rfl

@[simp] theorem requestView_stabSettingsDone (old new : StabSettings) (c : Chip) :
    requestView (stabSettingsDone old new c) = requestView c := by
  simp [stabSettingsDone, apply_ite requestView]

@[simp] theorem requestView_followApplied (c : Chip) : requestView (followApplied c) = requestView c := by
  unfold followApplied
  split
  · split <;> rfl
  · rfl

@[simp] theorem requestView_setExposure (f : Exposure → Exposure) (c : Chip) :
    requestView (setExposure f c) = requestView c := by
  simp [setExposure, apply_ite requestView]

@[simp] theorem requestView_resplit (c : Chip) : requestView (resplit c).2 = requestView c := by
  unfold resplit; split <;> simp

@[simp] theorem requestView_applyBound (c : Chip) : requestView (applyBound c) = requestView c := by
  unfold applyBound; dsimp only
  split
  · rfl
  · split <;> simp

@[simp] theorem requestView_limitChange (c : Chip) : requestView (limitChange c) = requestView c := by
  unfold limitChange
  split
  · rfl
  · split
    · split
      · simp
      · rfl
    · simp
    · simp

@[simp] theorem requestView_exposureStartState (c : Chip) : requestView (exposureStartState c) = requestView c := by
  unfold exposureStartState; split <;> simp

@[simp] theorem requestView_exposureTimingChanged (c : Chip) :
    requestView (exposureTimingChanged c) = requestView c := by
  unfold exposureTimingChanged; dsimp only
  split
  · rfl
  · split <;> simp

@[simp] theorem requestView_exposureSettingsDone (old new : Settings) (c : Chip) :
    requestView (exposureSettingsDone old new c) = requestView c := by
  simp [exposureSettingsDone, apply_ite requestView]

@[simp] theorem requestView_sensorSettingsChanged (old new : SensorSettings) (c : Chip) :
    requestView (sensorSettingsChanged old new c) = requestView c := by
  unfold sensorSettingsChanged
  split
  · split
    · simp
    · split <;> simp
  · rfl

@[simp] theorem requestView_setFollowing (f : Following → Following) (c : Chip) :
    requestView (setFollowing f c) = requestView c := by
  unfold setFollowing; dsimp only; split <;> rfl

theorem endEarly_noSearch (o : ReqOutcome) (d : Detail) (c : Chip) (h : c.search.phase = .none) : endEarly o d c = c := by
  simp [endEarly, searching, h]

/-- With no search to end, a change of the search settings sets the following anew and ends no request. -/
theorem requestView_searchSettingsChanged (c : Chip) (h : c.search.phase = .none) :
    requestView (searchSettingsChanged c) = requestView c := by
  unfold searchSettingsChanged watchKeepingStep
  rw [endEarly_noSearch _ _ c h]
  dsimp only
  split <;> simp

/-! ### Settings that take effect (R11) -/

/-- The settings are in force and every block has taken them, and the request has not ended yet. -/
def settingsPlaced (new : Settings) (c : Chip) : Chip :=
  let old := cfg c
  let taken := sensorSettingsChanged old.sensor new.sensor (exposureSettingsDone old new (stabSettingsDone old.stab new.stab
    (takeFallback (flickerSettingsDone old.flicker new.flicker
      (thresholdsSettingsDone old new (markFreeSlots c { c with settings := some new }))))))
  if searchSettingsDiffer old new then searchSettingsChanged taken else taken

theorem settingsDone_eq (new : Settings) (c : Chip) :
    settingsDone new c =
      if (finish .settings .done .none (settingsPlaced new c)).port.startStep = .awaitSettings then
        raise .beginZoomStep (finish .settings .done .none (settingsPlaced new c))
      else finish .settings .done .none (settingsPlaced new c) := rfl

theorem requestView_settingsPlaced (new : Settings) (c : Chip) (h : c.search.phase = .none) :
    requestView (settingsPlaced new c) = (c.records, some new, c.search) := by
  unfold settingsPlaced
  extract_lets old taken
  have htaken : requestView taken = (c.records, some new, c.search) := by
    simp only [taken, requestView_sensorSettingsChanged, requestView_exposureSettingsDone, requestView_stabSettingsDone,
      requestView_takeFallback, requestView_flickerSettingsDone, requestView_thresholdsSettingsDone,
      requestView_markFreeSlots]
    rfl
  have hsearch : taken.search = c.search := congrArg (·.2.2) htaken
  split
  · rw [requestView_searchSettingsChanged taken (hsearch ▸ h), htaken]
  · exact htaken

theorem settingsDone_settings (new : Settings) (c : Chip) (h : c.search.phase = .none) :
    (settingsDone new c).settings = some new := by
  have hplaced : (settingsPlaced new c).settings = some new := congrArg (·.2.1) (requestView_settingsPlaced new c h)
  rw [settingsDone_eq]
  split
  · rw [raise_settings, finish_settings, hplaced]
  · rw [finish_settings, hplaced]

/-- The request is DONE, and the rest of its entry stays. -/
theorem record_settingsDone (new : Settings) (c : Chip) (h : c.search.phase = .none)
    (he : (record c .settings).earlierActive = false) (ha : (record c .settings).outcome = .active)
    (hlen : c.records.length = 9) :
    record (settingsDone new c) .settings = { record c .settings with outcome := .done, detail := .none } := by
  have hrecords : (settingsPlaced new c).records = c.records := congrArg (·.1) (requestView_settingsPlaced new c h)
  have hrecord : record (settingsPlaced new c) .settings = record c .settings := by rw [record, hrecords, record]
  have hfinish := record_finish_active .settings .done .none (settingsPlaced new c) (by rw [hrecord, he])
    (by rw [hrecord, ha]) (by rw [hrecords, hlen])
  rw [hrecord] at hfinish
  rw [settingsDone_eq]
  split <;> exact hfinish

/-! ### The adoption of a SETTINGS edition (R8) -/

/-- The part with edition `e` of SETTINGS ACTIVE in the hands of its owner. -/
def settingsAdopted (e : Word) (c : Chip) : Chip :=
  activate .settings (newEdition .settings e (setScan (fun n => { n with settingsHanded := true }) c))

/-- A new edition of SETTINGS is taken at once when its previous request is final: no hold of R16, R41, R60 or R67 is one of
SETTINGS. -/
theorem readNew_settings (e : Word) (body : List Byte) (c : Chip)
    (hpart : c.port.partState = .starting ∨ c.port.partState = .running) (he0 : e ≠ 0)
    (hnew : e ≠ (record c .settings).edition) (hearlier : (record c .settings).earlierActive = false)
    (hfinal : isFinal (record c .settings).outcome = true) :
    readNew .settings e (.settings body) c = takeSettings body (settingsAdopted e c) := by
  have hisNew : isNewRequest .settings e c = true := by
    rcases hpart with h | h <;> simpa [isNewRequest, h, hnew] using he0
  have hnoHold (d : Chip) : holdReason .settings (.settings body) d = none := by
    simp [holdReason, isLensRequest, isBurstHeld, isZoomBusyHeld]
  have hnoSearchEnd (d : Chip) : endSearchForZoom (.settings body) d = d := by simp [endSearchForZoom, isZoomMove]
  calc readNew .settings e (.settings body) c
      = adopt .settings e (.settings body) (setScan (fun n => { n with settingsHanded := true }) c) := by
        rw [readNew, if_pos hisNew, if_pos rfl]
        rfl
    _ = handOver .settings (.settings body)
          (newEdition .settings e (setScan (fun n => { n with settingsHanded := true }) c)) :=
        adopt_afterFinal _ _ _ _ hfinal hearlier
    _ = deliver (.settings body) (endSearchForZoom (.settings body) (settingsAdopted e c)) :=
        handOver_none _ _ _ (hnoHold _)
    _ = takeSettings body (settingsAdopted e c) := by
        rw [hnoSearchEnd]
        rfl

theorem settingsAdopted_records_length (e : Word) (c : Chip) :
    (settingsAdopted e c).records.length = c.records.length := by
  simp [settingsAdopted, activate, newEdition]

theorem record_settingsAdopted (e : Word) (c : Chip) (hlen : c.records.length = 9) :
    record (settingsAdopted e c) .settings = Said.entry .settings e .active .none false c := by
  have hnew : record (newEdition .settings e (setScan (fun n => { n with settingsHanded := true }) c)) .settings
      = Said.entry .settings e .active .none false c := record_newEdition .settings e _ hlen
  have hactive := record_setRecord_same .settings
    { Said.entry .settings e .active .none false c with outcome := .active, detail := .none, held := none }
    (newEdition .settings e (setScan (fun n => { n with settingsHanded := true }) c)) (by simp [newEdition, hlen])
  unfold settingsAdopted activate
  rw [hnew]
  exact hactive

@[simp] theorem settingsAdopted_settings (e : Word) (c : Chip) : (settingsAdopted e c).settings = c.settings := rfl
@[simp] theorem settingsAdopted_search (e : Word) (c : Chip) : (settingsAdopted e c).search = c.search := rfl

/-! ### A SETTINGS request that changes no geometry and no table (R11) -/

theorem geometryChanges_eq_false (new : Settings) (c : Chip)
    (h : ∀ t, c.settings = some t → t.pool.poolBase = new.pool.poolBase ∧ t.pool.slotCount = new.pool.slotCount
      ∧ t.pool.slotSize = new.pool.slotSize) : geometryChanges new c = false := by
  unfold geometryChanges
  cases hs : c.settings with
  | none => rfl
  | some t =>
    obtain ⟨hbase, hcount, hsize⟩ := h t hs
    simp [hbase, hcount, hsize]

theorem tablesChange_eq_false (new : Settings) (c : Chip) (himage : c.tables.summary.imageAddress = new.pool.imageAddress)
    (hedition : c.tables.summary.edition = new.pool.tableEdition) : tablesChange new c = false := by
  simp [tablesChange, himage, hedition]

theorem settingsHold_eq_none (new : Settings) (c : Chip) (hgeometry : geometryChanges new c = false)
    (htables : tablesChange new c = false) : settingsHold new c = none := by
  simp [settingsHold, hgeometry, htables]

theorem takeSettings_refused (body : List Byte) (c : Chip) (hhold : settingsHold (settingsOf body) c = none)
    (hslot : (settingsOf body).pool.slotSize < frameBytes (settingsOf body).sensor) :
    takeSettings body c = refuse .settings .slotTooSmall c := by
  simp [takeSettings, hhold, hslot]

theorem takeSettings_served (body : List Byte) (c : Chip) (hhold : settingsHold (settingsOf body) c = none)
    (hslot : frameBytes (settingsOf body).sensor ≤ (settingsOf body).pool.slotSize)
    (htables : tablesChange (settingsOf body) c = false) (hvalid : c.tables.state = .valid) :
    takeSettings body c
      = settingsDone (settingsOf body) (setClamped .settings (settingsClamped body) c) := by
  simp [takeSettings, hhold, Nat.not_lt.mpr hslot, htables, hvalid]

/-! ### The obligation -/

/-- Settles O26: the limits are those of `limitSensor`, and with no hold the request is refused or served by its slot size. -/
theorem sensorSettingsLimits : Obligations.SensorSettingsLimits := by
  unfold Obligations.SensorSettingsLimits
  intro body
  refine ⟨⟨rfl, limitSensor_latency _, limitSensor_width _, limitSensor_height _, limitSensor_frameLines _,
    limitSensor_linePeriod _, rfl, rfl, settingsClamped_of_sensor_ne body⟩, ?_⟩
  intro e s p hpart he0 hnew hearlier hfinal hlen hgeometry himage hedition hvalid hsearch
  have hexec : exec (.settings e body) s = .next (concluded (takeSettings body (settingsAdopted e s.chip)) s) := by
    rw [← readNew_settings e body s.chip hpart he0 hnew hearlier hfinal]
    rfl
  have hentry := record_settingsAdopted e s.chip hlen
  have hlen' := (settingsAdopted_records_length e s.chip).trans hlen
  have htables : tablesChange (settingsOf body) (settingsAdopted e s.chip) = false :=
    tablesChange_eq_false _ _ himage hedition
  have hhold : settingsHold (settingsOf body) (settingsAdopted e s.chip) = none :=
    settingsHold_eq_none _ _ (geometryChanges_eq_false _ _ hgeometry) htables
  constructor
  case left =>
    intro hslot
    have hclamped := record_setClamped_active .settings (settingsClamped body) (settingsAdopted e s.chip)
      (by rw [hentry]; rfl) (by rw [hentry]; rfl) hlen'
    have hphase : (setClamped .settings (settingsClamped body) (settingsAdopted e s.chip)).search.phase = .none := by
      rw [setClamped_search, settingsAdopted_search, hsearch]
    refine ⟨_, hexec, ?_, ?_⟩
    · rw [takeSettings_served body _ hhold hslot htables hvalid, settingsDone_settings _ _ hphase]
    · rw [takeSettings_served body _ hhold hslot htables hvalid, record_settingsDone _ _ hphase
        (by rw [hclamped, hentry]; exact hearlier) (by rw [hclamped, hentry]; rfl)
        ((setClamped_records_length _ _ _).trans hlen'), hclamped, hentry]
      rfl
  case right =>
    intro hslot
    refine ⟨_, hexec, ?_, ?_⟩
    · rw [takeSettings_refused body _ hhold hslot, refuse_settings, settingsAdopted_settings]
    · rw [takeSettings_refused body _ hhold hslot, record_refuse_active .settings .slotTooSmall _
        (by rw [hentry]; exact hearlier) (by rw [hentry]; rfl) hlen', hentry]
      rfl

end Sys2Proof.Proofs.SensorLimits
end

section
/-! PROOFS. The capture engaged mark and the wanted stabilizer mode (R128): a mode change and the credit that it hands leave the
mark, so what a capture event or a stop writes before them stands after them; a reset builds the part anew. -/

namespace Sys2Proof.Proofs.WantedMode

open Sys2Proof Sys2Proof.Machine

/-! ### The capture engaged mark in the operations of the Stabilizer -/

/-- Marking STABILIZER and gathering its changes touch no field of the Stabilizer but the gathered mark. -/
@[simp] theorem setStab_engaged (f : Stab → Stab) (c : Chip) : (setStab f c).stab.engaged = (f c.stab).engaged := by
  unfold setStab
  dsimp only
  split
  · rfl
  · rfl

@[simp] theorem handCredit_engaged (c : Chip) : (handCredit c).stab.engaged = c.stab.engaged := by
  unfold handCredit
  extract_lets credit
  split
  · rfl
  · rw [raise_stab, setStab_engaged]

/-- A mode change leaves the mark, whatever the new mode sets of the axes. -/
@[simp] theorem setMode_engaged (m : StabMode) (c : Chip) : (setMode m c).stab.engaged = c.stab.engaged := by
  unfold setMode
  split
  · rfl
  · rw [handCredit_engaged, setStab_engaged]
    cases m <;> rfl

@[simp] theorem followWanted_engaged (c : Chip) : (followWanted c).stab.engaged = c.stab.engaged := by
  unfold followWanted
  cases c.stab.mode with
  | off =>
    dsimp only
    split
    · exact setMode_engaged _ c
    · rfl
  | standby => exact setMode_engaged _ c
  | active => exact setMode_engaged _ c
  | panning =>
    dsimp only
    split
    · rfl
    · exact setMode_engaged _ c
  | starting => rfl
  | fault => rfl

/-! ### Where the mark is set and cleared -/

theorem captureEngaged_engaged (c : Chip) : (captureEngaged c).stab.engaged = true := by
  rw [captureEngaged, followWanted_engaged, setStab_engaged]

theorem captureReleased_engaged (c : Chip) : (captureReleased c).stab.engaged = false := by
  rw [captureReleased, followWanted_engaged, setStab_engaged]

theorem stopStab_engaged (c : Chip) : (stopStab c).stab.engaged = false := by
  rw [stopStab, setMode_engaged, setStab_engaged, axes]

/-- A reset raises no event, so concluding the command leaves the Stabilizer in its reset state. -/
theorem concluded_resetChip_stab (zoom focus : Int) (c : Chip) (s : State) :
    (concluded (resetChip zoom focus c) s).chip.stab = {} :=
  conclude_stab (resetChip zoom focus c) rfl

/-! ### The wanted mode -/

/-- The rows of R128's table, one per code of the mode setting. -/
theorem wantedMode_table (t : StabSettings) (engaged : Bool) :
    (t.mode = 0 → wantedMode t engaged = .off) ∧ (t.mode = 1 → wantedMode t engaged = .standby)
      ∧ (t.mode = 2 → wantedMode t engaged = .active)
      ∧ (t.mode = 3 → wantedMode t engaged = if engaged then .active else .standby) := by
  unfold wantedMode
  refine ⟨?off, ?standbyOnly, ?always, ?onS1⟩ <;> intro hmode <;> rw [hmode] <;> rfl

/-- The mode setting is OFF before the first SETTINGS request is served. -/
theorem cfg_stabMode_unset {c : Chip} (h : c.settings = none) : (cfg c).stab.mode = 0 := by
  rw [cfg, h]
  rfl

/-! ### The obligation -/

/-- Settles O54: the events and the stop write the mark before the mode changes, which keeps it; both resets build the part
anew. -/
theorem wantedMode : Obligations.WantedMode := by
  unfold Obligations.WantedMode
  refine ⟨fun c => ⟨captureEngaged_engaged c, captureReleased_engaged c, stopStab_engaged c⟩, fun s => ⟨?powerOn, ?soft⟩,
    wantedMode_table, fun _ => cfg_stabMode_unset⟩
  case powerOn =>
    exact ⟨_, commit_eq powerOnReset _, congrArg Stab.engaged (concluded_resetChip_stab _ _ _ _)⟩
  case soft =>
    exact ⟨_, commit_eq softReset s, congrArg Stab.engaged (concluded_resetChip_stab _ _ _ s)⟩

end Sys2Proof.Proofs.WantedMode
end

section
/-! PROOFS. What every command answers: the queue's rest and AREA_BASE (R1), the canonical form of memory (log 4), and the
state after power-on reset (R18). -/

namespace Sys2Proof.Proofs.EveryStep

-- One elaboration thread at a time: each waiting thread reserves a stack, and the text is long.
set_option Elab.async false

open Sys2Proof Sys2Proof.Machine Sys2Proof.Proofs.Notices

/-! ### Steps that are no command -/

/-- What every command keeps, every step keeps: an empty queue answers the same state. -/
theorem kept_of_exec {inv : State → Prop} (hpending : ∀ s is, inv s → inv { s with pending := is })
    (hexec : ∀ i s t, inv s → exec i s = .next t → inv t) : Kept inv := by
  intro s t hs h
  unfold step at h
  split at h
  · cases h
    exact hs
  · next i rest _ => exact hexec i _ t (hpending s rest hs) h

/-! ### The queue and AREA_BASE -/

/-- AREA_BASE after command `i`. -/
def areaBaseAfter (i : Instr) (s : State) : Word :=
  match i with
  | .areaBaseWrite v => if s.chip.port.partState = .halted then v &&& 0xFFFFF000#32 else s.areaBase
  | .powerOnReset => 0
  | _ => s.areaBase

theorem exec_pending_areaBase {i : Instr} {s t : State} (h : exec i s = .next t) :
    t.pending = s.pending ∧ t.areaBase = areaBaseAfter i s := by
  cases i with
  | areaBaseWrite v =>
    cases h
    dsimp only [areaBaseAfter]
    split
    · exact ⟨rfl, rfl⟩
    · exact ⟨rfl, rfl⟩
  | _ =>
    cases h
    exact ⟨rfl, rfl⟩

theorem areaBaseAfter_aligned (i : Instr) (s : State) (h : BaseAligned s) : areaBaseAfter i s &&& 0xFFF#32 = 0 := by
  cases i with
  | areaBaseWrite v =>
    dsimp only [areaBaseAfter]
    split
    · rw [BitVec.and_assoc]
      exact BitVec.and_zero
    · exact h
  | powerOnReset => exact BitVec.zero_and
  | _ => exact h

/-! ### Memory -/

theorem concluded_memoryCanonical (c : Chip) (s : State) (h : Memory.wf s.memory) : MemoryCanonical (concluded c s) :=
  ⟨Memory.writeAll_wf _ _ h, rfl⟩

theorem exec_keeps_memoryCanonical {i : Instr} {s t : State} (hs : MemoryCanonical s) (h : exec i s = .next t) :
    MemoryCanonical t := by
  obtain ⟨f, a, hcommit⟩ | ⟨a, hwrite⟩ := exec_cases i s
  · rw [hcommit, commit_eq] at h
    cases h
    exact concluded_memoryCanonical _ _ hs.1
  · rw [hwrite] at h
    cases h
    exact hs

/-! ### The obligations -/

/-- Settles O8: a command writes memory by bus writes alone, and each keeps the form. -/
theorem memoryStaysCanonical : Obligations.MemoryStaysCanonical :=
  kept_of_exec (fun _ _ h => h) fun _ _ _ => exec_keeps_memoryCanonical

/-- Settles O9: the two writers of AREA_BASE give it with its low 12 bits 0. -/
theorem areaBaseStaysAligned : Obligations.AreaBaseStaysAligned :=
  kept_of_exec (fun _ _ h => h) fun i s t hs h => by
    rw [BaseAligned, (exec_pending_areaBase h).2]
    exact areaBaseAfter_aligned i s hs

/-- Settles O3. -/
theorem queueAndAreaBaseFrame : Obligations.QueueAndAreaBaseFrame := by
  unfold Obligations.QueueAndAreaBaseFrame
  intro i s t h
  obtain ⟨hpending, harea⟩ := exec_pending_areaBase h
  refine ⟨hpending, harea.trans ?_⟩
  cases i with
  | areaBaseWrite v => rfl
  | _ => rfl

/-- Settles O1. -/
theorem stepRunsFrontCommand : Obligations.StepRunsFrontCommand := fun _ _ _ => rfl

/-- Settles O12. -/
theorem areaBaseWrite : Obligations.AreaBaseWrite := fun _ _ => rfl

/-- Settles O2: each field is the default of its structure; the acknowledgement entries and the slots are looked up one by
one. -/
theorem resetState : Obligations.ResetState := by
  unfold Obligations.ResetState
  extract_lets s c
  have hentry : ∀ r : RecordId, record c r = {} := fun r => by cases r <;> rfl
  have hslot : ∀ n < 16, slot c n = {} := by decide
  refine ⟨rfl, rfl, rfl, rfl, rfl, rfl, rfl, fun r => ?entries, rfl, rfl, rfl, rfl, rfl, rfl, rfl, rfl, rfl, rfl, rfl, rfl,
    rfl, rfl, rfl, rfl, rfl, rfl, rfl, rfl, rfl, rfl, rfl, rfl, rfl, rfl, rfl, fun n hn => ?slots, rfl, rfl⟩
  case entries =>
    rw [hentry r]
    exact ⟨rfl, rfl, rfl, rfl, rfl⟩
  case slots =>
    rw [hslot n hn]
    exact ⟨rfl, rfl⟩

/-- Settles O11. -/
theorem resetMeetsInvariants : Obligations.ResetMeetsInvariants :=
  ⟨reset_linesFollow, ⟨Memory.wf_nil, rfl⟩, rfl, rfl, rfl, rfl, rfl, rfl, rfl, rfl⟩

/-- Settles O24. -/
theorem concludeFrame : Obligations.ConcludeFrame := by
  unfold Obligations.ConcludeFrame
  intro c h
  obtain ⟨hpartState, hrun, hfault, -, -⟩ := conclude_port c
  obtain ⟨hzoomEvent, hfocusEvent⟩ := conclude_partEvents c
  exact ⟨conclude_scan c h, conclude_records c h, conclude_service c h, conclude_notices c h, conclude_settings c h,
    conclude_pixel c h, conclude_flicker c h, conclude_tables c h, conclude_wear c h, conclude_zoom c h, conclude_focus c h,
    conclude_control c h, conclude_search c h, conclude_exposure c h, conclude_stab c h, conclude_capture c h,
    conclude_slots c h, conclude_store c h, conclude_card c h, hpartState, hrun, hfault, conclude_zoomPart c h,
    conclude_focusPart c h, hzoomEvent, hfocusEvent, lensBody_zoomCounter c, lensBody_focusCounter c⟩

end Sys2Proof.Proofs.EveryStep
end

section
/-! PROOFS. The sizes of the tables (Chapter 1, section 9.8): no operation changes a length, but for CLEAR_COUNTERS, which makes
the error counters anew, and the entry to STARTING and the resets, which make the answer marks anew. -/

namespace Sys2Proof.Proofs.Shapes

-- One elaboration thread at a time: each waiting thread reserves a stack, and the text is long.
set_option Elab.async false
open Sys2Proof Sys2Proof.Machine

/-- The lengths of the tables of Chapter 1, of the pool and of the error counters. -/
def shape (c : Chip) : List Nat :=
  [c.records.length, c.notices.counts.length, c.answers.stamps.length, c.answers.marks.length, c.slots.length,
    c.wear.counts.length, c.wear.crossed.length]

@[simp] theorem shape_with_port (c : Chip) (x : Port) : shape { c with port := x } = shape c := rfl
@[simp] theorem shape_with_scan (c : Chip) (x : Scan) : shape { c with scan := x } = shape c := rfl
@[simp] theorem shape_with_service (c : Chip) (x : Option ServiceWork) : shape { c with service := x } = shape c := rfl
@[simp] theorem shape_with_settings (c : Chip) (x : Option Settings) : shape { c with settings := x } = shape c := rfl
@[simp] theorem shape_with_pixel (c : Chip) (x : Pixel) : shape { c with pixel := x } = shape c := rfl
@[simp] theorem shape_with_flicker (c : Chip) (x : Flicker) : shape { c with flicker := x } = shape c := rfl
@[simp] theorem shape_with_tables (c : Chip) (x : Tables) : shape { c with tables := x } = shape c := rfl
@[simp] theorem shape_with_zoom (c : Chip) (x : Zoom) : shape { c with zoom := x } = shape c := rfl
@[simp] theorem shape_with_focus (c : Chip) (x : Focus) : shape { c with focus := x } = shape c := rfl
@[simp] theorem shape_with_control (c : Chip) (x : Control) : shape { c with control := x } = shape c := rfl
@[simp] theorem shape_with_search (c : Chip) (x : Search) : shape { c with search := x } = shape c := rfl
@[simp] theorem shape_with_following (c : Chip) (x : Following) : shape { c with following := x } = shape c := rfl
@[simp] theorem shape_with_exposure (c : Chip) (x : Exposure) : shape { c with exposure := x } = shape c := rfl
@[simp] theorem shape_with_stab (c : Chip) (x : Stab) : shape { c with stab := x } = shape c := rfl
@[simp] theorem shape_with_capture (c : Chip) (x : Capture) : shape { c with capture := x } = shape c := rfl
@[simp] theorem shape_with_store (c : Chip) (x : Store) : shape { c with store := x } = shape c := rfl
@[simp] theorem shape_with_card (c : Chip) (x : Card) : shape { c with card := x } = shape c := rfl
@[simp] theorem shape_with_events (c : Chip) (x : List Event) : shape { c with events := x } = shape c := rfl
@[simp] theorem shape_with_busOut (c : Chip) (x : List (Nat × List Byte)) :
    shape { c with busOut := x } = shape c := rfl
@[simp] theorem shape_with_now (c : Chip) (x : Nat) : shape { c with now := x } = shape c := rfl
@[simp] theorem shape_with_freeIndex (c : Chip) (x : Nat) : shape { c with freeIndex := x } = shape c := rfl
@[simp] theorem shape_with_zoomEvent (c : Chip) (b : Bool) :
    shape { c with answers := { c.answers with zoomEvent := b } } = shape c := rfl
@[simp] theorem shape_with_focusEvent (c : Chip) (b : Bool) :
    shape { c with answers := { c.answers with focusEvent := b } } = shape c := rfl

@[simp] theorem shape_mark (a : AnswerId) (c : Chip) : shape (mark a c) = shape c := by simp [shape, mark]

@[simp] theorem shape_setRecord (r : RecordId) (s : RecordState) (c : Chip) : shape (setRecord r s c) = shape c := by
  simp [shape, setRecord]

@[simp] theorem shape_notice (k : NoticeClass) (c : Chip) :
    shape (notice k c) = shape c := by simp [shape, notice, mark]

@[simp] theorem shape_count (k : CounterId) (c : Chip) : shape (count k c) = shape c := by
  unfold count
  dsimp only
  (repeat' split) <;> simp [shape, notice, mark]

@[simp] theorem shape_setSlot (n : Nat) (p : PictureRecord) (c : Chip) : shape (setSlot n p c) = shape c := by
  unfold setSlot
  dsimp only
  split <;> simp [shape, mark]

@[simp] theorem shape_raise (e : Event) (c : Chip) : shape (raise e c) = shape c := rfl

@[simp] theorem shape_finish (r : RecordId) (o : ReqOutcome) (d : Detail) (c : Chip) :
    shape (finish r o d c) = shape c := by
  unfold finish; dsimp only; (repeat' split) <;> simp

@[simp] theorem shape_refuse (r : RecordId) (d : Detail) (c : Chip) : shape (refuse r d c) = shape c := by
  unfold refuse; simp

@[simp] theorem shape_setClamped (r : RecordId) (b : Bool) (c : Chip) : shape (setClamped r b c) = shape c := by
  unfold setClamped; split <;> simp

@[simp] theorem shape_hold (r : RecordId) (d : Detail) (q : Request) (c : Chip) : shape (hold r d q c) = shape c := by
  unfold hold; simp

@[simp] theorem shape_finishService (o : ReqOutcome) (d : Detail) (c : Chip) :
    shape (finishService o d c) = shape c := by
  unfold finishService; split <;> simp

@[simp] theorem shape_setBlockState (b : TableBlock) (s : BlockState) (c : Chip) :
    shape (setBlockState b s c) = shape c := by
  unfold setBlockState; simp

@[simp] theorem shape_loseBlock (b : TableBlock) (c : Chip) : shape (loseBlock b c) = shape c := by
  unfold loseBlock; dsimp only; (repeat' split) <;> simp

@[simp] theorem shape_readWord (b : TableBlock) (i : Nat) (c : Chip) : shape (readWord b i c).2 = shape c := by
  unfold readWord; (repeat' split) <;> simp

@[simp] theorem shape_readWords (b : TableBlock) (is : List Nat) (c : Chip) : shape (readWords b is c).2 = shape c := by
  induction is generalizing c with
  | nil => rfl
  | cons i is ih => simp [readWords, ih]

@[simp] theorem shape_readRow (r : Nat) (c : Chip) : shape (readRow r c).2 = shape c := by unfold readRow; simp

@[simp] theorem shape_readTrack (pos : Int) (c : Chip) : shape (readTrack pos c).2 = shape c := by
  unfold readTrack; dsimp only; (repeat' split) <;> simp

@[simp] theorem shape_beginLoad (s : Settings) (c : Chip) : shape (beginLoad s c) = shape c := by
  unfold beginLoad; simp

@[simp] theorem shape_failLoad (r : LoadResult) (b : TableBlock) (i : Nat) (c : Chip) :
    shape (failLoad r b i c) = shape c := by
  unfold failLoad; dsimp only; (repeat' split) <;> simp

@[simp] theorem shape_loadBlock (ws : List Word) (l : LoadWork) (c : Chip) : shape (loadBlock ws l c) = shape c := by
  unfold loadBlock; dsimp only; (repeat' split) <;> simp

@[simp] theorem shape_loadBusError (l : LoadWork) (c : Chip) : shape (loadBusError l c) = shape c := by
  unfold loadBusError; split <;> simp

@[simp] theorem shape_placeBlocks (l : LoadWork) (c : Chip) : shape (placeBlocks l c) = shape c := by
  unfold placeBlocks; simp

@[simp] theorem shape_beginRefetch (b : TableBlock) (c : Chip) : shape (beginRefetch b c) = shape c := by
  unfold beginRefetch; simp

@[simp] theorem shape_lensTableFault (r : LoadResult) (b : TableBlock) (i : Nat) (c : Chip) :
    shape (lensTableFault r b i c) = shape c := by
  unfold lensTableFault; dsimp only; simp

@[simp] theorem shape_finishRefetch (ws : List Word) (w : RefetchWork) (c : Chip) :
    shape (finishRefetch ws w c) = shape c := by
  unfold finishRefetch; dsimp only; (repeat' split) <;> simp

@[simp] theorem shape_refetchBusFault (w : RefetchWork) (c : Chip) : shape (refetchBusFault w c) = shape c := by
  unfold refetchBusFault; split <;> simp

@[simp] theorem shape_abortRefetch (c : Chip) : shape (abortRefetch c) = shape c := by
  unfold abortRefetch; split <;> simp

@[simp] theorem shape_markZoomPart (c : Chip) : shape (markZoomPart c) = shape c := by
  simp [markZoomPart]

@[simp] theorem shape_markFocusPart (c : Chip) : shape (markFocusPart c) = shape c := by
  simp [markFocusPart]

@[simp] theorem shape_setZoom (f : Zoom → Zoom) (c : Chip) : shape (setZoom f c) = shape c := rfl

@[simp] theorem shape_enterZoom (s : ZoomState) (f : Zoom → Zoom) (c : Chip) : shape (enterZoom s f c) = shape c := by
  unfold enterZoom; dsimp only; (repeat' split) <;> simp

@[simp] theorem shape_readFocalCode (c : Chip) : shape (readFocalCode c) = shape c := by
  unfold readFocalCode; dsimp only; (repeat' split) <;> simp

@[simp] theorem shape_enterIdle (c : Chip) : shape (enterIdle c) = shape c := by
  unfold enterIdle; simp

@[simp] theorem shape_beginMove (c : Chip) : shape (beginMove c) = shape c := by
  unfold beginMove; dsimp only; (repeat' split) <;> simp

@[simp] theorem shape_finalCheck (c : Chip) : shape (finalCheck c) = shape c := by
  unfold finalCheck; (repeat' split) <;> simp

@[simp] theorem shape_beginPark (goal : HomingGoal) (afterHoming : Bool) (c : Chip) :
    shape (beginPark goal afterHoming c) = shape c := by
  unfold beginPark; split <;> simp

@[simp] theorem shape_beginHoming (goal : HomingGoal) (c : Chip) : shape (beginHoming goal c) = shape c := by
  unfold beginHoming; simp

@[simp] theorem shape_zoomFault (d : Detail) (c : Chip) : shape (zoomFault d c) = shape c := by
  unfold zoomFault; dsimp only; (repeat' split) <;> simp

@[simp] theorem shape_enterLost (c : Chip) : shape (enterLost c) = shape c := by
  unfold enterLost; dsimp only; (repeat' split) <;> simp

@[simp] theorem shape_endPosition (c : Chip) : shape (endPosition c) = shape c := by
  unfold endPosition; (repeat' split) <;> simp

@[simp] theorem shape_losePosition (c : Chip) : shape (losePosition c) = shape c := by
  unfold losePosition; split <;> simp

@[simp] theorem shape_zoneCheck (c : Chip) : shape (zoneCheck c) = shape c := by
  unfold zoneCheck; dsimp only; (repeat' split) <;> rfl

@[simp] theorem shape_openDrift (c : Chip) : shape (openDrift c) = shape c := by
  unfold openDrift; (repeat' split) <;> rfl

@[simp] theorem shape_zoomCount (step : Int) (c : Chip) : shape (zoomCount step c) = shape c := by
  unfold zoomCount; dsimp only; (repeat' split) <;> simp

@[simp] theorem shape_encoderStep (e : EncoderStep) (c : Chip) : shape (encoderStep e c) = shape c := by
  unfold encoderStep; (repeat' split) <;> simp

@[simp] theorem shape_referenceChange (level : SensorLevel) (c : Chip) : shape (referenceChange level c) = shape c := by
  unfold referenceChange; (repeat' split) <;> simp

@[simp] theorem shape_brakeTimer (c : Chip) : shape (brakeTimer c) = shape c := by
  unfold brakeTimer; (repeat' split) <;> simp

@[simp] theorem shape_restartOrHold (c : Chip) : shape (restartOrHold c) = shape c := by
  unfold restartOrHold; split <;> simp

@[simp] theorem shape_settleTimer (c : Chip) : shape (settleTimer c) = shape c := by
  unfold settleTimer; (repeat' split) <;> simp

@[simp] theorem shape_stallTimer (c : Chip) : shape (stallTimer c) = shape c := by
  unfold stallTimer; dsimp only; (repeat' split) <;> simp

@[simp] theorem shape_homingTimeout (c : Chip) : shape (homingTimeout c) = shape c := by
  unfold homingTimeout; split <;> simp

@[simp] theorem shape_driftEnd (c : Chip) : shape (driftEnd c) = shape c := by
  unfold driftEnd; (repeat' split) <;> simp

@[simp] theorem shape_takeZoomMove (r : ZoomRequest) (c : Chip) : shape (takeZoomMove r c) = shape c := by
  unfold takeZoomMove; (repeat' split) <;> simp

@[simp] theorem shape_takeZoomStop (c : Chip) : shape (takeZoomStop c) = shape c := by
  unfold takeZoomStop; split <;> simp

@[simp] theorem shape_takeZoom (r : ZoomRequest) (c : Chip) : shape (takeZoom r c) = shape c := by
  unfold takeZoom; split <;> simp

@[simp] theorem shape_cutZoom (c : Chip) : shape (cutZoom c) = shape c := by unfold cutZoom; (repeat' split) <;> simp

@[simp] theorem shape_holdZoom (c : Chip) : shape (holdZoom c) = shape c := by
  unfold holdZoom; (repeat' split) <;> simp

@[simp] theorem shape_resumeZoom (c : Chip) : shape (resumeZoom c) = shape c := by unfold resumeZoom; split <;> simp

@[simp] theorem shape_reloadPoints (c : Chip) : shape (reloadPoints c) = shape c := by
  unfold reloadPoints; dsimp only; split
  · exact (shape_setZoom _ _).trans (shape_readWords _ _ _)
  · exact shape_readWords _ _ _

@[simp] theorem shape_zoomPointsRestored (c : Chip) : shape (zoomPointsRestored c) = shape c := by
  unfold zoomPointsRestored; dsimp only; (repeat' split) <;> simp

@[simp] theorem shape_zoomTablesReplaced (c : Chip) : shape (zoomTablesReplaced c) = shape c := by
  unfold zoomTablesReplaced; dsimp only; (repeat' split) <;> simp

@[simp] theorem shape_zoomTableFault (c : Chip) : shape (zoomTableFault c) = shape c := by
  unfold zoomTableFault; split <;> simp

@[simp] theorem shape_takeOver (a : AfterSettle) (c : Chip) : shape (takeOver a c) = shape c := by
  unfold takeOver; simp

@[simp] theorem shape_brakeFromHeld (a : AfterSettle) (c : Chip) : shape (brakeFromHeld a c) = shape c := by
  unfold brakeFromHeld; simp

@[simp] theorem shape_refuseService (d : Detail) (c : Chip) : shape (refuseService d c) = shape c := by
  unfold refuseService; simp

@[simp] theorem shape_serviceRehome (c : Chip) : shape (serviceRehome c) = shape c := by
  unfold serviceRehome; (repeat' split) <;> simp

@[simp] theorem shape_servicePark (c : Chip) : shape (servicePark c) = shape c := by
  unfold servicePark; (repeat' split) <;> simp

@[simp] theorem shape_serviceUnpark (c : Chip) : shape (serviceUnpark c) = shape c := by
  unfold serviceUnpark; (repeat' split) <;> simp

@[simp] theorem shape_startZoom (c : Chip) : shape (startZoom c) = shape c := by unfold startZoom; split <;> simp

@[simp] theorem shape_stopZoom (c : Chip) : shape (stopZoom c) = shape c := by unfold stopZoom; split <;> simp

@[simp] theorem shape_setFocus (f : Focus → Focus) (c : Chip) : shape (setFocus f c) = shape c := rfl

@[simp] theorem shape_enterFocus (s : FocusState) (f : Focus → Focus) (c : Chip) :
    shape (enterFocus s f c) = shape c := by
  unfold enterFocus; split <;> simp

@[simp] theorem shape_beginTrain (d : FocusDir) (leg : Int) (c : Chip) : shape (beginTrain d leg c) = shape c := by
  unfold beginTrain; split <;> simp

@[simp] theorem shape_enterFocusIdle (c : Chip) : shape (enterFocusIdle c) = shape c := by
  unfold enterFocusIdle; simp

@[simp] theorem shape_planMove (c : Chip) : shape (planMove c) = shape c := by
  unfold planMove; (repeat' split) <;> simp

@[simp] theorem shape_focusFault (d : Detail) (c : Chip) : shape (focusFault d c) = shape c := by
  unfold focusFault; dsimp only; (repeat' split) <;> simp

@[simp] theorem shape_enterHoming (goal : FocusGoal) (c : Chip) : shape (enterHoming goal c) = shape c := by
  unfold enterHoming; simp

@[simp] theorem shape_endTrain (c : Chip) : shape (endTrain c) = shape c := by unfold endTrain; split <;> simp

@[simp] theorem shape_goOnFor (n : Nat) (p : Int) (c : Chip) : shape (goOnFor n p c) = shape c := by
  unfold goOnFor; dsimp only; split <;> simp

@[simp] theorem shape_rampDown (c : Chip) : shape (rampDown c) = shape c := by
  simp [rampDown]

@[simp] theorem shape_startHoming (goal : FocusGoal) (c : Chip) : shape (startHoming goal c) = shape c := by
  unfold startHoming; (repeat' split) <;> simp

@[simp] theorem shape_retargetTrain (t : Int) (c : Chip) : shape (retargetTrain t c) = shape c := by
  unfold retargetTrain; dsimp only; (repeat' split) <;> simp

@[simp] theorem shape_retargetDwell (t : Int) (c : Chip) : shape (retargetDwell t c) = shape c := by
  unfold retargetDwell; (repeat' split) <;> simp

@[simp] theorem shape_handTarget (t0 : Int) (c : Chip) : shape (handTarget t0 c) = shape c := by
  unfold handTarget; (repeat' split) <;> simp

@[simp] theorem shape_issuePulse (c : Chip) : shape (issuePulse c) = shape c := rfl

@[simp] theorem shape_beginCaptureHold (c : Chip) : shape (beginCaptureHold c) = shape c := by
  unfold beginCaptureHold; (repeat' split) <;> simp

@[simp] theorem shape_endRampAtHold (c : Chip) : shape (endRampAtHold c) = shape c := by
  unfold endRampAtHold; split <;> simp

@[simp] theorem shape_endCaptureHold (c : Chip) : shape (endCaptureHold c) = shape c := by
  unfold endCaptureHold; split <;> simp

@[simp] theorem shape_correctSlip (expected : Int) (c : Chip) : shape (correctSlip expected c) = shape c := by
  unfold correctSlip; simp

@[simp] theorem shape_slipCheck (level : SensorLevel) (c : Chip) : shape (slipCheck level c) = shape c := by
  unfold slipCheck; (repeat' split) <;> simp

@[simp] theorem shape_setControl (f : Control → Control) (c : Chip) : shape (setControl f c) = shape c := by
  unfold setControl; dsimp only; (repeat' split) <;> simp

@[simp] theorem shape_setFollowing (f : Following → Following) (c : Chip) : shape (setFollowing f c) = shape c := by
  unfold setFollowing; dsimp only; (repeat' split) <;> simp

@[simp] theorem shape_watchAfresh (c : Chip) : shape (watchAfresh c) = shape c := by unfold watchAfresh; simp

@[simp] theorem shape_doRetarget (c : Chip) : shape (doRetarget c) = shape c := by
  unfold doRetarget; dsimp only; (repeat' split) <;> simp

@[simp] theorem shape_unparkRetarget (c : Chip) : shape (unparkRetarget c) = shape c := by
  unfold unparkRetarget; split <;> simp

@[simp] theorem shape_retarget (c : Chip) : shape (retarget c) = shape c := by unfold retarget; split <;> simp

@[simp] theorem shape_retargetAgain (c : Chip) : shape (retargetAgain c) = shape c := by
  unfold retargetAgain; split <;> simp

@[simp] theorem shape_retargetIfDue (c : Chip) : shape (retargetIfDue c) = shape c := by
  unfold retargetIfDue; split <;> simp

@[simp] theorem shape_homingGoalMove (c : Chip) : shape (homingGoalMove c) = shape c := by
  unfold homingGoalMove; dsimp only; (repeat' split) <;> simp

@[simp] theorem shape_homePulseLimit (c : Chip) : shape (homePulseLimit c) = shape c := by
  unfold homePulseLimit; split <;> simp

@[simp] theorem shape_focusTablesReplaced (c : Chip) : shape (focusTablesReplaced c) = shape c := by
  unfold focusTablesReplaced; (repeat' split) <;> simp

@[simp] theorem shape_focusTableFault (c : Chip) : shape (focusTableFault c) = shape c := by
  unfold focusTableFault; (repeat' split) <;> simp

@[simp] theorem shape_dropHomingRamp (c : Chip) : shape (dropHomingRamp c) = shape c := rfl

@[simp] theorem shape_stopFocus (c : Chip) : shape (stopFocus c) = shape c := by
  unfold stopFocus; (repeat' split) <;> simp

@[simp] theorem shape_setSearch (f : Search → Search) (c : Chip) : shape (setSearch f c) = shape c := by
  unfold setSearch; simp

@[simp] theorem shape_watchKeepingStep (c : Chip) : shape (watchKeepingStep c) = shape c := by
  unfold watchKeepingStep; simp

@[simp] theorem shape_enterContinuous (window : Nat) (c : Chip) : shape (enterContinuous window c) = shape c := by
  unfold enterContinuous; simp

@[simp] theorem shape_leaveSearchMode (confirmed : Bool) (c : Chip) :
    shape (leaveSearchMode confirmed c) = shape c := by
  unfold leaveSearchMode; split <;> simp

@[simp] theorem shape_closeSearch (confirmed : Bool) (c : Chip) : shape (closeSearch confirmed c) = shape c := by
  unfold closeSearch; simp

@[simp] theorem shape_endSearchRequest (o : ReqOutcome) (d : Detail) (c : Chip) :
    shape (endSearchRequest o d c) = shape c := by
  unfold endSearchRequest; split <;> simp

@[simp] theorem shape_endEarly (o : ReqOutcome) (d : Detail) (c : Chip) : shape (endEarly o d c) = shape c := by
  unfold endEarly; split <;> simp

@[simp] theorem shape_supersedeSearch (c : Chip) : shape (supersedeSearch c) = shape c := by
  unfold supersedeSearch; (repeat' split) <;> simp

@[simp] theorem shape_finishSearch (d : Nat) (found : Bool) (c : Chip) : shape (finishSearch d found c) = shape c := by
  unfold finishSearch; simp

@[simp] theorem shape_applyFinish (c : Chip) : shape (applyFinish c) = shape c := by
  unfold applyFinish; dsimp only; (repeat' split) <;> simp

@[simp] theorem shape_enterFinish (c : Chip) : shape (enterFinish c) = shape c := by unfold enterFinish; simp

@[simp] theorem shape_enterFine (w : Nat) (peak : Int) (c : Chip) : shape (enterFine w peak c) = shape c := by
  unfold enterFine; dsimp only; (repeat' split) <;> simp

@[simp] theorem shape_applyChoose (c : Chip) : shape (applyChoose c) = shape c := by
  unfold applyChoose; dsimp only; (repeat' split) <;> simp

@[simp] theorem shape_enterChoose (c : Chip) : shape (enterChoose c) = shape c := by unfold enterChoose; simp

@[simp] theorem shape_searchWaitCheck (c : Chip) : shape (searchWaitCheck c) = shape c := by
  unfold searchWaitCheck; dsimp only; (repeat' split) <;> simp

@[simp] theorem shape_searchBlockRestored (c : Chip) : shape (searchBlockRestored c) = shape c := by
  unfold searchBlockRestored; split <;> simp

@[simp] theorem shape_coarseSample (values : List Nat) (c : Chip) : shape (coarseSample values c) = shape c := by
  unfold coarseSample; dsimp only; (repeat' split) <;> simp

@[simp] theorem shape_fineSample (values : List Nat) (c : Chip) : shape (fineSample values c) = shape c := by
  unfold fineSample; dsimp only; (repeat' split) <;> simp

@[simp] theorem shape_searchSample (values : List (Option Nat)) (c : Chip) :
    shape (searchSample values c) = shape c := by
  unfold searchSample; (repeat' split) <;> simp

@[simp] theorem shape_beginSearch (o : SearchOrigin) (c : Chip) : shape (beginSearch o c) = shape c := by
  unfold beginSearch; simp

@[simp] theorem shape_takeSearch (c : Chip) : shape (takeSearch c) = shape c := by
  unfold takeSearch; (repeat' split) <;> simp

@[simp] theorem shape_takeContinuousOn (c : Chip) : shape (takeContinuousOn c) = shape c := by
  unfold takeContinuousOn; dsimp only; (repeat' split) <;> simp

@[simp] theorem shape_moveForRequest (c : Chip) : shape (moveForRequest c) = shape c := by
  unfold moveForRequest; (repeat' split) <;> simp

@[simp] theorem shape_takeSetDistance (d : Nat) (c : Chip) : shape (takeSetDistance d c) = shape c := by
  unfold takeSetDistance; simp

@[simp] theorem shape_takeResumeTracking (c : Chip) : shape (takeResumeTracking c) = shape c := by
  unfold takeResumeTracking; simp

@[simp] theorem shape_takeFocus (r : FocusRequest) (c : Chip) : shape (takeFocus r c) = shape c := by
  unfold takeFocus; split <;> simp

@[simp] theorem shape_searchHalfPress (c : Chip) : shape (searchHalfPress c) = shape c := by
  unfold searchHalfPress; (repeat' split) <;> simp

@[simp] theorem shape_searchHalfPressEnd (c : Chip) : shape (searchHalfPressEnd c) = shape c := by
  unfold searchHalfPressEnd; split <;> simp

@[simp] theorem shape_evalFollowing (c : Chip) : shape (evalFollowing c) = shape c := by
  unfold evalFollowing; (repeat' split) <;> simp

@[simp] theorem shape_moveToBest (e : Episode) (c : Chip) : shape (moveToBest e c) = shape c := by
  unfold moveToBest; simp

@[simp] theorem shape_makeStep (e : Episode) (c : Chip) : shape (makeStep e c) = shape c := by unfold makeStep; simp

@[simp] theorem shape_stepNotBetter (e : Episode) (c : Chip) : shape (stepNotBetter e c) = shape c := by
  unfold stepNotBetter; dsimp only; (repeat' split) <;> simp

@[simp] theorem shape_nextStep (e : Episode) (c : Chip) : shape (nextStep e c) = shape c := by
  unfold nextStep; (repeat' split) <;> simp

@[simp] theorem shape_stepSample (v : Nat) (e : Episode) (c : Chip) : shape (stepSample v e c) = shape c := by
  unfold stepSample; (repeat' split) <;> simp

@[simp] theorem shape_watchSample (v : Nat) (c : Chip) : shape (watchSample v c) = shape c := by
  unfold watchSample; dsimp only; (repeat' split) <;> simp

@[simp] theorem shape_followingSample (values : List (Option Nat)) (c : Chip) :
    shape (followingSample values c) = shape c := by
  unfold followingSample; (repeat' split) <;> simp

@[simp] theorem shape_focusSample (metered : Bool) (values : List (Option Nat)) (c : Chip) :
    shape (focusSample metered values c) = shape c := by
  unfold focusSample; split <;> simp

@[simp] theorem shape_followingMoveEnd (c : Chip) : shape (followingMoveEnd c) = shape c := by
  unfold followingMoveEnd; dsimp only; (repeat' split) <;> simp

@[simp] theorem shape_searchSettingsChanged (c : Chip) : shape (searchSettingsChanged c) = shape c := by
  unfold searchSettingsChanged; dsimp only; (repeat' split) <;> simp

@[simp] theorem shape_stopSearch (c : Chip) : shape (stopSearch c) = shape c := by unfold stopSearch; simp

@[simp] theorem shape_setPixel (f : Pixel → Pixel) (c : Chip) : shape (setPixel f c) = shape c := rfl

@[simp] theorem shape_setStream (s : StreamState) (c : Chip) : shape (setStream s c) = shape c := by
  unfold setStream
  split
  · rfl
  · exact shape_mark _ _

@[simp] theorem shape_setIris (level : Nat) (c : Chip) : shape (setIris level c) = shape c := rfl

@[simp] theorem shape_enterConfiguring (starting : Bool) (t : Triple) (c : Chip) :
    shape (enterConfiguring starting t c) = shape c := by
  unfold enterConfiguring; simp

@[simp] theorem shape_sensorConfigStart (c : Chip) : shape (sensorConfigStart c) = shape c := by
  unfold sensorConfigStart; split
  · rfl
  · exact (shape_enterConfiguring _ _ _).trans rfl

@[simp] theorem shape_streamStarted (w : ConfigWork) (c : Chip) : shape (streamStarted w c) = shape c := by
  unfold streamStarted; simp

@[simp] theorem shape_streamFailed (c : Chip) : shape (streamFailed c) = shape c := by
  unfold streamFailed; simp

@[simp] theorem shape_configWriteDone (acknowledged : Bool) (c : Chip) :
    shape (configWriteDone acknowledged c) = shape c := by
  unfold configWriteDone; (repeat' split) <;> simp

@[simp] theorem shape_beginReconfigure (c : Chip) : shape (beginReconfigure c) = shape c := by
  unfold beginReconfigure
  split
  · split
    · rfl
    · simp only [shape_enterConfiguring, shape_setPixel]
  · rfl

@[simp] theorem shape_sensorSettingsChanged (old new : SensorSettings) (c : Chip) :
    shape (sensorSettingsChanged old new c) = shape c := by
  unfold sensorSettingsChanged; (repeat' split) <;> simp

@[simp] theorem shape_handTriple (t : Triple) (c : Chip) : shape (handTriple t c) = shape c := by
  unfold handTriple; (repeat' split) <;> simp

@[simp] theorem shape_sensorWriteDone (c : Chip) : shape (sensorWriteDone c) = shape c := by
  unfold sensorWriteDone; split <;> simp

@[simp] theorem shape_stallTimeout (c : Chip) : shape (stallTimeout c) = shape c := by
  unfold stallTimeout; split <;> simp

@[simp] theorem shape_writeStreamOff (c : Chip) : shape (writeStreamOff c) = shape c := rfl

@[simp] theorem shape_streamOffDone (c : Chip) : shape (streamOffDone c) = shape c := by
  unfold streamOffDone; split <;> simp

@[simp] theorem shape_followApplied (c : Chip) : shape (followApplied c) = shape c := by
  unfold followApplied; (repeat' split) <;> simp

@[simp] theorem shape_setExposure (f : Exposure → Exposure) (c : Chip) : shape (setExposure f c) = shape c := by
  unfold setExposure; dsimp only; (repeat' split) <;> simp

@[simp] theorem shape_handOverApplied (c : Chip) : shape (handOverApplied c) = shape c := by
  unfold handOverApplied; (repeat' split) <;> simp

@[simp] theorem shape_setWriteDue (c : Chip) : shape (setWriteDue c) = shape c := rfl

@[simp] theorem shape_resplit (c : Chip) : shape (resplit c).2 = shape c := by unfold resplit; split <;> simp

@[simp] theorem shape_applyBound (c : Chip) : shape (applyBound c) = shape c := by
  unfold applyBound; dsimp only; (repeat' split) <;> simp

@[simp] theorem shape_limitChange (c : Chip) : shape (limitChange c) = shape c := by
  unfold limitChange; (repeat' split) <;> simp

@[simp] theorem shape_lensDataChange (old : Exposure) (c : Chip) : shape (lensDataChange old c) = shape c := by
  unfold lensDataChange; split <;> simp

@[simp] theorem shape_readLensCopy (c : Chip) : shape (readLensCopy c) = shape c := by unfold readLensCopy; simp

@[simp] theorem shape_exposureCrossing (zone : Nat) (c : Chip) : shape (exposureCrossing zone c) = shape c := by
  unfold exposureCrossing; dsimp only; (repeat' split) <;> simp

@[simp] theorem shape_meteringStep (err : Int) (c : Chip) : shape (meteringStep err c) = shape c := by
  unfold meteringStep; dsimp only; (repeat' split) <;> simp

@[simp] theorem shape_meterFrame (f : OpenFrame) (means : List Nat) (c : Chip) :
    shape (meterFrame f means c) = shape c := by
  unfold meterFrame; dsimp only; (repeat' split) <;> simp

@[simp] theorem shape_exposureFrameStart (c : Chip) : shape (exposureFrameStart c) = shape c := by
  unfold exposureFrameStart; dsimp only; (repeat' split) <;> simp

@[simp] theorem shape_markGatheredExposure (c : Chip) : shape (markGatheredExposure c) = shape c := by
  unfold markGatheredExposure; split <;> simp

@[simp] theorem shape_takeAuto (compensation : Int) (c : Chip) : shape (takeAuto compensation c) = shape c := by
  unfold takeAuto; simp

@[simp] theorem shape_takeLock (c : Chip) : shape (takeLock c) = shape c := by unfold takeLock; simp

@[simp] theorem shape_takeManual (xt xg xa : Nat) (c : Chip) : shape (takeManual xt xg xa c) = shape c := by
  unfold takeManual; split <;> simp

@[simp] theorem shape_takeExposure (r : ExposureRequest) (c : Chip) : shape (takeExposure r c) = shape c := by
  unfold takeExposure; split <;> simp

@[simp] theorem shape_exposureHalfPress (c : Chip) : shape (exposureHalfPress c) = shape c := by
  unfold exposureHalfPress; split <;> simp

@[simp] theorem shape_exposureHalfPressEnd (c : Chip) : shape (exposureHalfPressEnd c) = shape c := by
  unfold exposureHalfPressEnd; dsimp only; (repeat' split) <;> simp

@[simp] theorem shape_searchHoldBegin (c : Chip) : shape (searchHoldBegin c) = shape c := by
  unfold searchHoldBegin; simp

@[simp] theorem shape_searchHoldEnd (c : Chip) : shape (searchHoldEnd c) = shape c := by
  unfold searchHoldEnd; dsimp only; (repeat' split) <;> simp

@[simp] theorem shape_exposureCredit (n : Nat) (c : Chip) : shape (exposureCredit n c) = shape c := by
  unfold exposureCredit; simp

@[simp] theorem shape_clearExposureFlags (c : Chip) : shape (clearExposureFlags c) = shape c := by
  unfold clearExposureFlags; simp

@[simp] theorem shape_sensorWriteLost (c : Chip) : shape (sensorWriteLost c) = shape c := by
  unfold sensorWriteLost; split <;> simp

@[simp] theorem shape_exposureStartState (c : Chip) : shape (exposureStartState c) = shape c := by
  unfold exposureStartState; split <;> simp

@[simp] theorem shape_exposureTimingChanged (c : Chip) : shape (exposureTimingChanged c) = shape c := by
  unfold exposureTimingChanged; dsimp only; (repeat' split) <;> simp

@[simp] theorem shape_exposureSettingsDone (old new : Settings) (c : Chip) :
    shape (exposureSettingsDone old new c) = shape c := by
  unfold exposureSettingsDone; dsimp only; (repeat' split) <;> simp

@[simp] theorem shape_stopExposure (c : Chip) : shape (stopExposure c) = shape c := by unfold stopExposure; simp

@[simp] theorem shape_setFlickerClass (k : FlickerClass) (c : Chip) : shape (setFlickerClass k c) = shape c := by
  unfold setFlickerClass; split <;> simp

@[simp] theorem shape_flickerTimeout (c : Chip) : shape (flickerTimeout c) = shape c := by
  unfold flickerTimeout; split <;> simp

@[simp] theorem shape_flickerSettingsDone (old new : FlickerSettings) (c : Chip) :
    shape (flickerSettingsDone old new c) = shape c := by
  unfold flickerSettingsDone; split <;> simp

@[simp] theorem shape_resetFlicker (c : Chip) : shape (resetFlicker c) = shape c := by
  unfold resetFlicker; split <;> simp

@[simp] theorem shape_markStab (c : Chip) : shape (markStab c) = shape c := by unfold markStab; simp

@[simp] theorem shape_setStab (f : Stab → Stab) (c : Chip) : shape (setStab f c) = shape c := by
  unfold setStab; dsimp only; (repeat' split) <;> simp

@[simp] theorem shape_markGatheredStab (c : Chip) : shape (markGatheredStab c) = shape c := by
  unfold markGatheredStab; split <;> simp

@[simp] theorem shape_handCredit (c : Chip) : shape (handCredit c) = shape c := by
  unfold handCredit; dsimp only; (repeat' split) <;> simp

@[simp] theorem shape_setMode (m : StabMode) (c : Chip) : shape (setMode m c) = shape c := by
  unfold setMode; split <;> simp

@[simp] theorem shape_followWanted (c : Chip) : shape (followWanted c) = shape c := by
  unfold followWanted; dsimp only; (repeat' split) <;> simp

@[simp] theorem shape_captureEngaged (c : Chip) : shape (captureEngaged c) = shape c := by unfold captureEngaged; simp

@[simp] theorem shape_captureReleased (c : Chip) : shape (captureReleased c) = shape c := by
  unfold captureReleased; simp

@[simp] theorem shape_gyroRunning (c : Chip) : shape (gyroRunning c) = shape c := by unfold gyroRunning; simp

@[simp] theorem shape_gyroStart (c : Chip) : shape (gyroStart c) = shape c := by
  unfold gyroStart; dsimp only; (repeat' split) <;> simp

@[simp] theorem shape_gyroConfigWriteDone (c : Chip) : shape (gyroConfigWriteDone c) = shape c := by
  unfold gyroConfigWriteDone; (repeat' split) <;> simp

@[simp] theorem shape_gyroDataReady (c : Chip) : shape (gyroDataReady c) = shape c := by
  unfold gyroDataReady; split <;> simp

@[simp] theorem shape_gyroLost (c : Chip) : shape (gyroLost c) = shape c := by
  unfold gyroLost; dsimp only; (repeat' split) <;> simp

@[simp] theorem shape_gyroStop (c : Chip) : shape (gyroStop c) = shape c := by unfold gyroStop; simp

@[simp] theorem shape_gyroStopWriteDone (c : Chip) : shape (gyroStopWriteDone c) = shape c := by
  unfold gyroStopWriteDone; split <;> simp

@[simp] theorem shape_panChange (m : Option StabMode) (c : Chip) : shape (panChange m c) = shape c := by
  unfold panChange; split <;> simp

@[simp] theorem shape_shakeCheck (c : Chip) : shape (shakeCheck c) = shape c := by
  unfold shakeCheck; dsimp only; (repeat' split) <;> simp

@[simp] theorem shape_takeSample (rateX rateY : Int) (c : Chip) : shape (takeSample rateX rateY c) = shape c := by
  unfold takeSample; simp

@[simp] theorem shape_gyroSample (rateX rateY : Int) (c : Chip) : shape (gyroSample rateX rateY c) = shape c := by
  unfold gyroSample; (repeat' split) <;> simp

@[simp] theorem shape_learnTimer (c : Chip) : shape (learnTimer c) = shape c := by
  unfold learnTimer; dsimp only; (repeat' split) <;> simp

@[simp] theorem shape_rampTimer (c : Chip) : shape (rampTimer c) = shape c := by unfold rampTimer; split <;> simp

@[simp] theorem shape_openWindow (c : Chip) : shape (openWindow c) = shape c := by unfold openWindow; simp

@[simp] theorem shape_closeWindow (c : Chip) : shape (closeWindow c) = shape c := by unfold closeWindow; simp

@[simp] theorem shape_readGains (c : Chip) : shape (readGains c) = shape c := by
  unfold readGains; dsimp only; (repeat' split) <;> simp

@[simp] theorem shape_stabCrossing (zone : Nat) (c : Chip) : shape (stabCrossing zone c) = shape c := by
  unfold stabCrossing; simp

@[simp] theorem shape_serviceRestartStabilizer (c : Chip) : shape (serviceRestartStabilizer c) = shape c := by
  unfold serviceRestartStabilizer; split <;> simp

@[simp] theorem shape_clearShake (c : Chip) : shape (clearShake c) = shape c := by unfold clearShake; simp

@[simp] theorem shape_stabSettingsDone (old new : StabSettings) (c : Chip) :
    shape (stabSettingsDone old new c) = shape c := by
  unfold stabSettingsDone; dsimp only; (repeat' split) <;> simp

@[simp] theorem shape_stopStab (c : Chip) : shape (stopStab c) = shape c := by unfold stopStab; simp

@[simp] theorem shape_setCapture (f : Capture → Capture) (c : Chip) : shape (setCapture f c) = shape c := by
  unfold setCapture; dsimp only; (repeat' split) <;> simp

@[simp] theorem shape_setBurst (f : Burst → Burst) (c : Chip) : shape (setBurst f c) = shape c := by
  unfold setBurst; simp

@[simp] theorem shape_applyFreeing (n : Nat) (c : Chip) : shape (applyFreeing n c) = shape c := by
  unfold applyFreeing; split <;> simp

@[simp] theorem shape_applyFreeingFrom (i n : Nat) (c : Chip) : shape (applyFreeingFrom i n c) = shape c := by
  induction n generalizing i c with
  | zero => rfl
  | succ n ih => simp [applyFreeingFrom, ih]

@[simp] theorem shape_releaseCountsRead (counts : List Half) (c : Chip) :
    shape (releaseCountsRead counts c) = shape c := by
  unfold releaseCountsRead; simp

@[simp] theorem shape_enterWaitFrame (unconfirmed : Bool) (c : Chip) :
    shape (enterWaitFrame unconfirmed c) = shape c := by
  unfold enterWaitFrame; simp

@[simp] theorem shape_leaveBurst (c : Chip) : shape (leaveBurst c) = shape c := by
  unfold leaveBurst; dsimp only; (repeat' split) <;> simp

@[simp] theorem shape_spendPress (c : Chip) : shape (spendPress c) = shape c := by unfold spendPress; simp

@[simp] theorem shape_endBurstByCount (c : Chip) : shape (endBurstByCount c) = shape c := by
  unfold endBurstByCount; simp

@[simp] theorem shape_afterPicture (c : Chip) : shape (afterPicture c) = shape c := by
  unfold afterPicture; dsimp only; (repeat' split) <;> simp

@[simp] theorem shape_captureStreamFault (c : Chip) : shape (captureStreamFault c) = shape c := by
  unfold captureStreamFault; (repeat' split) <;> simp

@[simp] theorem shape_abandonSearch (c : Chip) : shape (abandonSearch c) = shape c := by unfold abandonSearch; simp

@[simp] theorem shape_waitZoomCheck (c : Chip) : shape (waitZoomCheck c) = shape c := by
  unfold waitZoomCheck; (repeat' split) <;> simp

@[simp] theorem shape_beginBurst (c : Chip) : shape (beginBurst c) = shape c := by unfold beginBurst; simp

@[simp] theorem shape_captureSearchOver (confirmed : Bool) (c : Chip) :
    shape (captureSearchOver confirmed c) = shape c := by
  unfold captureSearchOver; split <;> simp

@[simp] theorem shape_focusWaitTimer (c : Chip) : shape (focusWaitTimer c) = shape c := by
  unfold focusWaitTimer; split <;> simp

@[simp] theorem shape_evalPress (wasHalf wasFull : Bool) (c : Chip) :
    shape (evalPress wasHalf wasFull c) = shape c := by
  unfold evalPress; dsimp only; (repeat' split) <;> simp

@[simp] theorem shape_changePress (f : Capture → Capture) (c : Chip) : shape (changePress f c) = shape c := by
  unfold changePress; simp

@[simp] theorem shape_takeLevel (b : Button) (c : Chip) : shape (takeLevel b c) = shape c := by unfold takeLevel; simp

@[simp] theorem shape_buttonChange (b : Button) (pressed : Bool) (c : Chip) :
    shape (buttonChange b pressed c) = shape c := by
  unfold buttonChange; dsimp only; (repeat' split) <;> simp

@[simp] theorem shape_qualificationTimer (b : Button) (c : Chip) : shape (qualificationTimer b c) = shape c := by
  unfold qualificationTimer; split <;> simp

@[simp] theorem shape_refuseCapture (d : Detail) (c : Chip) : shape (refuseCapture d c) = shape c := by
  unfold refuseCapture; simp

@[simp] theorem shape_takePrepare (c : Chip) : shape (takePrepare c) = shape c := by unfold takePrepare; simp

@[simp] theorem shape_takeStartBurst (n : Nat) (c : Chip) : shape (takeStartBurst n c) = shape c := by
  unfold takeStartBurst; split <;> simp

@[simp] theorem shape_takeCaptureStop (c : Chip) : shape (takeCaptureStop c) = shape c := by
  unfold takeCaptureStop; simp

@[simp] theorem shape_takeCapture (r : CaptureRequest) (c : Chip) : shape (takeCapture r c) = shape c := by
  unfold takeCapture; split <;> simp

@[simp] theorem shape_claim (n : Nat) (time : Nat) (frame : Word) (effective : Option Triple) (c : Chip) :
    shape (claim n time frame effective c) = shape c := by
  unfold claim; simp

@[simp] theorem shape_captureFrameStart (time : Nat) (frame : Word) (effective : Option Triple) (c0 : Chip) :
    shape (captureFrameStart time frame effective c0) = shape c0 := by
  unfold captureFrameStart; dsimp only; (repeat' split) <;> simp

@[simp] theorem shape_joinQueue (n : Nat) (c : Chip) : shape (joinQueue n c) = shape c := by unfold joinQueue; simp

@[simp] theorem shape_completePicture (n : Nat) (bytes : Nat) (c : Chip) :
    shape (completePicture n bytes c) = shape c := by
  unfold completePicture; dsimp only; (repeat' split) <;> simp

@[simp] theorem shape_failPicture (n : Nat) (d : Detail) (c : Chip) : shape (failPicture n d c) = shape c := by
  unfold failPicture; simp

@[simp] theorem shape_abandonPicture (c : Chip) : shape (abandonPicture c) = shape c := by
  unfold abandonPicture; split <;> simp

@[simp] theorem shape_stopCapture (c : Chip) : shape (stopCapture c) = shape c := by unfold stopCapture; simp

@[simp] theorem shape_markStore (c c1 : Chip) : shape (markStore c c1) = shape c1 := by
  unfold markStore; split <;> simp

@[simp] theorem shape_setStore (f : Store → Store) (c : Chip) : shape (setStore f c) = shape c := by
  unfold setStore; simp

@[simp] theorem shape_setCard (f : Card → Card) (c : Chip) : shape (setCard f c) = shape c := by unfold setCard; simp

@[simp] theorem shape_setPicture (p : Option PictureWork) (c : Chip) : shape (setPicture p c) = shape c := by
  unfold setPicture; simp

@[simp] theorem shape_setOrder (o : Option OrderWork) (c : Chip) : shape (setOrder o c) = shape c := by
  unfold setOrder; simp

@[simp] theorem shape_enterCard (k : CardState) (f : Card → Card) (c : Chip) : shape (enterCard k f c) = shape c := by
  unfold enterCard; split <;> simp

@[simp] theorem shape_closeExtent (c : Chip) : shape (closeExtent c) = shape c := by
  unfold closeExtent; split <;> simp

@[simp] theorem shape_evalStore (c : Chip) : shape (evalStore c) = shape c := by
  unfold evalStore; dsimp only; (repeat' split) <;> simp

@[simp] theorem shape_clearPicture (c : Chip) : shape (clearPicture c) = shape c := by
  unfold clearPicture; (repeat' split) <;> simp

@[simp] theorem shape_endPicture (n : Nat) (f : PictureRecord → PictureRecord) (c : Chip) :
    shape (endPicture n f c) = shape c := by
  unfold endPicture; simp

@[simp] theorem shape_pictureStored (n : Nat) (c : Chip) : shape (pictureStored n c) = shape c := by
  unfold pictureStored; simp

@[simp] theorem shape_pictureFailed (n : Nat) (d : Detail) (c : Chip) : shape (pictureFailed n d c) = shape c := by
  unfold pictureFailed; simp

@[simp] theorem shape_requeuePicture (c : Chip) : shape (requeuePicture c) = shape c := by
  unfold requeuePicture; split <;> simp

@[simp] theorem shape_endOrder (o : ReqOutcome) (d : Detail) (c : Chip) : shape (endOrder o d c) = shape c := by
  unfold endOrder; split <;> simp

@[simp] theorem shape_cardFault (d : Detail) (c : Chip) : shape (cardFault d c) = shape c := by
  unfold cardFault; dsimp only; (repeat' split) <;> simp

@[simp] theorem shape_beginInit (c : Chip) : shape (beginInit c) = shape c := by unfold beginInit; simp

@[simp] theorem shape_serviceRestartCard (c : Chip) : shape (serviceRestartCard c) = shape c := by
  unfold serviceRestartCard; split <;> simp

@[simp] theorem shape_holdOrderToCapacity (o : OrderWork) (c : Chip) : shape (holdOrderToCapacity o c) = shape c := by
  unfold holdOrderToCapacity; (repeat' split) <;> simp

@[simp] theorem shape_cardReady (c : Chip) : shape (cardReady c) = shape c := by
  unfold cardReady; dsimp only; (repeat' split) <;> simp

@[simp] theorem shape_cardRemoved (c : Chip) : shape (cardRemoved c) = shape c := by
  unfold cardRemoved; dsimp only; (repeat' split) <;> simp

@[simp] theorem shape_cardDetChange (level : Bool) (c : Chip) : shape (cardDetChange level c) = shape c := by
  unfold cardDetChange; simp

@[simp] theorem shape_cardDetTimer (c : Chip) : shape (cardDetTimer c) = shape c := by
  unfold cardDetTimer; dsimp only; (repeat' split) <;> simp

theorem shape_byCardState (r : RecordId) (q : Request) (take : Nat → Chip → Chip) (h : ∀ n c, shape (take n c) = shape c) (c : Chip) :
    shape (byCardState r q take c) = shape c := by
  unfold byCardState; split <;> simp [h]

@[simp] theorem shape_finishGrant (rec : RecordId) (r : Nat) (c : Chip) : shape (finishGrant rec r c) = shape c := by
  unfold finishGrant; simp

@[simp] theorem shape_takeSpace (start count : Nat) (c : Chip) : shape (takeSpace start count c) = shape c := by
  unfold takeSpace; apply shape_byCardState; intro n d; simp

@[simp] theorem shape_takeSpare (start count : Nat) (c : Chip) : shape (takeSpare start count c) = shape c := by
  unfold takeSpare; apply shape_byCardState; intro n d; simp

@[simp] theorem shape_takeCardOrder (write : Bool) (count sector address : Nat) (c : Chip) :
    shape (takeCardOrder write count sector address c) = shape c := by
  unfold takeCardOrder; split <;> simp

@[simp] theorem shape_beginPicture (c : Chip) : shape (beginPicture c) = shape c := by
  unfold beginPicture; split <;> simp

theorem shape_allocateRun (p : PictureWork) (c : Chip) (r : PlannedRun × Chip) (h : allocateRun p c = some r) :
    shape r.2 = shape c := by
  unfold allocateRun at h; dsimp only at h; split at h <;> simp at h; subst h; simp

@[simp] theorem shape_beginRun (k : RunKind) (write : Bool) (plan : PlannedRun) (address : Nat) (header : List Byte) (c : Chip) :
    shape (beginRun k write plan address header c) = shape c := by
  unfold beginRun; simp

@[simp] theorem shape_beginPictureRun (p : PictureWork) (plan : PlannedRun) (c : Chip) :
    shape (beginPictureRun p plan c) = shape c := by
  unfold beginPictureRun; simp

@[simp] theorem shape_choosePictureRun (c : Chip) : shape (choosePictureRun c) = shape c := by
  unfold choosePictureRun; split
  · rfl
  · split
    · simp
    · split
      · rename_i h; rw [shape_beginPictureRun]; exact shape_allocateRun _ _ _ h
      · simp

@[simp] theorem shape_chooseOrderRun (c : Chip) : shape (chooseOrderRun c) = shape c := by
  unfold chooseOrderRun; split <;> simp

@[simp] theorem shape_chooseRun (c : Chip) : shape (chooseRun c) = shape c := by
  unfold chooseRun; dsimp only; (repeat' split) <;> simp

@[simp] theorem shape_cardWork (c : Chip) : shape (cardWork c) = shape c := by
  unfold cardWork; dsimp only; (repeat' split) <;> simp

theorem shape_runFailure (r : Run) (again : PlannedRun → Chip → Chip) (h : ∀ p c, shape (again p c) = shape c) (c : Chip) :
    shape (runFailure r again c) = shape c := by
  unfold runFailure; dsimp only; split <;> simp [h]

@[simp] theorem shape_remapRun (p : PictureWork) (r : Run) (i : Nat) (c : Chip) :
    shape (remapRun p r i c) = shape c := by
  unfold remapRun; dsimp only; (repeat' split) <;> simp

@[simp] theorem shape_pictureRunDone (p : PictureWork) (r : Run) (c : Chip) :
    shape (pictureRunDone p r c) = shape c := by
  unfold pictureRunDone; (repeat' split) <;> simp

@[simp] theorem shape_pictureRunEnd (p : PictureWork) (r : Run) (c : Chip) : shape (pictureRunEnd p r c) = shape c := by
  unfold pictureRunEnd
  split
  iterate 3 exact shape_pictureRunDone p r c
  iterate 4 rw [shape_runFailure _ _ (by intros; simp)]
  · simp
  · simp

@[simp] theorem shape_orderRunEnd (o : OrderWork) (r : Run) (c : Chip) : shape (orderRunEnd o r c) = shape c := by
  unfold orderRunEnd
  split
  iterate 3
    dsimp only
    split <;> simp
  iterate 4 rw [shape_runFailure _ _ (by intros; simp)]
  · simp
  · simp

@[simp] theorem shape_orderRunStopped (o : OrderWork) (r : Run) (c : Chip) :
    shape (orderRunStopped o r c) = shape c := by
  unfold orderRunStopped
  split
  iterate 3 simp
  iterate 4
    rw [shape_runFailure _ _ (by intros; rfl)]
    simp
  iterate 2 simp

@[simp] theorem shape_runEnd (r : Run) (c : Chip) : shape (runEnd r c) = shape c := by
  unfold runEnd; dsimp only; (repeat' split) <;>
    simp only [shape_raise, shape_pictureRunEnd, shape_orderRunStopped, shape_orderRunEnd, shape_mark] <;> rfl

@[simp] theorem shape_setRun (f : Run → Run) (c : Chip) : shape (setRun f c) = shape c := rfl

@[simp] theorem shape_endRunEarly (cause : RunResult) (c : Chip) : shape (endRunEarly cause c) = shape c := rfl

@[simp] theorem shape_nextBlock (p : RunPhase) (c : Chip) : shape (nextBlock p c) = shape c := rfl

@[simp] theorem shape_initResponse (capacity : Nat) (c : Chip) : shape (initResponse capacity c) = shape c := by
  unfold initResponse; (repeat' split) <;> simp

@[simp] theorem shape_cardResponse (capacity : Nat) (c : Chip) : shape (cardResponse capacity c) = shape c := by
  unfold cardResponse; (repeat' split) <;> simp

@[simp] theorem shape_cardStatusToken (t : StatusToken) (c : Chip) : shape (cardStatusToken t c) = shape c := by
  unfold cardStatusToken; (repeat' split) <;> simp

@[simp] theorem shape_cardBusyEnd (c : Chip) : shape (cardBusyEnd c) = shape c := by
  unfold cardBusyEnd; (repeat' split) <;> simp

@[simp] theorem shape_cardResponseTimeout (c : Chip) : shape (cardResponseTimeout c) = shape c := by
  unfold cardResponseTimeout; (repeat' split) <;> simp

@[simp] theorem shape_cardBusyTimeout (c : Chip) : shape (cardBusyTimeout c) = shape c := by
  unfold cardBusyTimeout; (repeat' split) <;> simp

@[simp] theorem shape_cardMemoryBusError (c : Chip) : shape (cardMemoryBusError c) = shape c := by
  unfold cardMemoryBusError; (repeat' split) <;> simp

@[simp] theorem shape_thresholdChange (old new : Settings) (k : CounterId) (c : Chip) :
    shape (thresholdChange old new k c) = shape c := by
  unfold thresholdChange
  dsimp only
  (repeat' split) <;> simp [shape, mark]

@[simp] theorem shape_thresholdsSettingsDone (old new : Settings) (c : Chip) :
    shape (thresholdsSettingsDone old new c) = shape c := by
  unfold thresholdsSettingsDone; simp

@[simp] theorem shape_takeFallback (c : Chip) : shape (takeFallback c) = shape c := by
  unfold takeFallback; split <;> simp

@[simp] theorem shape_markFreeSlots (before c : Chip) : shape (markFreeSlots before c) = shape c := by
  unfold markFreeSlots; split <;> simp

@[simp] theorem shape_settingsDone (new : Settings) (c : Chip) : shape (settingsDone new c) = shape c := by
  unfold settingsDone; dsimp only; (repeat' split) <;> simp

@[simp] theorem shape_takeSettings (body : List Byte) (c : Chip) : shape (takeSettings body c) = shape c := by
  unfold takeSettings; dsimp only; (repeat' split) <;> simp

@[simp] theorem shape_placeTables (l : LoadWork) (c : Chip) : shape (placeTables l c) = shape c := by
  unfold placeTables; simp

@[simp] theorem shape_loadRead (ws : List Word) (c : Chip) : shape (loadRead ws c) = shape c := by
  unfold loadRead; dsimp only; (repeat' split) <;> simp

@[simp] theorem shape_loadReadError (c : Chip) : shape (loadReadError c) = shape c := by
  unfold loadReadError; (repeat' split) <;> simp

@[simp] theorem shape_tablesPlace (c : Chip) : shape (tablesPlace c) = shape c := by
  unfold tablesPlace; (repeat' split) <;> simp

@[simp] theorem shape_beginLensService (k : ServiceKind) (c : Chip) : shape (beginLensService k c) = shape c := by
  unfold beginLensService; simp

@[simp] theorem shape_beginFocusPart (k : ServiceKind) (c : Chip) : shape (beginFocusPart k c) = shape c := by
  unfold beginFocusPart; dsimp only; split <;>
    simp only [shape_startHoming, shape_handTarget, shape_unparkRetarget, shape_finishService] <;> rfl

@[simp] theorem shape_zoomPartServed (c : Chip) : shape (zoomPartServed c) = shape c := by
  unfold zoomPartServed; (repeat' split) <;> simp

@[simp] theorem shape_focusPartIdle (fromHoming : Bool) (c : Chip) : shape (focusPartIdle fromHoming c) = shape c := by
  unfold focusPartIdle; (repeat' split) <;> simp

@[simp] theorem shape_endSearchForZoom (q : Request) (c : Chip) : shape (endSearchForZoom q c) = shape c := by
  unfold endSearchForZoom; split <;> simp

@[simp] theorem shape_activate (r : RecordId) (c : Chip) : shape (activate r c) = shape c := by unfold activate; simp

@[simp] theorem shape_newEdition (r : RecordId) (edition : Word) (c : Chip) :
    shape (newEdition r edition c) = shape c := by
  unfold newEdition; simp

@[simp] theorem shape_adoptHeld (r : RecordId) (edition : Word) (q : Request) (d : Detail) (earlier : Bool) (c : Chip) :
    shape (adoptHeld r edition q d earlier c) = shape c := by
  unfold adoptHeld; simp

@[simp] theorem shape_replaceHeld (r : RecordId) (edition : Word) (q : Request) (c : Chip) :
    shape (replaceHeld r edition q c) = shape c := by
  unfold replaceHeld; dsimp only; (repeat' split) <;> simp

@[simp] theorem shape_setScan (f : Scan → Scan) (c : Chip) : shape (setScan f c) = shape c := rfl

@[simp] theorem shape_countTorn (r : RecordId) (c : Chip) : shape (countTorn r c) = shape c := by
  unfold countTorn; simp

@[simp] theorem shape_releaseTableRead (counts : List Half) (c : Chip) :
    shape (releaseTableRead counts c) = shape c := by
  unfold releaseTableRead; split <;> simp

@[simp] theorem shape_beginZoomStep (c : Chip) : shape (beginZoomStep c) = shape c := by
  unfold beginZoomStep; rw [shape_startZoom]; rfl

@[simp] theorem shape_abandonRequest (r : RecordId) (c : Chip) : shape (abandonRequest r c) = shape c := by
  unfold abandonRequest; dsimp only; (repeat' split) <;> simp

@[simp] theorem shape_abandonOrder (c : Chip) : shape (abandonOrder c) = shape c := by
  unfold abandonOrder; dsimp only; (repeat' split) <;> simp

@[simp] theorem shape_abandonRequests (c : Chip) : shape (abandonRequests c) = shape c := by
  simp only [abandonRequests, shape_abandonRequest, shape_abandonOrder]

@[simp] theorem shape_stopLoad (c : Chip) : shape (stopLoad c) = shape c := by unfold stopLoad; split <;> simp

@[simp] theorem shape_stopStreams (c : Chip) : shape (stopStreams c) = shape c := by unfold stopStreams; simp

@[simp] theorem shape_countFrame (c : Chip) : shape (countFrame c) = shape c := by unfold countFrame; simp

@[simp] theorem shape_openFrame (c : Chip) : shape (openFrame c) = shape c := rfl

@[simp] theorem shape_claimFrame (time : Nat) (c : Chip) : shape (claimFrame time c) = shape c := by
  unfold claimFrame; dsimp only; (repeat' split) <;> simp

@[simp] theorem shape_beginCaptureFrame (c : Chip) : shape (beginCaptureFrame c) = shape c := by
  unfold beginCaptureFrame; split <;> simp

@[simp] theorem shape_focusFrameStart (c : Chip) : shape (focusFrameStart c) = shape c := by
  unfold focusFrameStart; split <;> simp

@[simp] theorem shape_focusEntersIdle (fromHoming : Bool) (c : Chip) :
    shape (focusEntersIdle fromHoming c) = shape c := by
  unfold focusEntersIdle; dsimp only; (repeat' split) <;> simp

@[simp] theorem shape_focusStopsWork (c : Chip) : shape (focusStopsWork c) = shape c := by
  unfold focusStopsWork; dsimp only; (repeat' split) <;> simp

@[simp] theorem shape_searchZoomStirred (c : Chip) : shape (searchZoomStirred c) = shape c := by
  unfold searchZoomStirred; split <;> simp

@[simp] theorem shape_tablesReplaced (c : Chip) : shape (tablesReplaced c) = shape c := by
  simp only [tablesReplaced, shape_retargetAgain, shape_endEarly, shape_readGains, shape_readLensCopy,
    shape_focusTablesReplaced, shape_zoomTablesReplaced]

@[simp] theorem shape_blockRestored (b : TableBlock) (c : Chip) : shape (blockRestored b c) = shape c := by
  unfold blockRestored; split <;> simp

@[simp] theorem shape_startRefetch (c : Chip) : shape (startRefetch c) = shape c := by
  unfold startRefetch; (repeat' split) <;> simp

@[simp] theorem shape_refetchRead (words : List Word) (c : Chip) : shape (refetchRead words c) = shape c := by
  unfold refetchRead; split <;> simp

@[simp] theorem shape_refetchReadError (c : Chip) : shape (refetchReadError c) = shape c := by
  unfold refetchReadError; split <;> simp

@[simp] theorem shape_dmaAbandonReport (c : Chip) : shape (dmaAbandonReport c) = shape c := by
  unfold dmaAbandonReport; dsimp only; (repeat' split) <;> simp

@[simp] theorem shape_flkEdge (time : Nat) (c : Chip) : shape (flkEdge time c) = shape c := by
  unfold flkEdge
  dsimp only
  split
  · rfl
  · split
    · rfl
    · rw [shape_setFlickerClass]; rfl

@[simp] theorem shape_focusPulse (time : Nat) (c : Chip) : shape (focusPulse time c) = shape c := by
  unfold focusPulse; dsimp only; (repeat' split) <;> simp

@[simp] theorem shape_dwellEnd (c : Chip) : shape (dwellEnd c) = shape c := by
  unfold dwellEnd
  extract_lets c1
  have hc1 : shape c1 = shape c := by
    simp only [c1]
    split <;> rfl
  (repeat' split) <;> simp [hc1]

@[simp] theorem shape_homeChange (level : SensorLevel) (c : Chip) : shape (homeChange level c) = shape c := by
  unfold homeChange; dsimp only; (repeat' split) <;> simp

/-- The sizes that the tables keep. -/
def sizes : List Nat := [9, 10, 26, 26, 16, 6, 6]

theorem shaped_iff (s : State) : Shaped s ↔ shape s.chip = sizes := by
  simp [Shaped, shape, sizes]

/-! ### Hand-over, events and scans, which CLEAR_COUNTERS can be part of -/

theorem clearCounters_sizes {c : Chip} (h : shape c = sizes) : shape (clearCounters c) = sizes := by
  simp_all [shape, sizes, clearCounters, mark]

theorem takeService_sizes {k : ServiceKind} {c : Chip} (h : shape c = sizes) : shape (takeService k c) = sizes := by
  cases k with
  | clearCounters => simpa [takeService] using clearCounters_sizes h
  | _ => simpa [takeService, beginLensService] using h

theorem deliver_sizes {q : Request} {c : Chip} (h : shape c = sizes) : shape (deliver q c) = sizes := by
  unfold deliver
  split
  case h_9 k => exact takeService_sizes h
  all_goals simpa using h

theorem handOver_sizes {r : RecordId} {q : Request} {c : Chip} (h : shape c = sizes) :
    shape (handOver r q c) = sizes := by
  unfold handOver
  split
  · split <;> simpa using h
  · exact deliver_sizes (by simpa using h)

theorem adopt_sizes {r : RecordId} {e : Word} {q : Request} {c : Chip} (h : shape c = sizes) :
    shape (adopt r e q c) = sizes := by
  unfold adopt
  dsimp only
  split
  · simpa using h
  · split
    · simpa using h
    · exact handOver_sizes (by simpa using h)

theorem readNew_sizes {r : RecordId} {e : Word} {q : Request} {c : Chip} (h : shape c = sizes) :
    shape (readNew r e q c) = sizes := by
  unfold readNew
  split
  · exact adopt_sizes (by split <;> simpa using h)
  · exact h

theorem takeHandHeld_sizes {c : Chip} (h : shape c = sizes) : shape (takeHandHeld c) = sizes := by
  unfold takeHandHeld handNextHeld
  (repeat' split) <;> simp [h, handOver_sizes]

theorem handle_sizes {e : Event} {c : Chip} (h : shape c = sizes) : shape (handle e c) = sizes := by
  cases e with
  | handHeld => exact takeHandHeld_sizes h
  | _ => simpa [handle] using h

theorem drain_sizes {n : Nat} {c : Chip} (h : shape c = sizes) : shape (drain n c) = sizes := by
  induction n generalizing c with
  | zero => exact h
  | succ n ih =>
    unfold drain
    split
    · exact h
    · exact ih (handle_sizes (by simpa using h))

theorem settle_sizes {c : Chip} (h : shape c = sizes) : shape (settle c) = sizes := drain_sizes h

theorem recheckSettings_sizes {c : Chip} (h : shape c = sizes) : shape (recheckSettings c) = sizes := by
  unfold recheckSettings
  dsimp only
  (repeat' split) <;> simp [h, handOver_sizes]

theorem scanBegin_sizes {c : Chip} (h : shape c = sizes) : shape (scanBegin c) = sizes :=
  recheckSettings_sizes (by simpa using h)

theorem scanTrigger_sizes {c : Chip} (h : shape c = sizes) : shape (scanTrigger c) = sizes := by
  unfold scanTrigger
  (repeat' split) <;> simp [h, scanBegin_sizes]

theorem scanEnd_sizes {c : Chip} (h : shape c = sizes) : shape (scanEnd c) = sizes := by
  unfold scanEnd
  dsimp only
  split <;> simp [h, scanBegin_sizes]

theorem idleScanTimer_sizes {c : Chip} (h : shape c = sizes) : shape (idleScanTimer c) = sizes := by
  unfold idleScanTimer
  split <;> simp [h, scanTrigger_sizes]

theorem scanRecordRead_sizes {l t : Word} {body : List Byte} {c : Chip} (h : shape c = sizes) :
    shape (scanRecordRead l body t c) = sizes := by
  unfold scanRecordRead
  dsimp only
  (repeat' split) <;> simp [h, readNew_sizes]

theorem seenTableRead_sizes {counts : List Half} {c : Chip} (h : shape c = sizes) :
    shape (seenTableRead counts c) = sizes := by
  unfold seenTableRead
  split
  · exact scanEnd_sizes h
  · exact h

/-! ### Part faults, start and stop -/

@[simp] theorem shape_partFault (f : FaultCode) (c : Chip) : shape (partFault f c) = shape c := by
  unfold partFault
  dsimp only
  (repeat' split) <;> simp

@[simp] theorem shape_setPort (f : Port → Port) (c : Chip) : shape (setPort f c) = shape c := rfl

@[simp] theorem shape_setPartState (p : PartState) (c : Chip) : shape (setPartState p c) = shape c := by
  simp [setPartState]

@[simp] theorem shape_busWrite (a : Nat) (bs : List Byte) (c : Chip) : shape (busWrite a bs c) = shape c := rfl

@[simp] theorem shape_beginStart (a : Word) (c : Chip) : shape (beginStart a c) = shape c := by
  unfold beginStart clearFault
  split <;> simp

theorem startHeaderRead_sizes {layout : Word} {seen : List Half} {c : Chip} (hseen : seen.length = 10)
    (h : shape c = sizes) : shape (startHeaderRead layout seen c) = sizes := by
  unfold startHeaderRead
  split
  · split
    · refine scanBegin_sizes ?_
      simp_all [shape, sizes, setPartState, mark, setScan, setPort]
    · simpa using h
  · exact h

@[simp] theorem shape_startStepEnd (c : Chip) : shape (startStepEnd c) = shape c := by
  unfold startStepEnd enterRunning
  (repeat' split) <;> simp

@[simp] theorem shape_spoilBuffer (n : Nat) (c : Chip) : shape (spoilBuffer n c) = shape c := rfl

@[simp] theorem shape_abandonDma (c : Chip) : shape (abandonDma c) = shape c := by
  unfold abandonDma
  split <;> rfl

@[simp] theorem shape_enterStopping (c : Chip) : shape (enterStopping c) = shape c := by
  unfold enterStopping
  dsimp only
  (repeat' split) <;> simp

@[simp] theorem shape_writeRun (a : Word) (run : Bool) (c : Chip) : shape (writeRun a run c) = shape c := by
  unfold writeRun clearFault
  dsimp only
  (repeat' split) <;> simp

@[simp] theorem shape_with_finishing (c : Chip) (x : List Bool) :
    shape { c with answers := { c.answers with finishing := x } } = shape c := rfl

@[simp] theorem shape_with_stopping (c : Chip) (x : Pixel) (y : Stab) :
    shape { c with pixel := x, stab := y } = shape c := rfl

@[simp] theorem shape_stopSequenceEnd (a : Word) (c : Chip) : shape (stopSequenceEnd a c) = shape c := by
  unfold stopSequenceEnd enterHalted
  dsimp only
  (repeat' split) <;> simp

theorem areaBusError_sizes {c : Chip} (h : shape c = sizes) : shape (areaBusError c) = sizes := by
  unfold areaBusError
  (repeat' split) <;> simp [h, scanEnd_sizes]

theorem shape_resetChip (zoom focus : Int) (c : Chip) : shape (resetChip zoom focus c) = sizes := rfl

/-! ### The Answer Writer -/

@[simp] theorem shape_answerWritten (c : Chip) : shape (answerWritten c) = shape c := by
  unfold answerWritten
  split <;> rfl

@[simp] theorem shape_answerFailed (c : Chip) : shape (answerFailed c) = shape c := by
  unfold answerFailed
  split
  · rfl
  · dsimp only
    rw [shape_partFault]
    simp [shape]

@[simp] theorem shape_writeNext (c : Chip) : shape (writeNext c) = shape c := by
  unfold writeNext beginWrite
  (repeat' split) <;> simp [shape]

theorem conclude_sizes {c : Chip} (h : shape c = sizes) : shape (conclude c) = sizes := by
  unfold conclude
  rw [shape_writeNext]
  exact (shape_evalFollowing (settle c)).trans (settle_sizes h)

theorem concluded_shaped {c : Chip} (s : State) (h : shape c = sizes) : Shaped (concluded c s) :=
  (shaped_iff _).mpr (conclude_sizes h)

/-! ### Frames -/

@[simp] theorem shape_truncateFrame (f : OpenFrame) (c : Chip) : shape (truncateFrame f c) = shape c := by
  unfold truncateFrame
  dsimp only
  (repeat' split) <;> simp

@[simp] theorem shape_truncateOpen (c : Chip) : shape (truncateOpen c) = shape c := by
  unfold truncateOpen
  split <;> simp

theorem takeFrameStart_sizes {time : Nat} {c : Chip} (h : shape c = sizes) : shape (takeFrameStart time c) = sizes :=
  scanTrigger_sizes (by simpa using h)

theorem frameStart_sizes {time : Nat} {upsets : List Upset} {c : Chip} (h : shape c = sizes) :
    shape (frameStart settle time upsets c) = sizes := by
  unfold frameStart
  extract_lets c1
  have hc1 : shape c1 = sizes := h
  (repeat' split) <;> simp [hc1, takeFrameStart_sizes, settle_sizes]

theorem takeNextStart_sizes {waited : Option Nat} {c : Chip} (h : shape c = sizes) :
    shape (takeNextStart settle waited c) = sizes := by
  unfold takeNextStart
  dsimp only
  (repeat' split) <;> simp [h, takeFrameStart_sizes, settle_sizes]

theorem cutFrame_sizes {c : Chip} (h : shape c = sizes) : shape (cutFrame settle c) = sizes :=
  takeNextStart_sizes (by simpa using h)

@[simp] theorem shape_captureFrameEnd (f : OpenFrame) (frame : List (List Nat)) (dma : Dma) (c : Chip) :
    shape (captureFrameEnd f frame dma c) = shape c := by
  unfold captureFrameEnd
  dsimp only
  (repeat' split) <;> simp

@[simp] theorem shape_completeFrame (f : OpenFrame) (lines : List (List (BitVec 12))) (c : Chip) :
    shape (completeFrame f lines c) = shape c := by
  unfold completeFrame
  dsimp only
  split <;> simp

theorem frameEnd_sizes {lines : List (List (BitVec 12))} {written : Bool} {c : Chip} (h : shape c = sizes) :
    shape (frameEnd settle lines written c) = sizes := by
  unfold frameEnd receiveFrame
  (repeat' split) <;> simp [h, takeNextStart_sizes]

@[simp] theorem shape_dmaBusError (c : Chip) : shape (dmaBusError c) = shape c := by
  unfold dmaBusError
  split <;> rfl

@[simp] theorem shape_cardReadBlock (crcOk : Bool) (data : List Byte) (c : Chip) :
    shape (cardReadBlock crcOk data c) = shape c := by
  unfold cardReadBlock
  (repeat' split) <;> simp

/-! ### The obligation -/

theorem halvesOf_length (bs : List Byte) : (halvesOf bs).length = bs.length / 2 := by
  induction bs using halvesOf.induct with
  | case1 b0 b1 rest ih =>
    simp only [halvesOf, List.length_cons, ih]
    omega
  | case2 bs h =>
    match bs, h with
    | [], _ => rfl
    | [_], _ => simp [halvesOf]
    | b0 :: b1 :: rest, h => exact absurd rfl (h b0 b1 rest)

/-- A write of AREA_BASE leaves the part. -/
theorem exec_areaBaseWrite (v : Word) (s : State) : ∃ a, exec (.areaBaseWrite v) s = .next { s with areaBase := a } := by
  show ∃ a, Host.Outcome.next (if s.chip.port.partState = .halted then { s with areaBase := alignedBase v } else s)
    = .next { s with areaBase := a }
  split
  · exact ⟨alignedBase v, rfl⟩
  · exact ⟨s.areaBase, rfl⟩

theorem exec_sizes {i : Instr} {s : State} (hi : i.wellFormed = true) (h : shape s.chip = sizes) :
    (∃ f a, exec i s = commit f { s with areaBase := a } ∧ shape (f s.chip) = sizes)
      ∨ ∃ a, exec i s = .next { s with areaBase := a } := by
  cases i with
  | areaBaseWrite v =>
    exact .inr (exec_areaBaseWrite v s)
  | registerWriteIgnored r v => exact .inr ⟨s.areaBase, rfl⟩
  | startHeaderRead layout seen =>
    have hlength : seen.length = 20 := by simp [Instr.wellFormed] at hi; exact hi.2
    exact .inl ⟨_, s.areaBase, rfl, startHeaderRead_sizes (by rw [halvesOf_length, hlength]) h⟩
  | powerOnReset => exact .inl ⟨_, 0, rfl, rfl⟩
  | softReset => exact .inl ⟨_, s.areaBase, rfl, rfl⟩
  | scanRecordRead => exact .inl ⟨_, s.areaBase, rfl, scanRecordRead_sizes h⟩
  | seenCountRead => exact .inl ⟨_, s.areaBase, rfl, seenTableRead_sizes h⟩
  | idleScanTimer => exact .inl ⟨_, s.areaBase, rfl, idleScanTimer_sizes h⟩
  | nudge run => exact .inl ⟨_, s.areaBase, rfl, scanTrigger_sizes (by simpa using h)⟩
  | areaBusError => exact .inl ⟨_, s.areaBase, rfl, areaBusError_sizes h⟩
  | frameStart => exact .inl ⟨_, s.areaBase, rfl, frameStart_sizes h⟩
  | frameEnd => exact .inl ⟨_, s.areaBase, rfl, frameEnd_sizes h⟩
  | frameTruncated | truncationTimeout => exact .inl ⟨_, s.areaBase, rfl, cutFrame_sizes h⟩
  | settings | rehomeLens | park | unpark | clearCounters | clearFlags | restartStabilizer | restartCard | zoomGoto
  | zoomGotoZone | zoomRun | zoomStop | setDistance | resumeTracking | search | continuousOn | exposureAuto | exposureLock
  | exposureManual | capturePrepare | startBurst | captureStop | space | spare | cardOrder =>
    exact .inl ⟨_, s.areaBase, rfl, readNew_sizes h⟩
  | _ => exact .inl ⟨_, s.areaBase, rfl, by simpa using h⟩

/-- Settles O10: with CLEAR_COUNTERS and the operand of a start's header read aside, no operation changes a length. -/
theorem tablesKeepTheirSizes : Obligations.TablesKeepTheirSizes := by
  unfold Obligations.TablesKeepTheirSizes
  intro i s t hi hs h
  have hshape := (shaped_iff s).mp hs
  obtain ⟨f, a, hcommit, hf⟩ | ⟨a, hwrite⟩ := exec_sizes hi hshape
  · rw [hcommit, commit_eq] at h
    cases h
    exact concluded_shaped _ hf
  · rw [hwrite] at h
    cases h
    exact hs

end Sys2Proof.Proofs.Shapes
end

section
/-! PROOFS. What a command leaves of the part and of memory: the part state, the RUN field, the fault code and the Common Area
in use (R1, R2, R5, R15), the bytes of memory outside what it stores (R12, R36), and the two resets (R18). -/

namespace Sys2Proof.Proofs.PartFrame

-- One elaboration thread at a time: each waiting thread reserves a stack, and the text is long.
set_option Elab.async false

open Sys2Proof Sys2Proof.Machine Sys2Proof.Proofs.Shapes

/-! ### What the blocks leave -/

@[simp] theorem outer_dmaAbandonReport (c : Chip) : Laws.outer (dmaAbandonReport c) = Laws.outer c := by
  unfold dmaAbandonReport
  dsimp only
  (repeat' split) <;> simp

@[simp] theorem outer_flkEdge (time : Nat) (c : Chip) : Laws.outer (flkEdge time c) = Laws.outer c := by
  unfold flkEdge
  dsimp only
  split
  · rfl
  · split
    · rfl
    · rw [Laws.outer_setFlickerClass]
      rfl

@[simp] theorem outer_focusPulse (time : Nat) (c : Chip) : Laws.outer (focusPulse time c) = Laws.outer c := by
  unfold focusPulse
  dsimp only
  (repeat' split) <;> simp

@[simp] theorem outer_dwellEnd (c : Chip) : Laws.outer (dwellEnd c) = Laws.outer c := by
  unfold dwellEnd
  extract_lets c1
  have hc1 : Laws.outer c1 = Laws.outer c := by
    simp only [c1]
    split <;> rfl
  (repeat' split) <;> simp [hc1]

@[simp] theorem outer_homeChange (level : SensorLevel) (c : Chip) : Laws.outer (homeChange level c) = Laws.outer c := by
  unfold homeChange
  dsimp only
  (repeat' split) <;> simp

/-- A command that neither changes the part state, the RUN field or the Common Area in use, nor stores bytes, nor meets a bus
error, nor reads the seen counts leaves all that the blocks leave. -/
theorem exec_outer {i : Instr} (s : State) (hpart : Said.changesPart i = false) (hstores : Said.stores i = false)
    (harea : i ≠ .areaBusError) (hseen : ∀ counts, i ≠ .seenCountRead counts) :
    (∃ f, exec i s = commit f s ∧ Laws.outer (f s.chip) = Laws.outer s.chip)
      ∨ ∃ a, exec i s = .next { s with areaBase := a } := by
  cases i with
  | areaBaseWrite v => exact .inr (exec_areaBaseWrite v s)
  | registerWriteIgnored r v => exact .inr ⟨s.areaBase, rfl⟩
  | areaBusError => exact absurd rfl harea
  | seenCountRead counts => exact absurd rfl (hseen counts)
  | powerOnReset | softReset | runWrite | nudge | startHeaderRead | startStepEnd | stopSequenceEnd => cases hpart
  | answerRecordWrite | answerBusError | frameStart | frameEnd | frameTruncated | truncationTimeout | dmaBusError
  | cardReadBlock => cases hstores
  | _ => exact .inl ⟨_, rfl, by simp⟩

/-! ### Part state, RUN, fault code and Common Area in use -/

/-- The part state, the RUN field, the fault code and the Common Area in use. -/
def portView (c : Chip) : PartState × Bool × FaultCode × Word :=
  (c.port.partState, c.port.run, c.port.fault, c.port.areaInUse)

theorem portView_of_outer {c d : Chip} (h : Laws.outer d = Laws.outer c) : portView d = portView c := by
  simp only [Laws.outer, Prod.mk.injEq] at h
  obtain ⟨hpartState, hrun, hfault, harea, -⟩ := h
  simp only [portView, hpartState, hrun, hfault, harea]

theorem concluded_portView (c : Chip) (s : State) : portView (concluded c s).chip = portView c := by
  obtain ⟨hpartState, hrun, hfault, harea, -⟩ := conclude_port c
  simp only [portView, concluded_chip, hpartState, hrun, hfault, harea]

/-- A truncation or a reset while the DMA runs leaves the slot buffer undefined (R37). -/
def spoilFrameSlot (f : OpenFrame) (c : Chip) : Chip :=
  match f.captureSlot, c.pixel.dma with
  | some n, .running => spoilBuffer n c
  | _, _ => c

/-- Beside the slot buffer a truncation leaves all that the blocks leave. -/
theorem outer_truncateFrame (f : OpenFrame) (c : Chip) :
    Laws.outer (truncateFrame f c) = Laws.outer (spoilFrameSlot f c) := by
  unfold truncateFrame
  extract_lets c1 c2
  have hc1 : c1 = spoilFrameSlot f c := rfl
  have hc2 : Laws.outer c2 = Laws.outer c1 := by simp [c2]
  rw [← hc1, ← hc2]
  split
  · rfl
  · split
    · rfl
    · simp

theorem portView_spoilFrameSlot (f : OpenFrame) (c : Chip) : portView (spoilFrameSlot f c) = portView c := by
  unfold spoilFrameSlot
  split <;> rfl

theorem portView_truncateFrame (f : OpenFrame) (c : Chip) : portView (truncateFrame f c) = portView c :=
  (portView_of_outer (outer_truncateFrame f c)).trans (portView_spoilFrameSlot f c)

theorem portView_truncateOpen (c : Chip) : portView (truncateOpen c) = portView c := by
  unfold truncateOpen
  split
  · rfl
  · exact portView_truncateFrame _ c

theorem outer_takeFrameStart (time : Nat) (c : Chip) : Laws.outer (takeFrameStart time c) = Laws.outer c := by
  simp [takeFrameStart]

theorem portView_settle (c : Chip) : portView (settle c) = portView c := portView_of_outer (outer_settle c)

theorem portView_takeFrameStart (time : Nat) (c : Chip) : portView (takeFrameStart time c) = portView c :=
  portView_of_outer (outer_takeFrameStart time c)

theorem portView_frameStart (time : Nat) (upsets : List Upset) (c : Chip) :
    portView (frameStart settle time upsets c) = portView c := by
  unfold frameStart
  extract_lets c1
  have hc1 : portView c1 = portView c := rfl
  split
  · split
    · rw [portView_takeFrameStart, hc1]
    · split
      · exact hc1
      · split
        · rw [portView_truncateOpen, hc1]
        · rw [portView_takeFrameStart, portView_settle, portView_truncateOpen, hc1]
  · exact hc1

/-- The frame start that a frame end raises leaves all that the blocks leave. -/
theorem outer_takeNextStart (waited : Option Nat) (c : Chip) :
    Laws.outer (takeNextStart settle waited c) = Laws.outer c := by
  unfold takeNextStart
  split
  · rfl
  · dsimp only
    split
    · rw [outer_takeFrameStart, outer_settle]
    · exact outer_settle c

/-- The bytes of a complete capture frame go into its slot buffer while the DMA runs (R36). -/
def storeFrame (f : OpenFrame) (frame : List (List Nat)) (dma : Dma) (c : Chip) : Chip :=
  match f.captureSlot, dma with
  | some n, .running => busWrite (slotBase c n) (packFrame frame) c
  | _, _ => c

theorem portView_storeFrame (f : OpenFrame) (frame : List (List Nat)) (dma : Dma) (c : Chip) :
    portView (storeFrame f frame dma c) = portView c := by
  unfold storeFrame
  split <;> rfl

theorem outer_captureFrameEnd (f : OpenFrame) (frame : List (List Nat)) (dma : Dma) (c : Chip) :
    Laws.outer (captureFrameEnd f frame dma c) = Laws.outer (storeFrame f frame dma c) := by
  unfold captureFrameEnd storeFrame
  cases f.captureSlot with
  | none => rfl
  | some n => cases dma <;> simp

/-- Beside the frame's bytes a complete frame leaves all that the blocks leave. -/
theorem outer_completeFrame (f : OpenFrame) (lines : List (List (BitVec 12))) (c : Chip) :
    Laws.outer (completeFrame f lines c) = Laws.outer (storeFrame f (activeFrame f.width f.height lines) c.pixel.dma
      (meterFrame f (zoneMeans f.geometry (activeFrame f.width f.height lines))
        (setPixel (fun p => { p with frame := none, nextStart := none, dma := dmaAfterFrame p.dma }) c))) := by
  rw [← outer_captureFrameEnd]
  unfold completeFrame
  dsimp only
  split <;> simp

theorem portView_completeFrame (f : OpenFrame) (lines : List (List (BitVec 12))) (c : Chip) :
    portView (completeFrame f lines c) = portView c := by
  refine (portView_of_outer (outer_completeFrame f lines c)).trans ((portView_storeFrame _ _ _ _).trans ?_)
  exact portView_of_outer (by simp)

theorem portView_frameEnd (lines : List (List (BitVec 12))) (written : Bool) (c : Chip) :
    portView (frameEnd settle lines written c) = portView c := by
  unfold frameEnd receiveFrame
  split
  · rfl
  · split
    · split
      · exact (portView_of_outer (outer_takeNextStart _ _)).trans (portView_completeFrame _ _ c)
      · rfl
    · split
      · split
        · rfl
        · exact portView_completeFrame _ _ c
      · exact portView_truncateFrame _ c

theorem portView_cutFrame (c : Chip) : portView (cutFrame settle c) = portView c :=
  (portView_of_outer (outer_takeNextStart _ _)).trans (portView_truncateOpen c)

theorem portView_cardReadBlock (crcOk : Bool) (data : List Byte) (c : Chip) :
    portView (cardReadBlock crcOk data c) = portView c := by
  unfold cardReadBlock
  split
  · rfl
  · next r hr =>
    split
    · split
      · exact (portView_of_outer (Laws.outer_nextBlock .block
          (busWrite (r.address + 512 * r.block) (data.take 512) c))).trans rfl
      · exact portView_of_outer (Laws.outer_endRunEarly _ c)
    · rfl

theorem portView_answerWritten (c : Chip) : portView (answerWritten c) = portView c := by
  unfold answerWritten
  split <;> rfl

theorem portView_dmaBusError (c : Chip) : portView (dmaBusError c) = portView c := by
  unfold dmaBusError
  split <;> rfl

theorem portView_seenTableRead (counts : List Half) (c : Chip) : portView (seenTableRead counts c) = portView c := by
  unfold seenTableRead
  split
  · exact (portView_of_outer (Laws.outer_scanEnd _)).trans rfl
  · rfl

/-- A part-level fault shows its code and leaves the part state, the RUN field and the Common Area in use. -/
theorem portView_partFault (f : FaultCode) (c : Chip) :
    portView (partFault f c) = (c.port.partState, c.port.run, f, c.port.areaInUse) := by
  unfold partFault
  dsimp only
  by_cases hf : c.port.fault = f
  · simp only [hf, if_true]
    split <;> simp [portView, hf]
  · simp only [hf, if_false]
    split <;> simp [portView]

theorem portView_areaBusError (c : Chip) : ∃ f, portView (areaBusError c)
    = (c.port.partState, c.port.run, f, c.port.areaInUse) := by
  unfold areaBusError
  split
  · exact ⟨_, portView_partFault _ _⟩
  · split
    · exact ⟨_, (portView_of_outer (Laws.outer_scanEnd _)).trans (portView_partFault _ c)⟩
    · exact ⟨_, rfl⟩

theorem portView_answerFailed (c : Chip) : ∃ f, portView (answerFailed c)
    = (c.port.partState, c.port.run, f, c.port.areaInUse) := by
  unfold answerFailed
  split
  · exact ⟨_, rfl⟩
  · exact ⟨_, portView_partFault _ _⟩

/-- The command commits an effect that leaves the part state, the RUN field and the Common Area in use, and the fault code but
for the two bus errors; or it is a register write that leaves the part. -/
theorem exec_portView {i : Instr} (s : State) (hpart : Said.changesPart i = false) :
    (∃ f code, exec i s = commit f s
        ∧ portView (f s.chip) = (s.chip.port.partState, s.chip.port.run, code, s.chip.port.areaInUse)
        ∧ (i ≠ .areaBusError → i ≠ .answerBusError → code = s.chip.port.fault))
      ∨ ∃ a, exec i s = .next { s with areaBase := a } := by
  have kept : ∀ f, exec i s = commit f s → portView (f s.chip) = portView s.chip →
      ∃ f code, exec i s = commit f s
        ∧ portView (f s.chip) = (s.chip.port.partState, s.chip.port.run, code, s.chip.port.areaInUse)
        ∧ (i ≠ .areaBusError → i ≠ .answerBusError → code = s.chip.port.fault) :=
    fun f hexec hview => ⟨f, _, hexec, hview, fun _ _ => rfl⟩
  cases i with
  | answerRecordWrite => exact .inl (kept _ rfl (portView_answerWritten _))
  | seenCountRead => exact .inl (kept _ rfl (portView_seenTableRead _ _))
  | frameStart => exact .inl (kept _ rfl (portView_frameStart _ _ _))
  | frameEnd => exact .inl (kept _ rfl (portView_frameEnd _ _ _))
  | frameTruncated | truncationTimeout => exact .inl (kept _ rfl (portView_cutFrame _))
  | dmaBusError => exact .inl (kept _ rfl (portView_dmaBusError _))
  | cardReadBlock => exact .inl (kept _ rfl (portView_cardReadBlock _ _ _))
  | areaBusError =>
    obtain ⟨code, hview⟩ := portView_areaBusError s.chip
    exact .inl ⟨_, code, rfl, hview, fun h => absurd rfl h⟩
  | answerBusError =>
    obtain ⟨code, hview⟩ := portView_answerFailed s.chip
    exact .inl ⟨_, code, rfl, hview, fun _ h => absurd rfl h⟩
  | powerOnReset | softReset | runWrite | nudge | startHeaderRead | startStepEnd | stopSequenceEnd => cases hpart
  | _ =>
    obtain ⟨f, hexec, houter⟩ | hwrite := exec_outer s hpart rfl (by simp) (by simp)
    · exact .inl (kept f hexec (portView_of_outer houter))
    · exact .inr hwrite

/-- Settles O4. -/
theorem partStateFrame : Obligations.PartStateFrame := by
  unfold Obligations.PartStateFrame
  intro i s t hpart h
  obtain ⟨f, code, hexec, hview, hcode⟩ | ⟨a, hwrite⟩ := exec_portView s hpart
  · rw [hexec, commit_eq] at h
    cases h
    have hport := (concluded_portView (f s.chip) s).trans hview
    simp only [portView, Prod.mk.injEq] at hport
    obtain ⟨hpartState, hrun, hfault, harea⟩ := hport
    exact ⟨hpartState, hrun, harea, fun h1 h2 => hfault.trans (hcode h1 h2)⟩
  · rw [hwrite] at h
    cases h
    exact ⟨rfl, rfl, rfl, fun _ _ => rfl⟩

end Sys2Proof.Proofs.PartFrame
end

section
/-! PROOFS. The bytes of memory that a command leaves (R12, R36, R37): what its own effect puts on the bus, and the leading stamp
of the record write that begins at its end. -/

namespace Sys2Proof.Proofs.MemoryFrame

-- One elaboration thread at a time: each waiting thread reserves a stack, and the text is long.
set_option Elab.async false

open Sys2Proof Sys2Proof.Machine Sys2Proof.Proofs.Shapes Sys2Proof.Proofs.PartFrame

/-! ### The end of a command -/

/-- Byte `a` is none of the leading stamp of record `w`, under the Common Area in use at `area`. -/
def OutsideStamp (area : Word) (w : AnswerWrite) (a : Nat) : Prop :=
  a < area.toNat + 4096 + answerOffset w.record ∨ area.toNat + 4096 + answerOffset w.record + 4 ≤ a

theorem writeAll_append (m : List Host.Cell) (ws vs : List (Nat × List Byte)) :
    Memory.writeAll m (ws ++ vs) = Memory.writeAll (Memory.writeAll m ws) vs := by
  induction ws generalizing m with
  | nil => rfl
  | cons w ws ih => exact ih _

/-- The next record write puts its leading stamp on the bus, or nothing begins. -/
theorem writeNext_cases (c : Chip) :
    writeNext c = c ∨ ∃ i, c.answers.inFlight = none ∧ writeNext c = beginWrite i c := by
  unfold writeNext
  split
  · exact .inl rfl
  · next hfree =>
    split
    · next i _ => exact .inr ⟨i, by simpa using hfree, rfl⟩
    · exact .inl rfl

/-- The part as the next record write finds it: the events taken, the parts of LENS and the notice lines up to date. -/
def beforeWrite (c : Chip) : Chip := evalLines (takeLensParts (evalFollowing (settle c)))

theorem beforeWrite_bus (c : Chip) :
    (beforeWrite c).busOut = c.busOut ∧ (beforeWrite c).answers.inFlight = c.answers.inFlight
      ∧ (beforeWrite c).port.areaInUse = c.port.areaInUse := by
  have h : Laws.outer (evalFollowing (settle c)) = Laws.outer c := (Laws.outer_evalFollowing _).trans (outer_settle c)
  simp only [Laws.outer, Prod.mk.injEq] at h
  obtain ⟨-, -, -, harea, -, hbus, hflight, -⟩ := h
  exact ⟨hbus, hflight, harea⟩

/-- Outside the leading stamp of a write that begins, memory after a command is what its own bus writes make it. -/
theorem concluded_read (c : Chip) (s : State) (a : Nat)
    (h : ∀ w, c.answers.inFlight = none → (concluded c s).chip.answers.inFlight = some w →
      OutsideStamp (concluded c s).chip.port.areaInUse w a) :
    Memory.read (concluded c s).memory a = Memory.read (Memory.writeAll s.memory c.busOut) a := by
  have hconclude : conclude c = writeNext (beforeWrite c) := rfl
  obtain ⟨hbus, hflight, -⟩ := beforeWrite_bus c
  rw [concluded_memory, hconclude]
  obtain hsame | ⟨i, hfree, hbegin⟩ := writeNext_cases (beforeWrite c)
  · rw [hsame, hbus]
  · have hinFlight : (concluded c s).chip.answers.inFlight
        = some ⟨answerAt i, (beforeWrite c).answers.stamps.getD i 0 + 1, answerBody (answerAt i) (beforeWrite c)⟩ := by
      rw [concluded_chip, hconclude, hbegin]
      rfl
    have harea : (concluded c s).chip.port.areaInUse = (beforeWrite c).port.areaInUse := by
      rw [concluded_chip, hconclude, hbegin]
      rfl
    have hout := h _ (hflight ▸ hfree) hinFlight
    rw [hbegin]
    show Memory.read (Memory.writeAll s.memory ((beforeWrite c).busOut ++ [_])) a = _
    rw [writeAll_append, hbus]
    refine Memory.read_write_outside _ _ _ _ ?_
    rw [harea] at hout
    exact hout

/-! ### Commands that store nothing -/

/-- The bus writes of a command so far, and the record write in flight. -/
def busView (c : Chip) : List (Nat × List Byte) × Option AnswerWrite := (c.busOut, c.answers.inFlight)

theorem busView_of_outer {c d : Chip} (h : Laws.outer d = Laws.outer c) : busView d = busView c := by
  simp only [Laws.outer, Prod.mk.injEq] at h
  obtain ⟨-, -, -, -, -, hbus, hflight, -⟩ := h
  simp only [busView, hbus, hflight]

theorem busView_partFault (f : FaultCode) (c : Chip) : busView (partFault f c) = busView c := by
  unfold partFault
  dsimp only
  (repeat' split) <;> rfl

theorem busView_setPartState (p : PartState) (c : Chip) : busView (setPartState p c) = busView c := rfl

theorem busView_beginStart (area : Word) (c : Chip) : busView (beginStart area c) = busView c := by
  unfold beginStart clearFault
  split <;> rfl

theorem busView_areaBusError (c : Chip) : busView (areaBusError c) = busView c := by
  unfold areaBusError
  split
  · exact busView_partFault _ _
  · split
    · exact (busView_of_outer (Laws.outer_scanEnd _)).trans (busView_partFault _ c)
    · rfl

theorem busView_seenTableRead (counts : List Half) (c : Chip) : busView (seenTableRead counts c) = busView c := by
  unfold seenTableRead
  split
  · exact (busView_of_outer (Laws.outer_scanEnd _)).trans rfl
  · rfl

theorem busView_startHeaderRead (layout : Word) (seen : List Half) (c : Chip) :
    busView (startHeaderRead layout seen c) = busView c := by
  unfold startHeaderRead
  split
  · split
    · exact (busView_of_outer (Laws.outer_scanBegin _)).trans rfl
    · exact busView_partFault _ _
  · rfl

theorem busView_enterRunning (c : Chip) : busView (enterRunning c) = busView c := by
  unfold enterRunning
  extract_lets c1
  have hc1 : busView c1 = busView c := rfl
  exact (busView_of_outer (by simp)).trans hc1

theorem busView_startStepEnd (c : Chip) : busView (startStepEnd c) = busView c := by
  unfold startStepEnd
  split
  · rfl
  · rfl
  · split
    · exact (busView_of_outer (Laws.outer_startHoming _ _)).trans rfl
    · rfl
  · split
    · exact (busView_of_outer (by simp)).trans
        (rfl : busView (setPort (fun p => { p with startStep := .streams }) c) = busView c)
    · rfl
  · split
    · exact busView_enterRunning c
    · rfl

theorem busView_stopSequenceEnd (area : Word) (c : Chip) : busView (stopSequenceEnd area c) = busView c := by
  have restart : ∀ d : Chip, busView (if d.port.run then beginStart area d else d) = busView d := fun d => by
    split
    · exact busView_beginStart area d
    · rfl
  have ended : busView (setControl (fun k => { k with due := false }) (stopExposure (resetFlicker (abortRefetch
      (setScan (fun s => { s with active := false }) c))))) = busView c := busView_of_outer (by simp)
  unfold stopSequenceEnd
  split
  · exact (restart _).trans ended
  · rfl

theorem exec_busView {i : Instr} (s : State) (hstores : Said.stores i = false) :
    (∃ f, exec i s = commit f s ∧ busView (f s.chip) = busView s.chip) ∨ ∃ a, exec i s = .next { s with areaBase := a } := by
  cases i with
  | startHeaderRead => exact .inl ⟨_, rfl, busView_startHeaderRead _ _ _⟩
  | areaBusError => exact .inl ⟨_, rfl, busView_areaBusError _⟩
  | startStepEnd => exact .inl ⟨_, rfl, busView_startStepEnd _⟩
  | stopSequenceEnd => exact .inl ⟨_, rfl, busView_stopSequenceEnd _ _⟩
  | seenCountRead => exact .inl ⟨_, rfl, busView_seenTableRead _ _⟩
  | powerOnReset | softReset | runWrite | nudge | answerRecordWrite | answerBusError | frameStart | frameEnd
  | frameTruncated | truncationTimeout | dmaBusError | cardReadBlock => cases hstores
  | _ =>
    obtain ⟨f, hexec, houter⟩ | hwrite := exec_outer s rfl hstores (by simp) (by simp)
    · exact .inl ⟨f, hexec, busView_of_outer houter⟩
    · exact .inr hwrite

/-- Settles O5. -/
theorem memoryFrame : Obligations.MemoryFrame := by
  unfold Obligations.MemoryFrame
  intro i s t hstores hbus h a hstamp
  obtain ⟨f, hexec, hview⟩ | ⟨b, hwrite⟩ := exec_busView s hstores
  · rw [hexec, commit_eq] at h
    cases h
    simp only [busView, Prod.mk.injEq] at hview
    obtain ⟨hbusOut, hflight⟩ := hview
    rw [concluded_read _ _ _ (fun w hw => hstamp w (hflight ▸ hw)), hbusOut, hbus]
    rfl
  · rw [hwrite] at h
    cases h
    rfl

/-! ### Commands that store into the slot being filled -/

theorem freeBytes_length (i n : Nat) : (freeBytes i n).length = n := by
  induction n generalizing i with
  | zero => rfl
  | succ n ih => simp [freeBytes, ih]

theorem packLine_length (l : List Nat) : (packLine l).length = 3 * (l.length / 2) := by
  induction l using packLine.induct with
  | case1 a b rest ih =>
    simp only [packLine, packPair, List.length_append, List.length_cons, List.length_nil, ih]
    omega
  | case2 l h =>
    match l, h with
    | [], _ => rfl
    | [_], _ => simp [packLine]
    | a :: b :: rest, h => exact absurd rfl (h a b rest)

theorem flatMap_length_le {ls : List (List Nat)} {n : Nat} (h : ∀ l ∈ ls, (packLine l).length ≤ n) :
    (ls.flatMap packLine).length ≤ ls.length * n := by
  induction ls with
  | nil => simp
  | cons l ls ih =>
    have hl := h l (List.mem_cons_self ..)
    have hls := ih fun k hk => h k (List.mem_cons_of_mem _ hk)
    simp only [List.flatMap_cons, List.length_append, List.length_cons, Nat.succ_mul]
    omega

/-- A packed frame is at most the frame bytes of its width and height. -/
theorem packFrame_length_le (width height : Nat) (lines : List (List (BitVec 12))) :
    (packFrame (activeFrame width height lines)).length ≤ width * height * 3 / 2 := by
  have hline : ∀ l ∈ activeFrame width height lines, (packLine l).length ≤ 3 * (width / 2) := by
    intro l hl
    obtain ⟨k, -, rfl⟩ := List.mem_map.mp hl
    simp only [packLine_length, List.length_map, List.length_take]
    omega
  have hcount : (activeFrame width height lines).length ≤ height := by
    rw [activeFrame, List.length_map, List.length_take]
    exact Nat.min_le_left _ _
  have hhalf : 2 * (width / 2) ≤ width := by omega
  rw [Nat.le_div_iff_mul_le (by decide)]
  calc (packFrame (activeFrame width height lines)).length * 2
      ≤ height * (3 * (width / 2)) * 2 :=
        Nat.mul_le_mul_right 2 (Nat.le_trans (flatMap_length_le hline) (Nat.mul_le_mul_right _ hcount))
    _ = 2 * (width / 2) * height * 3 := by ac_rfl
    _ ≤ width * height * 3 := Nat.mul_le_mul_right 3 (Nat.mul_le_mul_right height hhalf)

/-- The size of the buffer that `Said.inBuffer` speaks of. -/
def bufferSize (c : Chip) : Nat :=
  max (frameBytes (cfg c).sensor) (match c.pixel.frame with
    | some f => f.width * f.height * 3 / 2
    | none => 0)

theorem inBuffer_iff (c : Chip) (n a : Nat) :
    Said.inBuffer c n a ↔ slotBase c n ≤ a ∧ a < slotBase c n + bufferSize c := Iff.rfl

/-- Slot `n` is being filled. -/
def Filling (c : Chip) (n : Nat) : Prop :=
  c.capture.filling = some n ∨ ∃ f, c.pixel.frame = some f ∧ f.captureSlot = some n

/-- What came on the bus between `c` and `d` is nothing, or bytes of the buffer of a slot being filled in `c`. -/
def StoresInBuffer (c d : Chip) : Prop :=
  d.busOut = c.busOut
    ∨ ∃ n bs, Filling c n ∧ bs.length ≤ bufferSize c ∧ d.busOut = c.busOut ++ [(slotBase c n, bs)]

/-- What decides where a frame's bytes go, and what has come on the bus. -/
def bufferView (c : Chip) : Option Settings × Option OpenFrame × Option Nat × List (Nat × List Byte) :=
  (c.settings, c.pixel.frame, c.capture.filling, c.busOut)

theorem StoresInBuffer.of_view {c c' d : Chip} (h : StoresInBuffer c' d) (hview : bufferView c' = bufferView c) :
    StoresInBuffer c d := by
  simp only [bufferView, Prod.mk.injEq] at hview
  obtain ⟨hsettings, hframe, hfilling, hbus⟩ := hview
  unfold StoresInBuffer Filling bufferSize slotBase cfg at h ⊢
  rwa [hsettings, hframe, hfilling, hbus] at h

theorem StoresInBuffer.trans_bus {c d e : Chip} (h : StoresInBuffer c d) (hbus : e.busOut = d.busOut) :
    StoresInBuffer c e := by
  unfold StoresInBuffer at h ⊢
  rwa [hbus]

theorem busOut_of_outer {c d : Chip} (h : Laws.outer d = Laws.outer c) : d.busOut = c.busOut :=
  congrArg (·.1) (busView_of_outer h)

theorem spoilBuffer_stores {c : Chip} {n : Nat} (h : Filling c n) : StoresInBuffer c (spoilBuffer n c) := by
  refine .inr ⟨n, _, h, ?_, rfl⟩
  rw [freeBytes_length]
  unfold openFrameBytes bufferSize
  cases c.pixel.frame with
  | some f => exact Nat.le_max_right _ _
  | none => exact Nat.le_max_left _ _

theorem truncateFrame_stores {c : Chip} {f : OpenFrame} (hf : c.pixel.frame = some f) :
    StoresInBuffer c (truncateFrame f c) := by
  refine StoresInBuffer.trans_bus ?_ (busOut_of_outer (outer_truncateFrame f c))
  unfold spoilFrameSlot
  split
  · next n hslot hdma => exact spoilBuffer_stores (.inr ⟨f, hf, hslot⟩)
  · exact .inl rfl

theorem truncateOpen_stores (c : Chip) : StoresInBuffer c (truncateOpen c) := by
  unfold truncateOpen
  split
  · exact .inl rfl
  · next f hf => exact truncateFrame_stores hf

theorem frameStart_stores (time : Nat) (upsets : List Upset) (c : Chip) :
    StoresInBuffer c (frameStart settle time upsets c) := by
  unfold frameStart
  extract_lets c1
  have hview : bufferView c1 = bufferView c := rfl
  refine StoresInBuffer.of_view ?_ hview
  split
  · split
    · exact .inl (busOut_of_outer (outer_takeFrameStart time c1))
    · split
      · exact .inl rfl
      · split
        · exact truncateOpen_stores c1
        · exact (truncateOpen_stores c1).trans_bus
            ((busOut_of_outer (outer_takeFrameStart time _)).trans (busOut_of_outer (outer_settle _)))
  · exact .inl rfl

/-! The bytes of a complete frame. -/

theorem setExposure_settings (f : Exposure → Exposure) (c : Chip) : (setExposure f c).settings = c.settings := by
  unfold setExposure followApplied
  dsimp only
  (repeat' split) <;> rfl

theorem handTriple_settings (t : Triple) (c : Chip) : (handTriple t c).settings = c.settings := by
  unfold handTriple
  (repeat' split) <;> rfl

theorem handOverApplied_settings (c : Chip) : (handOverApplied c).settings = c.settings := by
  unfold handOverApplied
  split
  · rfl
  · split
    · exact handTriple_settings _ _
    · rfl

theorem meteringStep_settings (err : Int) (c : Chip) : (meteringStep err c).settings = c.settings := by
  unfold meteringStep
  dsimp only
  split
  · exact setExposure_settings _ c
  · split
    · rfl
    · split
      · rw [handOverApplied_settings, setExposure_settings]
      · exact setExposure_settings _ c

theorem meterFrame_settings (f : OpenFrame) (means : List Nat) (c : Chip) :
    (meterFrame f means c).settings = c.settings := by
  unfold meterFrame
  split
  · rfl
  · split
    · dsimp only
      split
      · rw [meteringStep_settings, setExposure_settings]
      · exact setExposure_settings _ c
    · rfl

theorem completeFrame_stores {c : Chip} {f : OpenFrame} (hf : c.pixel.frame = some f)
    (lines : List (List (BitVec 12))) : StoresInBuffer c (completeFrame f lines c) := by
  refine StoresInBuffer.trans_bus ?_ (busOut_of_outer (outer_completeFrame f lines c))
  generalize hd : meterFrame f (zoneMeans f.geometry (activeFrame f.width f.height lines))
    (setPixel (fun p => { p with frame := none, nextStart := none, dma := dmaAfterFrame p.dma }) c) = d
  have hbus : d.busOut = c.busOut := hd ▸ busOut_of_outer (by simp)
  have hsettings : d.settings = c.settings := by
    rw [← hd, meterFrame_settings, setPixel_settings]
  unfold storeFrame
  split
  · next n hslot _ =>
    refine .inr ⟨n, packFrame (activeFrame f.width f.height lines), .inr ⟨f, hf, hslot⟩, ?_, ?_⟩
    · simp only [bufferSize, hf]
      exact Nat.le_trans (packFrame_length_le _ _ _) (Nat.le_max_right _ _)
    · rw [busWrite_appends, hbus]
      simp only [slotBase, cfg, hsettings]
  · exact .inl hbus

theorem frameEnd_stores (lines : List (List (BitVec 12))) (written : Bool) (c : Chip) :
    StoresInBuffer c (frameEnd settle lines written c) := by
  unfold frameEnd receiveFrame
  split
  · exact .inl rfl
  · next f hf =>
    split
    · split
      · exact (completeFrame_stores hf _).trans_bus (busOut_of_outer (outer_takeNextStart _ _))
      · exact .inl rfl
    · split
      · split
        · exact .inl rfl
        · exact completeFrame_stores hf lines
      · exact truncateFrame_stores hf

theorem cutFrame_stores (c : Chip) : StoresInBuffer c (cutFrame settle c) :=
  (truncateOpen_stores c).trans_bus (busOut_of_outer (outer_takeNextStart _ _))

theorem dmaBusError_stores (c : Chip) : StoresInBuffer c (dmaBusError c) := by
  unfold dmaBusError
  split
  · next n _ hn => exact (spoilBuffer_stores (.inl hn)).trans_bus rfl
  · exact .inl rfl

theorem abandonBuffer_stores (c : Chip) : StoresInBuffer c (abandonBuffer c) := by
  unfold abandonBuffer
  split
  · next n hn _ => exact spoilBuffer_stores (.inl hn)
  · exact .inl rfl

theorem abandonDma_stores (c : Chip) : StoresInBuffer c (abandonDma c) :=
  (abandonBuffer_stores c).trans_bus rfl

theorem bufferView_abandonRequest (r : RecordId) (c : Chip) : bufferView (abandonRequest r c) = bufferView c := by
  unfold abandonRequest
  dsimp only
  (repeat' split) <;> rfl

theorem bufferView_abandonOrder (c : Chip) : bufferView (abandonOrder c) = bufferView c := by
  have hset : ∀ d : Chip, bufferView (setOrder none d) = bufferView d := fun d => by
    unfold setOrder setStore markStore
    split <;> rfl
  unfold abandonOrder
  split
  · dsimp only
    split <;> rfl
  · rw [hset, bufferView_abandonRequest]

theorem bufferView_abandonRequests (c : Chip) : bufferView (abandonRequests c) = bufferView c := by
  simp only [abandonRequests, bufferView_abandonRequest, bufferView_abandonOrder]

theorem bufferView_stopLoad (c : Chip) : bufferView (stopLoad c) = bufferView c := by
  unfold stopLoad
  split <;> rfl

theorem enterStopping_stores (c : Chip) : StoresInBuffer c (enterStopping c) := by
  unfold enterStopping
  extract_lets filling c1 c2 c3 c4 c5
  have hview : bufferView c2 = bufferView c :=
    (bufferView_stopLoad _).trans ((bufferView_abandonRequests _).trans rfl)
  have hc3 : StoresInBuffer c2 c3 := by
    simp only [c3]
    split
    · exact abandonDma_stores c2
    · exact .inl rfl
  have hc5 : c5.busOut = c3.busOut := busOut_of_outer (by simp [c5, c4])
  refine (hc3.trans_bus ?_).of_view hview
  rw [raise_busOut]
  split
  · exact hc5
  · exact (busOut_of_outer (Laws.outer_stopStreams c5)).trans hc5

theorem writeRun_stores (area : Word) (run : Bool) (c : Chip) : StoresInBuffer c (writeRun area run c) := by
  have hstart : ∀ d, (beginStart area d).busOut = d.busOut := fun d => congrArg (·.1) (busView_beginStart area d)
  have hclear : ∀ d, (clearFault d).busOut = d.busOut := fun d => by
    unfold clearFault
    split <;> rfl
  unfold writeRun
  dsimp only
  split
  · split
    · split
      · exact .inl rfl
      · exact .inl (hclear _)
    · split
      · exact .inl (hstart _)
      · exact .inl rfl
  · split
    · exact .inl rfl
    · exact (enterStopping_stores _).of_view rfl
  · split
    · exact .inl rfl
    · exact (enterStopping_stores _).of_view rfl
  · exact .inl rfl

theorem writeNudge_stores (area : Word) (run : Bool) (c : Chip) : StoresInBuffer c (writeNudge area run c) :=
  (writeRun_stores area run c).trans_bus (busOut_of_outer (Laws.outer_scanTrigger _))

/-! The record write in flight, which a reset alone drops. -/

theorem inFlight_of_outer {c d : Chip} (h : Laws.outer d = Laws.outer c) : d.answers.inFlight = c.answers.inFlight :=
  congrArg (·.2) (busView_of_outer h)

theorem truncateOpen_inFlight (c : Chip) : (truncateOpen c).answers.inFlight = c.answers.inFlight := by
  have hspoil : ∀ f, (spoilFrameSlot f c).answers.inFlight = c.answers.inFlight := fun f => by
    unfold spoilFrameSlot
    split <;> rfl
  unfold truncateOpen
  split
  · rfl
  · exact (inFlight_of_outer (outer_truncateFrame _ c)).trans (hspoil _)

theorem truncateFrame_inFlight (f : OpenFrame) (c : Chip) :
    (truncateFrame f c).answers.inFlight = c.answers.inFlight := by
  refine (inFlight_of_outer (outer_truncateFrame f c)).trans ?_
  unfold spoilFrameSlot
  split <;> rfl

theorem frameStart_inFlight (time : Nat) (upsets : List Upset) (c : Chip) :
    (frameStart settle time upsets c).answers.inFlight = c.answers.inFlight := by
  unfold frameStart
  extract_lets c1
  have hc1 : c1.answers.inFlight = c.answers.inFlight := rfl
  split
  · split
    · rw [inFlight_of_outer (outer_takeFrameStart time c1), hc1]
    · split
      · exact hc1
      · split
        · rw [truncateOpen_inFlight, hc1]
        · rw [inFlight_of_outer (outer_takeFrameStart time _), inFlight_of_outer (outer_settle _), truncateOpen_inFlight,
            hc1]
  · exact hc1

theorem completeFrame_inFlight (f : OpenFrame) (lines : List (List (BitVec 12))) (c : Chip) :
    (completeFrame f lines c).answers.inFlight = c.answers.inFlight := by
  have hstore : ∀ frame dma d, (storeFrame f frame dma d).answers.inFlight = d.answers.inFlight := fun frame dma d => by
    unfold storeFrame
    split <;> rfl
  exact (inFlight_of_outer (outer_completeFrame f lines c)).trans
    ((hstore _ _ _).trans (inFlight_of_outer (by simp)))

theorem frameEnd_inFlight (lines : List (List (BitVec 12))) (written : Bool) (c : Chip) :
    (frameEnd settle lines written c).answers.inFlight = c.answers.inFlight := by
  unfold frameEnd receiveFrame
  split
  · rfl
  · split
    · split
      · exact (inFlight_of_outer (outer_takeNextStart _ _)).trans (completeFrame_inFlight _ _ c)
      · rfl
    · split
      · split
        · rfl
        · exact completeFrame_inFlight _ _ c
      · exact truncateFrame_inFlight _ c

theorem cutFrame_inFlight (c : Chip) : (cutFrame settle c).answers.inFlight = c.answers.inFlight :=
  (inFlight_of_outer (outer_takeNextStart _ _)).trans (truncateOpen_inFlight c)

theorem dmaBusError_inFlight (c : Chip) : (dmaBusError c).answers.inFlight = c.answers.inFlight := by
  unfold dmaBusError
  split <;> rfl

theorem enterStopping_inFlight (c : Chip) : (enterStopping c).answers.inFlight = c.answers.inFlight := by
  have hdma : ∀ d : Chip, (abandonDma d).answers.inFlight = d.answers.inFlight := fun d => by
    unfold abandonDma
    split <;> rfl
  unfold enterStopping
  extract_lets filling c1 c2 c3 c4 c5
  have hc1 : c1.answers.inFlight = c.answers.inFlight := rfl
  have hc2 : c2.answers.inFlight = c.answers.inFlight := by
    simp only [c2]
    rw [inFlight_of_outer (Laws.outer_stopLoad _), inFlight_of_outer (Laws.outer_abandonRequests _), setScan_answers]
    exact hc1
  have hc3 : c3.answers.inFlight = c2.answers.inFlight := by
    simp only [c3]
    split
    · exact hdma c2
    · rfl
  have hc5 : c5.answers.inFlight = c3.answers.inFlight := inFlight_of_outer (by simp [c5, c4])
  have hall := hc5.trans (hc3.trans hc2)
  refine (inFlight_of_outer (Laws.outer_raise _ _)).trans ?_
  split
  · exact hall
  · exact (inFlight_of_outer (Laws.outer_stopStreams c5)).trans hall

theorem writeRun_inFlight (area : Word) (run : Bool) (c : Chip) :
    (writeRun area run c).answers.inFlight = c.answers.inFlight := by
  have hstart : ∀ d, (beginStart area d).answers.inFlight = d.answers.inFlight := fun d =>
    congrArg (·.2) (busView_beginStart area d)
  have hclear : ∀ d, (clearFault d).answers.inFlight = d.answers.inFlight := fun d => by
    unfold clearFault
    split <;> rfl
  unfold writeRun
  dsimp only
  split
  · split
    · split
      · rfl
      · exact hclear _
    · split
      · exact hstart _
      · rfl
  · split
    · rfl
    · exact enterStopping_inFlight _
  · split
    · rfl
    · exact enterStopping_inFlight _
  · rfl

theorem writeNudge_inFlight (area : Word) (run : Bool) (c : Chip) :
    (writeNudge area run c).answers.inFlight = c.answers.inFlight :=
  (inFlight_of_outer (Laws.outer_scanTrigger _)).trans (writeRun_inFlight area run c)

/-! Resets. -/

theorem nextMarked_allClear (last n : Nat) : nextMarked last (List.replicate n false) = none := by
  unfold nextMarked
  rw [List.find?_eq_none]
  intro i _
  simp only [List.getD_eq_getElem?_getD, List.getElem?_replicate, Bool.not_eq_true]
  split <;> rfl

/-- A reset raises no event and marks no record, so the end of the command changes nothing. -/
theorem conclude_resetChip (zoom focus : Int) (c : Chip) : conclude (resetChip zoom focus c) = resetChip zoom focus c := by
  have hwrite : writeNext (resetChip zoom focus c) = resetChip zoom focus c := by
    unfold writeNext
    have hnone : nextMarked (resetChip zoom focus c).answers.last
        (if (resetChip zoom focus c).port.partState = .halted then (resetChip zoom focus c).answers.finishing
          else (resetChip zoom focus c).answers.marks) = none := nextMarked_allClear 25 26
    rw [hnone]
    rfl
  exact hwrite

/-! ### The obligation -/

/-- Outside the buffer being filled and the leading stamp, memory after the command is as before it. -/
theorem concluded_read_of_stores {d : Chip} {s : State} {a : Nat} (hbus : s.chip.busOut = [])
    (hstores : StoresInBuffer s.chip d) (hbuffer : ∀ n, Filling s.chip n → ¬ Said.inBuffer s.chip n a)
    (hstamp : ∀ w, d.answers.inFlight = none → (concluded d s).chip.answers.inFlight = some w →
      OutsideStamp (concluded d s).chip.port.areaInUse w a) :
    Memory.read (concluded d s).memory a = Memory.read s.memory a := by
  rw [concluded_read d s a hstamp]
  obtain hsame | ⟨n, bs, hfilling, hlength, hout⟩ := hstores
  · rw [hsame, hbus]
    rfl
  · rw [hout, hbus]
    refine Memory.read_write_outside _ _ _ _ ?_
    have hn := hbuffer n hfilling
    rw [inBuffer_iff] at hn
    dsimp only
    omega

/-- Settles O6. -/
theorem frameStoresFrame : Obligations.FrameStoresFrame := by
  unfold Obligations.FrameStoresFrame
  intro i s t hi hbus h a hbuffer hstamp
  have effect : ∀ f, exec i s = commit f s → StoresInBuffer s.chip (f s.chip) →
      (f s.chip).answers.inFlight = s.chip.answers.inFlight → Memory.read t.memory a = Memory.read s.memory a := by
    intro f hexec hstores hflight
    rw [hexec, commit_eq] at h
    cases h
    exact concluded_read_of_stores hbus hstores hbuffer fun w hw => hstamp w (hflight ▸ hw)
  have reset : ∀ (area : Word) (zoom focus : Int),
      exec i s = .next (concluded (resetChip zoom focus (abandonBuffer s.chip)) { s with areaBase := area }) →
      Memory.read t.memory a = Memory.read s.memory a := by
    intro area zoom focus hexec
    rw [hexec] at h
    cases h
    refine concluded_read_of_stores (s := { s with areaBase := area }) hbus
      ((abandonBuffer_stores s.chip).trans_bus rfl) hbuffer fun w _ hw => ?_
    rw [concluded_chip, conclude_resetChip] at hw
    cases hw
  cases i with
  | frameStart => exact effect _ rfl (frameStart_stores _ _ _) (frameStart_inFlight _ _ _)
  | frameEnd => exact effect _ rfl (frameEnd_stores _ _ _) (frameEnd_inFlight _ _ _)
  | frameTruncated | truncationTimeout => exact effect _ rfl (cutFrame_stores _) (cutFrame_inFlight _)
  | dmaBusError => exact effect _ rfl (dmaBusError_stores _) (dmaBusError_inFlight _)
  | runWrite => exact effect _ rfl (writeRun_stores _ _ _) (writeRun_inFlight _ _ _)
  | nudge => exact effect _ rfl (writeNudge_stores _ _ _) (writeNudge_inFlight _ _ _)
  | powerOnReset => exact reset 0 _ _ rfl
  | softReset => exact reset s.areaBase _ _ rfl
  | _ => exact hi.elim

/-! ### The resets -/

theorem abandonBuffer_noDma {c : Chip} (h : c.capture.filling = none ∨ c.pixel.dma ≠ .running) : abandonBuffer c = c := by
  unfold abandonBuffer
  split
  · next n hn hdma => simp [hn, hdma] at h
  · rfl

/-- An abandoned buffer changes the bytes on the bus and the free bytes drawn alone. -/
theorem abandonBuffer_rest (c : Chip) :
    ∃ bus n, abandonBuffer c = { c with busOut := bus, freeIndex := n } := by
  unfold abandonBuffer
  split
  · exact ⟨_, _, rfl⟩
  · exact ⟨c.busOut, c.freeIndex, rfl⟩

theorem concluded_resetChip (zoom focus : Int) (c : Chip) (s : State) :
    concluded (resetChip zoom focus c) s
      = { s with memory := Memory.writeAll s.memory c.busOut, chip := { resetChip zoom focus c with busOut := [] } } := by
  unfold concluded
  rw [conclude_resetChip]
  rfl

/-- Both resets give the part its reset state with two counters, and store where a slot was being filled alone. -/
theorem exec_reset {i : Instr} {s t : State} (hi : i = .powerOnReset ∨ i = .softReset) (h : exec i s = .next t) :
    ∃ (area : Word) (zoom focus : Int), t = { s with
      areaBase := area
      memory := Memory.writeAll s.memory (abandonBuffer s.chip).busOut
      chip := { resetChip zoom focus (abandonBuffer s.chip) with busOut := [] } } := by
  obtain rfl | rfl := hi
  · refine ⟨0, 0, 0, ?_⟩
    have hexec : exec .powerOnReset s
        = .next (concluded (resetChip 0 0 (abandonBuffer s.chip)) { s with areaBase := 0 }) := rfl
    rw [hexec, concluded_resetChip] at h
    cases h
    rfl
  · refine ⟨s.areaBase, s.chip.zoom.counter, s.chip.focus.counter, ?_⟩
    have hexec : exec .softReset s = .next (concluded (resetChip s.chip.zoom.counter s.chip.focus.counter
      (abandonBuffer s.chip)) s) := rfl
    rw [hexec, concluded_resetChip] at h
    cases h
    rfl

/-- Settles O14. -/
theorem resetsActOnTheWholePart : Obligations.ResetsActOnTheWholePart := by
  unfold Obligations.ResetsActOnTheWholePart
  intro s hbus
  obtain ⟨bus, n, habandon⟩ := abandonBuffer_rest s.chip
  refine ⟨?powerOn, ?soft, ?whole⟩
  case powerOn =>
    refine ⟨_, commit_eq powerOnReset _, rfl, ?_, ?_⟩ <;>
      rw [powerOnReset, concluded_resetChip, habandon] <;> rfl
  case soft =>
    refine ⟨_, commit_eq softReset _, rfl, ?_, ?_⟩ <;>
      rw [softReset, concluded_resetChip, habandon] <;> rfl
  case whole =>
    intro i t hi h
    obtain ⟨area, zoom, focus, rfl⟩ := exec_reset hi h
    refine ⟨⟨(abandonBuffer s.chip).freeIndex, ?_⟩, fun hdma => ?_⟩
    · rw [habandon]
      cases hdetect : s.chip.card.detect <;> simp [resetChip, resetCard, resetLine, hdetect]
    · rw [abandonBuffer_noDma hdma, hbus]
      rfl

/-- Settles O55. -/
theorem recordTimers : Obligations.RecordTimers := fun _ => ⟨rfl, rfl⟩

end Sys2Proof.Proofs.MemoryFrame
end

section
/-! PROOFS. The Register Port, the Request Scanner and the Answer Writer (Chapter 1): scan triggers (R3, R6), the header read of a
start and bus errors (R5, R16), the end of the stop sequence (R17), scanned records (R7), and answer record writes (R12). -/

namespace Sys2Proof.Proofs.Part

-- One elaboration thread at a time: each waiting thread reserves a stack, and the text is long.
set_option Elab.async false

open Sys2Proof Sys2Proof.Machine Sys2Proof.Proofs.PartFrame

/-- A command whose own effect leaves the part at `d` answers the state concluded from `d`. -/
theorem exec_of_commit {i : Instr} {s : State} {f : Chip → Chip} {d : Chip} (hexec : exec i s = commit f s)
    (h : f s.chip = d) : exec i s = .next (concluded d s) := by rw [hexec, commit_eq, h]

/-! ### Part-level faults -/

/-- A part-level fault is shown, and outside HALTED counted. -/
theorem partFault_eq (f : FaultCode) (c : Chip) :
    partFault f c = if c.port.partState = .halted then Said.showFault f c else notice .fault (Said.showFault f c) := by
  have hshow : (if c.port.fault = f then c else mark .partState { c with port := { c.port with fault := f } })
      = Said.showFault f c := by
    unfold Said.showFault
    split
    · next h =>
      subst h
      rfl
    · rfl
  unfold partFault
  dsimp only
  rw [hshow]

theorem showFault_setPort (f : FaultCode) (g : Port → Port) (c : Chip) (hfault : (g c.port).fault = c.port.fault) :
    Said.showFault f (setPort g c) = { (Said.showFault f c) with port := { (g c.port) with fault := f } } := by
  unfold Said.showFault
  rw [setPort_sets, hfault]
  split <;> rfl

/-- Before a start in its header read a fault code is cleared with PART_STATE marked. -/
theorem clearFault_eq (c : Chip) : clearFault c = Said.showFault .none c := by
  unfold clearFault Said.showFault
  split
  · next h =>
    rw [← h]
  · rfl

/-! ### Scans -/

theorem recheckSettings_noHeld (c : Chip) (h : (record c .settings).held = none) : recheckSettings c = c := by
  simp [recheckSettings, h]

theorem scanBegin_noHeld (c : Chip) (h : (record c .settings).held = none) :
    scanBegin c = { c with scan := { c.scan with active := true, position := 0, marked := false } } :=
  recheckSettings_noHeld _ h

theorem scanEnd_unmarked (c : Chip) (h : c.scan.marked = false) :
    scanEnd c = { c with scan := { c.scan with active := false } } := by
  unfold scanEnd
  rw [if_neg (by simp [h])]
  rfl

theorem scanTrigger_notScanning (c : Chip) (h : scanning c = false) : scanTrigger c = c := by
  simp [scanTrigger, h]

theorem scanTrigger_active (c : Chip) (h : scanning c = true) (ha : c.scan.active = true) :
    scanTrigger c = { c with scan := { c.scan with marked := true } } := by
  rw [scanTrigger, if_pos h, if_pos ha]
  rfl

theorem scanTrigger_begins (c : Chip) (h : scanning c = true) (ha : c.scan.active = false)
    (hheld : (record c .settings).held = none) :
    scanTrigger c = { c with scan := { c.scan with active := true, position := 0, marked := false } } := by
  rw [scanTrigger, if_pos h, if_neg (by simp [ha]), scanBegin_noHeld c hheld]

theorem scanning_iff (c : Chip) : scanning c = true ↔ c.port.partState = .starting ∨ c.port.partState = .running := by
  simp [scanning]

/-! ### Writes of the RUN field -/

theorem writeRun_run (area : Word) (c : Chip) (h : c.port.partState = .starting ∨ c.port.partState = .running) :
    writeRun area true c = { c with port := { c.port with run := true } } := by
  unfold writeRun
  obtain h | h := h <;> rw [h] <;> rfl

theorem writeRun_stop (area : Word) (c : Chip) (h : c.port.partState = .starting ∨ c.port.partState = .running) :
    writeRun area false c = enterStopping { c with port := { c.port with run := false } } := by
  unfold writeRun
  obtain h | h := h <;> rw [h] <;> rfl

theorem portView_enterStopping (c : Chip) :
    portView (enterStopping c) = (.stopping, c.port.run, c.port.fault, c.port.areaInUse) := by
  have hdma : ∀ d : Chip, portView (abandonDma d) = portView d := fun d => by
    unfold abandonDma
    split <;> rfl
  unfold enterStopping
  extract_lets filling c1 c2 c3 c4 c5
  have hc1 : portView c1 = (.stopping, c.port.run, c.port.fault, c.port.areaInUse) := rfl
  have hc2 : portView c2 = portView c1 := by
    simp only [c2]
    rw [portView_of_outer (Laws.outer_stopLoad _), portView_of_outer (Laws.outer_abandonRequests _)]
    rfl
  have hc3 : portView c3 = portView c2 := by
    simp only [c3]
    split
    · exact hdma c2
    · rfl
  have hc5 : portView c5 = portView c3 := portView_of_outer (by simp [c5, c4])
  have hall := hc5.trans (hc3.trans (hc2.trans hc1))
  refine (portView_of_outer (Laws.outer_raise _ _)).trans ?_
  split
  · exact hall
  · exact (portView_of_outer (Laws.outer_stopStreams c5)).trans hall

/-- Only STARTING and RUNNING scan after a write of the RUN field, and with RUN = 0 neither does. -/
theorem scanning_writeRun (area : Word) (run : Bool) (c : Chip)
    (h : c.port.partState = .halted ∨ c.port.partState = .stopping ∨ run = false) :
    scanning (writeRun area run c) = false := by
  have hstart : ∀ d : Chip, (beginStart area d).port.partState = d.port.partState := fun d => by
    unfold beginStart clearFault
    split <;> rfl
  have hclear : ∀ d : Chip, (clearFault d).port.partState = d.port.partState := fun d => by
    unfold clearFault
    split <;> rfl
  have hstopping : ∀ d : Chip, (enterStopping d).port.partState = .stopping := fun d =>
    congrArg (·.1) (portView_enterStopping d)
  have hstate : (writeRun area run c).port.partState = .halted ∨ (writeRun area run c).port.partState = .stopping := by
    unfold writeRun
    dsimp only
    split
    · next hhalted =>
      refine .inl ?_
      split
      · split
        · exact hhalted
        · exact (hclear _).trans hhalted
      · split
        · exact (hstart _).trans hhalted
        · exact hhalted
    · next hstarting =>
      rw [if_neg (by simpa [hstarting] using h)]
      exact .inr (hstopping _)
    · next hrunning =>
      rw [if_neg (by simpa [hrunning] using h)]
      exact .inr (hstopping _)
    · next hstops => exact .inr hstops
  obtain h | h := hstate <;> simp [scanning, h]

/-- Settles O16. -/
theorem scanTriggers : Obligations.ScanTriggers := by
  unfold Obligations.ScanTriggers
  intro s r
  refine ⟨fun h => ?runOnly, fun hpart hactive => ?marks, fun hpart hactive hheld => ?begins,
    fun hpart hstream hactive hheld => ?idle⟩
  case runOnly =>
    have hnudge : writeNudge s.areaBase r s.chip = writeRun s.areaBase r s.chip :=
      scanTrigger_notScanning _ (scanning_writeRun s.areaBase r s.chip h)
    exact congrArg (fun d => Host.Outcome.next (concluded d s)) hnudge
  case marks =>
    refine exec_of_commit rfl ?_
    show writeNudge s.areaBase true s.chip = _
    rw [writeNudge, writeRun_run _ _ hpart]
    exact scanTrigger_active _ ((scanning_iff _).mpr hpart) hactive
  case begins =>
    refine exec_of_commit rfl ?_
    show writeNudge s.areaBase true s.chip = _
    rw [writeNudge, writeRun_run _ _ hpart]
    exact scanTrigger_begins _ ((scanning_iff _).mpr hpart) hactive hheld
  case idle =>
    refine exec_of_commit rfl ?_
    show idleScanTimer s.chip = _
    rw [idleScanTimer, if_pos ⟨hstream, hactive⟩,
      scanTrigger_begins _ ((scanning_iff _).mpr hpart) hactive hheld]

/-! ### Header reads and bus errors -/

theorem littleEndian : Said.LittleEndian := by
  intro b0 b1 b2 b3 rest half word
  refine ⟨?_, ?_, ?_⟩
  · rfl
  · rfl
  · rfl

theorem enterStarting_noHeld (seen : List Half) (c : Chip) (h : (record c .settings).held = none) :
    enterStarting seen c = { c with
      notices := ⟨seen, seen⟩
      port := { c.port with partState := .starting, startRead := false, startStep := .awaitSettings }
      answers := { c.answers with
        marks := List.replicate 26 true, finishing := List.replicate 26 false, last := 25 }
      scan := { active := true, position := 0, marked := false, settingsHanded := false }
      stab := { c.stab with gathered := false } } := by
  unfold enterStarting
  exact scanBegin_noHeld _ h

/-- Settles O17. -/
theorem commandPageReads : Obligations.CommandPageReads := by
  unfold Obligations.CommandPageReads
  refine ⟨littleEndian, fun s layout seen => ⟨fun hstart hlayout hheld => ?starts, fun hstart hlayout hhalted => ?layout,
    fun hstart hhalted => ?startError, fun hstart hpart hactive hmarked => ?scanError⟩⟩
  case starts =>
    refine exec_of_commit rfl ?_
    show startHeaderRead (wordOf layout) (halvesOf seen) s.chip = _
    rw [startHeaderRead, if_pos hstart, if_pos (show wordOf layout = Config.layoutVersion from hlayout),
      enterStarting_noHeld _ _ hheld]
  case layout =>
    refine exec_of_commit rfl ?_
    show startHeaderRead (wordOf layout) (halvesOf seen) s.chip = _
    rw [startHeaderRead, if_pos hstart, if_neg (show ¬ wordOf layout = Config.layoutVersion from hlayout), partFault_eq,
      if_pos (by exact hhalted), showFault_setPort _ _ _ rfl]
  case startError =>
    refine exec_of_commit rfl ?_
    show areaBusError s.chip = _
    rw [areaBusError, if_pos hstart, partFault_eq, if_pos (by exact hhalted), showFault_setPort _ _ _ rfl]
  case scanError =>
    have hscan : (notice .fault (Said.showFault .areaBusError s.chip)).scan = s.chip.scan := by
      unfold Said.showFault
      split <;> rfl
    refine exec_of_commit rfl ?_
    show areaBusError s.chip = _
    rw [areaBusError, if_neg (by simp [hstart]), if_pos hactive, partFault_eq, if_neg hpart,
      scanEnd_unmarked _ (by rw [hscan]; exact hmarked), hscan]

/-! ### The end of the stop sequence -/

theorem enterHalted_port (area : Word) (c : Chip) : (enterHalted area c).port.partState = .halted
    ∧ (c.port.run = false → (enterHalted area c).port.fault = c.port.fault)
    ∧ (c.port.run = true → (enterHalted area c).port.startRead = true ∧ (enterHalted area c).port.areaInUse = area
      ∧ (enterHalted area c).port.fault = .none) := by
  have ended := portView_of_outer (c := c) (d := setControl (fun k => { k with due := false }) (stopExposure (resetFlicker
    (abortRefetch (setScan (fun s => { s with active := false }) c))))) (by simp)
  simp only [portView, Prod.mk.injEq] at ended
  obtain ⟨-, hrun, hfault, -⟩ := ended
  have hstart : ∀ d : Chip, d.port.partState = .halted → (beginStart area d).port.partState = .halted
      ∧ (beginStart area d).port.startRead = true ∧ (beginStart area d).port.areaInUse = area
      ∧ (beginStart area d).port.fault = .none := fun d hd => by
    unfold beginStart
    rw [clearFault_eq]
    unfold Said.showFault
    split <;> exact ⟨hd, rfl, rfl, rfl⟩
  have restart : ∀ d : Chip, d.port.run = c.port.run → d.port.fault = c.port.fault → d.port.partState = .halted →
      let e := if d.port.run then beginStart area d else d
      e.port.partState = .halted ∧ (c.port.run = false → e.port.fault = c.port.fault)
        ∧ (c.port.run = true → e.port.startRead = true ∧ e.port.areaInUse = area ∧ e.port.fault = .none) := by
    intro d hrun hfault hhalted e
    cases hr : c.port.run with
    | false =>
      have he : e = d := if_neg (by rw [hrun, hr]; decide)
      rw [he]
      exact ⟨hhalted, fun _ => hfault, fun h => absurd h (by decide)⟩
    | true =>
      have he : e = beginStart area d := if_pos (by rw [hrun, hr])
      obtain ⟨hstate, hstarted⟩ := hstart d hhalted
      rw [he]
      exact ⟨hstate, fun h => absurd h (by decide), fun _ => hstarted⟩
  exact restart _ hrun hfault rfl

/-- Settles O19. -/
theorem stopSequenceEnd : Obligations.StopSequenceEnd := by
  unfold Obligations.StopSequenceEnd
  intro s hstate hrun hzoom hfocus hsensor hgyro hx hy
  have hzoomEnded : zoomStopEnded s.chip.zoom = true := by
    obtain h | h := hzoom <;> simp [zoomStopEnded, h]
  have hfocusEnded : focusAtRest s.chip.focus = true := by
    obtain h | h | h := hfocus <;> simp [focusAtRest, h]
  have hended : stopEnded s.chip = true := by
    simp [stopEnded, stabStopEnded, hstate, hrun, hzoomEnded, hfocusEnded, hsensor, hgyro, hx, hy]
  have hexec : exec .stopSequenceEnd s = .next (concluded (enterHalted s.areaBase s.chip) s) := by
    show Host.Outcome.next (concluded (Machine.stopSequenceEnd s.areaBase s.chip) s) = _
    rw [Machine.stopSequenceEnd, if_pos hended]
  obtain ⟨hhalted, hstays, hstarts⟩ := enterHalted_port s.areaBase s.chip
  obtain ⟨hpartState, -, hfault, harea, hstartRead⟩ := conclude_port (enterHalted s.areaBase s.chip)
  obtain ⟨hlineA, hlineB⟩ := conclude_lines (enterHalted s.areaBase s.chip)
  have hlow : ∀ steer, lineLevel steer (conclude (enterHalted s.areaBase s.chip)) = false := fun steer => by
    simp [lineLevel, hpartState, hhalted]
  refine ⟨_, hexec, hpartState.trans hhalted, hlineA.trans (hlow _), hlineB.trans (hlow _),
    fun hr => hfault.trans (hstays hr), fun hr => ?_⟩
  obtain ⟨hread, harea', hnone⟩ := hstarts hr
  exact ⟨hstartRead.trans hread, harea.trans harea', hfault.trans hnone⟩

/-! ### Scanned records -/

/-- The part after the read of a record at a scan's place, before its editions are looked at. -/
def recordRead (c : Chip) : Chip :=
  { c with scan := { c.scan with
      position := c.scan.position + 1, active := c.port.partState == .starting || c.port.partState == .running } }

theorem scanRecordRead_eq (leading trailing : Word) (body : List Byte) (c : Chip) (hactive : c.scan.active = true)
    (hposition : c.scan.position < 9) :
    scanRecordRead leading body trailing c =
      if leading ≠ trailing then countTorn (recordAt c.scan.position) (recordRead c)
      else readNew (recordAt c.scan.position) leading (readRequest (recordAt c.scan.position) body) (recordRead c) := by
  rw [scanRecordRead, if_pos ⟨hactive, hposition⟩]
  rfl

theorem isNewRequest_eq_true {r : RecordId} {e : Word} {c : Chip}
    (hpart : c.port.partState = .starting ∨ c.port.partState = .running) (he0 : e ≠ 0)
    (hnew : e ≠ (record c r).edition) : isNewRequest r e c = true := by
  have h0 : ¬ e = 0#32 := he0
  simp [isNewRequest, hpart, h0, hnew]

/-- A new edition of a record other than SETTINGS goes to its adoption. -/
theorem readNew_adopts {r : RecordId} {e : Word} {c : Chip} (q : Request) (hr : r ≠ .settings)
    (hpart : c.port.partState = .starting ∨ c.port.partState = .running) (he0 : e ≠ 0)
    (hnew : e ≠ (record c r).edition) : readNew r e q c = adopt r e q c := by
  rw [readNew, if_pos (isNewRequest_eq_true hpart he0 hnew), if_neg hr]

/-- Settles O20. -/
theorem scannedRecord : Obligations.ScannedRecord := by
  unfold Obligations.ScannedRecord
  intro s leadingBytes trailingBytes body hactive hposition r leading trailing c
  have hexec := scanRecordRead_eq leading trailing body s.chip hactive hposition
  refine ⟨fun htorn => ?torn, fun hsame hold => ?old, fun hsame h0 hnew hr hpart => ?new⟩
  case torn =>
    refine exec_of_commit rfl ?_
    rw [hexec, if_pos htorn]
    rfl
  case old =>
    refine exec_of_commit rfl ?_
    rw [hexec, if_neg (not_not_intro hsame)]
    refine readNew_nothingNew _ _ _ _ ?_
    unfold isNewRequest
    obtain h0 | ⟨hedition, hsettings⟩ := hold
    · simp [h0]
    · have hrepeat : (leading != (record c r).edition || (r == .settings && !s.chip.scan.settingsHanded)) = false := by
        obtain h | h := hsettings
        · simp [hedition, h]
        · simp [hedition, h]
      exact (congrArg (_ && ·) hrepeat).trans (Bool.and_false _)
  case new =>
    refine exec_of_commit rfl ?_
    rw [hexec, if_neg (not_not_intro hsame)]
    exact readNew_adopts _ hr hpart h0 hnew

/-! ### A request behind an ACTIVE one (R8) -/

theorem adopt_behindActive_eq {r : RecordId} (e : Word) (q : Request) (c : Chip) (hqueuing : isQueuing r = true)
    (hactive : (record c r).outcome = .active) :
    adopt r e q c = mark .ack (setRecord r
      { (Said.entry r e .pending .heldPrevious false c) with held := some q, earlierActive := true } c) :=
  adopt_behindActive r e q c hqueuing hactive

/-- Settles O27. -/
theorem heldBehindPrevious : Obligations.HeldBehindPrevious := by
  unfold Obligations.HeldBehindPrevious
  intro e s hpart he0
  refine ⟨fun r q i hrow hnew hactive => ?_, fun body hnew hactive => ?settings⟩
  case settings =>
    refine exec_of_commit (f := readNew .settings e (.settings body)) rfl ?_
    rw [readNew, if_pos (isNewRequest_eq_true hpart he0 hnew), if_pos rfl]
    exact adopt_behindActive_eq e _ _ rfl hactive
  have held : ∀ {j : Instr}, r ≠ .settings → isQueuing r = true → exec j s = commit (readNew r e q) s →
      exec j s = .next (concluded (mark .ack (setRecord r
        { (Said.entry r e .pending .heldPrevious false s.chip) with held := some q, earlierActive := true } s.chip)) s) := by
    intro j hr hqueuing hexec
    refine exec_of_commit hexec ?_
    rw [readNew_adopts q hr hpart he0 hnew]
    exact adopt_behindActive_eq e q s.chip hqueuing hactive
  obtain ⟨rfl, k, rfl, rfl⟩ | ⟨rfl, kind, n, sector, address, rfl, rfl⟩ := hrow
  · cases k <;> exact held (by decide) rfl rfl
  · exact held (by decide) rfl rfl

/-! ### Release counts (R154) -/

theorem setSlot_capture_scan (n : Nat) (p : PictureRecord) (c : Chip) :
    (setSlot n p c).capture = c.capture ∧ (setSlot n p c).scan = c.scan := by
  unfold setSlot
  dsimp only
  split <;> exact ⟨rfl, rfl⟩

theorem applyFreeing_rest (n : Nat) (c : Chip) :
    (applyFreeing n c).capture = c.capture ∧ (applyFreeing n c).scan = c.scan := by
  unfold applyFreeing
  split
  · exact setSlot_capture_scan _ _ c
  · exact ⟨rfl, rfl⟩

/-- A slot after the freeing rule has been applied to it with its release count. -/
def freedBy (release : Half) (p : PictureRecord) : PictureRecord :=
  if freeingRule p release then { p with state := .free } else p

theorem slot_eq_default {c : Chip} {n : Nat} (h : c.slots.length ≤ n) : slot c n = {} := by
  simp [slot, List.getD_eq_getElem?_getD, h]

theorem slot_applyFreeing_same (n : Nat) (c : Chip) :
    slot (applyFreeing n c) n = freedBy (c.capture.releases.getD n 0) (slot c n) := by
  unfold freedBy applyFreeing
  split
  · next hrule =>
    have hn : n < c.slots.length := by
      refine Nat.lt_of_not_le fun h => ?_
      rw [slot_eq_default h] at hrule
      exact absurd hrule (by simp [freeingRule])
    exact slot_setSlot_same n _ c hn
  · rfl

theorem slot_applyFreeing_other {n m : Nat} (c : Chip) (h : m ≠ n) : slot (applyFreeing n c) m = slot c m := by
  unfold applyFreeing
  split
  · exact slot_setSlot_other n m _ c h
  · rfl

/-- The rule is applied to the slots from `i` on, and to no other. -/
theorem applyFreeingFrom_spec (i n : Nat) (c : Chip) :
    (applyFreeingFrom i n c).capture = c.capture ∧ (applyFreeingFrom i n c).scan = c.scan
      ∧ ∀ m, slot (applyFreeingFrom i n c) m
        = if i ≤ m ∧ m < i + n then freedBy (c.capture.releases.getD m 0) (slot c m) else slot c m := by
  induction n generalizing i c with
  | zero =>
    refine ⟨rfl, rfl, fun m => ?_⟩
    rw [if_neg (by omega)]
    rfl
  | succ n ih =>
    obtain ⟨hcapture, hscan⟩ := applyFreeing_rest i c
    obtain ⟨ihCapture, ihScan, ihSlot⟩ := ih (i + 1) (applyFreeing i c)
    refine ⟨ihCapture.trans hcapture, ihScan.trans hscan, fun m => ?_⟩
    show slot (applyFreeingFrom (i + 1) n (applyFreeing i c)) m = _
    rw [ihSlot, hcapture]
    by_cases hm : m = i
    · subst hm
      rw [if_neg (by omega), if_pos (by omega), slot_applyFreeing_same]
    · rw [slot_applyFreeing_other c hm]
      exact ite_congr (propext (by omega)) (fun _ => rfl) (fun _ => rfl)

/-- The four cases of R154. -/
theorem freeingRule_iff (p : PictureRecord) (release : Half) :
    freeingRule p release = true ↔
      (p.state = .stored ∧ (p.flags.autoRelease = true ∨ release = p.fill))
        ∨ (p.state = .filled ∧ p.flags.storeOn = false ∧ release = p.fill) ∨ (p.state = .storeFailed ∧ release = p.fill) := by
  unfold freeingRule
  cases p.state <;> simp

/-- Settles O21. -/
theorem releaseCounts : Obligations.ReleaseCounts := by
  unfold Obligations.ReleaseCounts
  intro s bytes hactive hposition counts
  have hread : releaseTableRead counts s.chip = applyFreeingFrom 0 (cfg s.chip).pool.slotCount
      { s.chip with
        scan := { s.chip.scan with position := 10, active := scanning s.chip }
        capture := { s.chip.capture with releases := counts } } := by
    rw [releaseTableRead, if_pos ⟨hactive, hposition⟩]
    rfl
  obtain ⟨hcapture, hscan, hslot⟩ := applyFreeingFrom_spec 0 (cfg s.chip).pool.slotCount
    { s.chip with
      scan := { s.chip.scan with position := 10, active := scanning s.chip }
      capture := { s.chip.capture with releases := counts } }
  refine ⟨_, exec_of_commit rfl hread, by rw [hcapture], by rw [hscan], fun n => ⟨?inUse, fun hn => ?beyond⟩⟩
  case inUse =>
    intro hn p released
    have hfreed : slot _ n = freedBy (counts.getD n 0) p := (hslot n).trans (if_pos ⟨Nat.zero_le n, by omega⟩)
    constructor
    · intro hrule
      rw [hfreed, freedBy, if_pos ((freeingRule_iff p _).mpr hrule)]
    · intro hrule
      rw [hfreed, freedBy, if_neg (fun h => hrule ((freeingRule_iff p _).mp h))]
  case beyond => exact (hslot n).trans (if_neg (by omega))

/-! ### Answer record writes (R12) -/

/-- Settles O22. -/
theorem answerRecordWrites : Obligations.AnswerRecordWrites := by
  unfold Obligations.AnswerRecordWrites
  intro s w hflight
  refine ⟨exec_of_commit rfl ?_, exec_of_commit rfl ?_⟩
  · show answerWritten s.chip = _
    rw [answerWritten, hflight]
    rfl
  · show answerFailed s.chip = _
    rw [answerFailed, hflight]
    exact partFault_eq _ _

/-- The first set place after `last` is the one before which none is set. -/
theorem nextMarked_first {last i : Nat} {marks : List Bool} (hi : i < 26)
    (hset : marks.getD ((last + 1 + i) % 26) false = true)
    (hclear : ∀ j < i, marks.getD ((last + 1 + j) % 26) false = false) :
    nextMarked last marks = some ((last + 1 + i) % 26) := by
  have hfind : (List.range 26).find? ((fun k => marks.getD k false) ∘ fun j => (last + 1 + j) % 26) = some i := by
    rw [List.find?_range_eq_some]
    exact ⟨hset, List.mem_range.mpr hi, fun j hj => by simp only [Function.comp, hclear j hj]; rfl⟩
  unfold nextMarked
  rw [List.find?_map, hfind]
  rfl

/-- Settles O23. -/
theorem answerOrder : Obligations.AnswerOrder := by
  unfold Obligations.AnswerOrder
  intro c i hflight hpart hi hset hclear k stamp
  rw [writeNext, if_neg (by simp [hflight]), if_neg hpart, nextMarked_first hi hset hclear]
  rfl

end Sys2Proof.Proofs.Part
end

section
/-! PROOFS. Requests (sections 1.4, 1.5 and 1.9): a new edition with no hold on it is handed to its owner at once (R8), what the end
of a request leaves, and the SERVICE kinds that a block ends by itself (R19, R139, R165). -/

namespace Sys2Proof.Proofs.Requests

-- One elaboration thread at a time: each waiting thread reserves a stack, and the text is long.
set_option Elab.async false

open Sys2Proof Sys2Proof.Machine Sys2Proof.Proofs.Part Sys2Proof.Proofs.SensorLimits

/-! ### The blocks of the part without its bookkeeping -/

/-- The part without acknowledgement entries, notice counts, answer marks and waiting events. Two parts with the same `blocks`
have every other field in common. -/
def blocks (c : Chip) : Chip := { c with records := [], notices := {}, answers := {}, events := [] }

@[simp] theorem blocks_mark (a : AnswerId) (c : Chip) : blocks (mark a c) = blocks c := rfl
@[simp] theorem blocks_markZoomPart (c : Chip) : blocks (markZoomPart c) = blocks c := rfl
@[simp] theorem blocks_markFocusPart (c : Chip) : blocks (markFocusPart c) = blocks c := rfl
@[simp] theorem blocks_notice (k : NoticeClass) (c : Chip) : blocks (notice k c) = blocks c := rfl
@[simp] theorem blocks_raise (e : Event) (c : Chip) : blocks (raise e c) = blocks c := rfl
@[simp] theorem blocks_setRecord (r : RecordId) (e : RecordState) (c : Chip) : blocks (setRecord r e c) = blocks c := rfl
@[simp] theorem blocks_with_events (c : Chip) (es : List Event) : blocks { c with events := es } = blocks c := rfl

@[simp] theorem blocks_finish (r : RecordId) (o : ReqOutcome) (d : Detail) (c : Chip) :
    blocks (finish r o d c) = blocks c := by
  unfold finish
  dsimp only
  (repeat' split) <;> rfl

@[simp] theorem blocks_refuse (r : RecordId) (d : Detail) (c : Chip) : blocks (refuse r d c) = blocks c :=
  blocks_finish _ _ _ _

@[simp] theorem blocks_setClamped (r : RecordId) (b : Bool) (c : Chip) : blocks (setClamped r b c) = blocks c := by
  unfold setClamped
  split <;> rfl

@[simp] theorem blocks_hold (r : RecordId) (d : Detail) (q : Request) (c : Chip) : blocks (hold r d q c) = blocks c := rfl

/-! A field beside the bookkeeping, read off an equation about `blocks`. -/

theorem port_of_blocks {c d : Chip} {x : Port} (h : blocks c = d) (hd : d.port = x := by rfl) : c.port = x := by
  rw [← hd, ← h]; rfl
theorem settings_of_blocks {c d : Chip} {x : Option Settings} (h : blocks c = d) (hd : d.settings = x := by rfl) : c.settings = x := by
  rw [← hd, ← h]; rfl
theorem pixel_of_blocks {c d : Chip} {x : Pixel} (h : blocks c = d) (hd : d.pixel = x := by rfl) : c.pixel = x := by
  rw [← hd, ← h]; rfl
theorem tables_of_blocks {c d : Chip} {x : Tables} (h : blocks c = d) (hd : d.tables = x := by rfl) : c.tables = x := by
  rw [← hd, ← h]; rfl
theorem zoom_of_blocks {c d : Chip} {x : Zoom} (h : blocks c = d) (hd : d.zoom = x := by rfl) : c.zoom = x := by
  rw [← hd, ← h]; rfl
theorem focus_of_blocks {c d : Chip} {x : Focus} (h : blocks c = d) (hd : d.focus = x := by rfl) : c.focus = x := by
  rw [← hd, ← h]; rfl
theorem control_of_blocks {c d : Chip} {x : Control} (h : blocks c = d) (hd : d.control = x := by rfl) : c.control = x := by
  rw [← hd, ← h]; rfl
theorem search_of_blocks {c d : Chip} {x : Search} (h : blocks c = d) (hd : d.search = x := by rfl) : c.search = x := by
  rw [← hd, ← h]; rfl
theorem following_of_blocks {c d : Chip} {x : Following} (h : blocks c = d) (hd : d.following = x := by rfl) : c.following = x := by
  rw [← hd, ← h]; rfl
theorem stab_of_blocks {c d : Chip} {x : Stab} (h : blocks c = d) (hd : d.stab = x := by rfl) : c.stab = x := by
  rw [← hd, ← h]; rfl
theorem exposure_of_blocks {c d : Chip} {x : Exposure} (h : blocks c = d) (hd : d.exposure = x := by rfl) : c.exposure = x := by
  rw [← hd, ← h]; rfl
theorem capture_of_blocks {c d : Chip} {x : Capture} (h : blocks c = d) (hd : d.capture = x := by rfl) : c.capture = x := by
  rw [← hd, ← h]; rfl
theorem wear_of_blocks {c d : Chip} {x : Wear} (h : blocks c = d) (hd : d.wear = x := by rfl) : c.wear = x := by
  rw [← hd, ← h]; rfl
theorem service_of_blocks {c d : Chip} {x : Option ServiceWork} (h : blocks c = d) (hd : d.service = x := by rfl) : c.service = x := by
  rw [← hd, ← h]; rfl
theorem slots_of_blocks {c d : Chip} {x : List PictureRecord} (h : blocks c = d) (hd : d.slots = x := by rfl) : c.slots = x := by
  rw [← hd, ← h]; rfl
theorem store_of_blocks {c d : Chip} {x : Store} (h : blocks c = d) (hd : d.store = x := by rfl) : c.store = x := by
  rw [← hd, ← h]; rfl
theorem card_of_blocks {c d : Chip} {x : Card} (h : blocks c = d) (hd : d.card = x := by rfl) : c.card = x := by
  rw [← hd, ← h]; rfl

/-! ### The acknowledgement entries -/

@[simp] theorem record_mark (a : AnswerId) (c : Chip) (r : RecordId) : record (mark a c) r = record c r := rfl
@[simp] theorem record_markZoomPart (c : Chip) (r : RecordId) : record (markZoomPart c) r = record c r := rfl
@[simp] theorem record_markFocusPart (c : Chip) (r : RecordId) : record (markFocusPart c) r = record c r := rfl
@[simp] theorem record_notice (k : NoticeClass) (c : Chip) (r : RecordId) : record (notice k c) r = record c r := rfl
@[simp] theorem record_raise (e : Event) (c : Chip) (r : RecordId) : record (raise e c) r = record c r := rfl

theorem record_of_records {c d : Chip} (h : d.records = c.records) (r : RecordId) : record d r = record c r := by
  rw [record, h, record]

theorem finish_records_length (r : RecordId) (o : ReqOutcome) (d : Detail) (c : Chip) :
    (finish r o d c).records.length = c.records.length := by
  unfold finish
  dsimp only
  split
  · exact setRecord_records_length _ _ c
  · split
    · split <;> exact setRecord_records_length _ _ c
    · rfl

theorem record_finish_other {r q : RecordId} (o : ReqOutcome) (d : Detail) (c : Chip) (h : q ≠ r) :
    record (finish r o d c) q = record c q := by
  unfold finish
  dsimp only
  split
  · exact record_setRecord_other _ c h
  · split
    · split <;> exact record_setRecord_other _ c h
    · rfl

theorem record_refuse_other {r q : RecordId} (d : Detail) (c : Chip) (h : q ≠ r) :
    record (refuse r d c) q = record c q := by
  rw [refuse, record_finish_other _ _ _ h, record_setRecord_other _ c h]

theorem record_setClamped_other {r q : RecordId} (b : Bool) (c : Chip) (h : q ≠ r) :
    record (setClamped r b c) q = record c q := by
  unfold setClamped
  split
  · exact record_setRecord_other _ c h
  · rfl

/-! ### Adoption of a new edition (R8) -/

/-- The part with edition `e` of record `r` ACTIVE in the hands of its owner. -/
def adopted (r : RecordId) (e : Word) (c : Chip) : Chip := activate r (newEdition r e c)

@[simp] theorem blocks_adopted (r : RecordId) (e : Word) (c : Chip) : blocks (adopted r e c) = blocks c := rfl
@[simp] theorem adopted_events (r : RecordId) (e : Word) (c : Chip) : (adopted r e c).events = c.events := rfl
@[simp] theorem adopted_notices (r : RecordId) (e : Word) (c : Chip) : (adopted r e c).notices = c.notices := rfl

theorem adopted_records_length (r : RecordId) (e : Word) (c : Chip) :
    (adopted r e c).records.length = c.records.length := by
  simp [adopted, activate, newEdition]

theorem record_adopted (r : RecordId) (e : Word) (c : Chip) (hlen : c.records.length = 9) :
    record (adopted r e c) r = Said.entry r e .active .none false c := by
  have hnew : record (newEdition r e c) r = Said.entry r e .active .none false c := record_newEdition r e c hlen
  unfold adopted activate
  rw [hnew]
  exact record_setRecord_same r _ _ (by simp [newEdition, hlen])

theorem record_adopted_other {r q : RecordId} (e : Word) (c : Chip) (h : q ≠ r) :
    record (adopted r e c) q = record c q := by
  unfold adopted activate newEdition
  simp [record_setRecord_other _ _ h]

theorem holdReason_none (r : RecordId) (q : Request) (c : Chip) (hpart : c.port.partState = .running)
    (hload : c.tables.load = none) (hburst : isBurstHeld q = true → burstInProgress c = false)
    (hbusy : isZoomBusyHeld q c = false) (hremap : r = .spare → remapping c = false) : holdReason r q c = none := by
  unfold holdReason
  rw [if_neg (by simp [hpart]), if_neg (by simp [hload]), if_neg, if_neg (by simp [hbusy]), if_neg]
  · rintro ⟨hr, h⟩
    simp [hremap hr] at h
  · intro h
    simp only [Bool.and_eq_true] at h
    simp [hburst h.1] at h

theorem isZoomBusyHeld_eq_false {q : Request} {c : Chip} (h : zoomBusy c.zoom = false) : isZoomBusyHeld q c = false := by
  unfold isZoomBusyHeld
  split <;> simp [h]

/-- A new edition with no hold on it or on its record is handed to its owner at once. -/
theorem readNew_delivers {r : RecordId} {e : Word} {c : Chip} (q : Request) (hr : r ≠ .settings)
    (hpart : c.port.partState = .running) (he0 : e ≠ 0) (hnew : e ≠ (record c r).edition)
    (hstill : heldStill (record c r) c = false)
    (hqueue : isQueuing r = true → isFinal (record c r).outcome = true ∧ (record c r).earlierActive = false)
    (hreason : holdReason r q c = none) :
    readNew r e q c = deliver q (endSearchForZoom q (adopted r e c)) := by
  rw [readNew_adopts q hr (.inr hpart) he0 hnew]
  have hadopt : adopt r e q c = handOver r q (newEdition r e c) := by
    cases hq : isQueuing r with
    | false => exact adopt_superseding r e q c hq hstill
    | true => exact adopt_afterFinal r e q c (hqueue hq).1 (hqueue hq).2
  have hreason' : holdReason r q (newEdition r e c) = none := hreason
  rw [hadopt, handOver_none r q _ hreason']
  rfl

/-- The same from `Said.NewRequest`, where no held edition of the record is in the way. -/
theorem readNew_of_newRequest {r : RecordId} {e : Word} {c : Chip} (q : Request) (hr : r ≠ .settings)
    (h : Said.NewRequest r e c) (hstill : heldStill (record c r) c = false) :
    readNew r e q c = deliver q (endSearchForZoom q (adopted r e c)) := by
  obtain ⟨hpart, he0, hnew, hearlier, -, hfinal, hload, hburst, hbusy, hremap, -⟩ := h
  exact readNew_delivers q hr hpart he0 hnew hstill (fun hq => ⟨hfinal hq, hearlier⟩)
    (holdReason_none r q c hpart hload (fun _ => hburst) (isZoomBusyHeld_eq_false hbusy) fun _ => hremap)

/-- Only a grant can be held while a new edition of its record is one of `Said.NewRequest`. -/
theorem heldStill_of_newRequest {r : RecordId} {e : Word} {c : Chip} (h : Said.NewRequest r e c)
    (hr : r ≠ .space ∧ r ≠ .spare) : heldStill (record c r) c = false := by
  obtain ⟨-, -, -, -, -, -, -, -, -, -, hheld⟩ := h
  simpa [Said.heldBefore, hr] using hheld

theorem endSearchForZoom_notMove {q : Request} (c : Chip) (h : isZoomMove q = false) : endSearchForZoom q c = c := by
  simp [endSearchForZoom, h]

/-- A request that is no zoom move is handed to its owner with the part otherwise as it was. -/
theorem readNew_delivered {r : RecordId} {e : Word} {c : Chip} (q : Request) (h : Said.NewRequest r e c)
    (hr : r ≠ .settings ∧ r ≠ .space ∧ r ≠ .spare) (hq : isZoomMove q = false) :
    readNew r e q c = deliver q (adopted r e c) := by
  rw [readNew_of_newRequest q hr.1 h (heldStill_of_newRequest h hr.2), endSearchForZoom_notMove _ hq]

/-- The end of the request just adopted writes its outcome and detail. -/
theorem record_finish_adopted {r : RecordId} {e : Word} {c d : Chip} (o : ReqOutcome) (x : Detail)
    (hlen : c.records.length = 9) (hearlier : (record c r).earlierActive = false)
    (hd : d.records = (adopted r e c).records) :
    record (finish r o x d) r = Said.entry r e o x false c := by
  have hrecord : record d r = Said.entry r e .active .none false c :=
    (record_of_records hd r).trans (record_adopted r e c hlen)
  rw [record_finish_active r o x d (by rw [hrecord]; exact hearlier) (by rw [hrecord]; rfl)
    (by rw [hd, adopted_records_length, hlen]), hrecord]
  rfl

theorem record_refuse_adopted {r : RecordId} {e : Word} {c d : Chip} (x : Detail)
    (hlen : c.records.length = 9) (hearlier : (record c r).earlierActive = false)
    (hd : d.records = (adopted r e c).records) :
    record (refuse r x d) r = Said.entry r e .refused x false c := by
  have hrecord : record d r = Said.entry r e .active .none false c :=
    (record_of_records hd r).trans (record_adopted r e c hlen)
  rw [record_refuse_active r x d (by rw [hrecord]; exact hearlier) (by rw [hrecord]; rfl)
    (by rw [hd, adopted_records_length, hlen]), hrecord]
  rfl

/-! ### The setters of Stabilizer, Exposure Unit, store and card -/

/-- Setting fields of the Stabilizer changes nothing else, and beside them the gathered mark alone. -/
@[simp] theorem blocks_setStab (f : Stab → Stab) (c : Chip) :
    blocks (setStab f c) = { blocks c with stab := (setStab f c).stab } := by
  unfold setStab
  dsimp only
  split <;> rfl

theorem setStab_stab (f : Stab → Stab) (c : Chip) : ∃ g, (setStab f c).stab = { f c.stab with gathered := g } := by
  unfold setStab
  dsimp only
  split
  · exact ⟨_, rfl⟩
  · exact ⟨_, rfl⟩

@[simp] theorem setStab_records (f : Stab → Stab) (c : Chip) : (setStab f c).records = c.records := by
  unfold setStab
  dsimp only
  split <;> rfl

@[simp] theorem setStab_events (f : Stab → Stab) (c : Chip) : (setStab f c).events = c.events := by
  unfold setStab
  dsimp only
  split <;> rfl

/-- Handing the credit changes the credit field of the Stabilizer alone, beside the gathered mark. -/
@[simp] theorem blocks_handCredit (c : Chip) : blocks (handCredit c) = { blocks c with stab := (handCredit c).stab } := by
  unfold handCredit
  extract_lets v
  split
  · rfl
  · rw [blocks_raise, blocks_setStab]
    rfl

theorem handCredit_stab (c : Chip) : ∃ v g, (handCredit c).stab = { c.stab with credit := v, gathered := g } := by
  unfold handCredit
  extract_lets v
  split
  · exact ⟨c.stab.credit, c.stab.gathered, rfl⟩
  · obtain ⟨g, h⟩ := setStab_stab (fun s => { s with credit := v }) c
    exact ⟨v, g, h⟩

@[simp] theorem handCredit_records (c : Chip) : (handCredit c).records = c.records := by
  unfold handCredit
  extract_lets v
  split
  · rfl
  · exact setStab_records _ c

@[simp] theorem blocks_setMode (m : StabMode) (c : Chip) :
    blocks (setMode m c) = { blocks c with stab := (setMode m c).stab } := by
  unfold setMode
  split
  · rfl
  · rw [blocks_handCredit, blocks_setStab]

@[simp] theorem setMode_records (m : StabMode) (c : Chip) : (setMode m c).records = c.records := by
  unfold setMode
  split
  · rfl
  · rw [handCredit_records, setStab_records]

@[simp] theorem blocks_setExposure (f : Exposure → Exposure) (c : Chip) :
    blocks (setExposure f c)
      = { blocks c with exposure := (setExposure f c).exposure, pixel := (setExposure f c).pixel } := by
  unfold setExposure followApplied
  dsimp only
  (repeat' split) <;> rfl

@[simp] theorem setExposure_records (f : Exposure → Exposure) (c : Chip) : (setExposure f c).records = c.records := by
  unfold setExposure followApplied
  dsimp only
  (repeat' split) <;> rfl

theorem setExposure_exposure (f : Exposure → Exposure) (c : Chip) :
    ∃ g, (setExposure f c).exposure = { f c.exposure with gathered := g } := by
  unfold setExposure
  extract_lets e gathered c0 c1 c2
  have h0 : c0.exposure = { e with gathered := gathered } := rfl
  have h1 : c1.exposure = c0.exposure := by
    simp only [c1]
    split
    · rfl
    · exact followApplied_exposure c0
  have h2 : c2.exposure = c1.exposure := by
    simp only [c2]
    split <;> rfl
  refine ⟨gathered, ?_⟩
  rw [← h0, ← h1, ← h2]
  split <;> rfl

@[simp] theorem blocks_setCard (f : Card → Card) (c : Chip) : blocks (setCard f c) = { blocks c with card := f c.card } := by
  unfold setCard markStore
  split <;> rfl

@[simp] theorem blocks_setStore (f : Store → Store) (c : Chip) :
    blocks (setStore f c) = { blocks c with store := f c.store } := by
  unfold setStore markStore
  split <;> rfl

@[simp] theorem setCard_records (f : Card → Card) (c : Chip) : (setCard f c).records = c.records := by
  unfold setCard markStore
  split <;> rfl

@[simp] theorem setStore_records (f : Store → Store) (c : Chip) : (setStore f c).records = c.records := by
  unfold setStore markStore
  split <;> rfl

@[simp] theorem blocks_enterCard (k : CardState) (f : Card → Card) (c : Chip) :
    blocks (enterCard k f c) = { blocks c with card := { f c.card with state := k } } := by
  unfold enterCard
  dsimp only
  split <;> simp

@[simp] theorem enterCard_records (k : CardState) (f : Card → Card) (c : Chip) :
    (enterCard k f c).records = c.records := by
  unfold enterCard
  dsimp only
  split <;> simp

/-! ### SERVICE: CLEAR_COUNTERS and CLEAR_FLAGS -/

theorem service_delivered {e : Word} {c : Chip} (k : ServiceKind) (h : Said.NewRequest .service e c) :
    readNew .service e (.service k) c = takeService k (adopted .service e c) :=
  readNew_delivered (.service k) h (by decide) rfl

/-- CLEAR_FLAGS resets its flags and leaves the wear counters. -/
theorem clearFlags_blocks (c : Chip) : let d := clearExposureFlags (clearShake c)
    d.exposure.darkSeen = false ∧ d.exposure.writeFailed = false ∧ d.stab.shakeSeen = false ∧ d.wear = c.wear
      ∧ d.records = c.records := by
  intro d
  have hunit : blocks d = { blocks (clearShake c) with exposure := d.exposure, pixel := d.pixel } :=
    blocks_setExposure _ _
  have hshake : blocks (clearShake c) = { blocks c with stab := (clearShake c).stab } := blocks_setStab _ c
  obtain ⟨g, hexposure⟩ := setExposure_exposure (fun x => { x with darkSeen := false, writeFailed := false }) (clearShake c)
  obtain ⟨g', hstab⟩ := setStab_stab (fun x => { x with shakeSeen := false }) c
  exact ⟨congrArg Exposure.darkSeen hexposure, congrArg Exposure.writeFailed hexposure,
    (congrArg Stab.shakeSeen (stab_of_blocks hunit)).trans (congrArg Stab.shakeSeen hstab),
    (wear_of_blocks hunit).trans ((wear_of_blocks hshake).trans rfl), (setExposure_records _ _).trans (setStab_records _ c)⟩

/-- Settles O28. -/
theorem clearingServices : Obligations.ClearingServices := by
  unfold Obligations.ClearingServices
  intro e s h
  have ⟨_, _, _, hearlier, hlen, _⟩ := h
  refine ⟨⟨_, exec_of_commit rfl (service_delivered .clearCounters h), ?_, ?_⟩,
    ⟨_, exec_of_commit rfl (service_delivered .clearFlags h), ?_⟩⟩
  · exact wear_of_blocks (blocks_finish _ _ _ _)
  · exact record_finish_adopted .done .none hlen hearlier rfl
  · obtain ⟨hdark, hfailed, hshake, hwear, hrecords⟩ := clearFlags_blocks (adopted .service e s.chip)
    have hblocks : blocks (takeService .clearFlags (adopted .service e s.chip))
      = blocks (clearExposureFlags (clearShake (adopted .service e s.chip))) := blocks_finish _ _ _ _
    have hexposure := exposure_of_blocks hblocks
    exact ⟨(congrArg Exposure.darkSeen hexposure).trans hdark, (congrArg Exposure.writeFailed hexposure).trans hfailed,
      (congrArg Stab.shakeSeen (stab_of_blocks hblocks)).trans hshake, (wear_of_blocks hblocks).trans hwear,
      record_finish_adopted .done .none hlen hearlier hrecords⟩

/-! ### SERVICE: RESTART_STABILIZER and RESTART_CARD -/

/-- A gyro start with configuration writes to make. -/
theorem gyroStart_writes {c : Chip} (h : (cfg c).stab.config ≠ []) :
    gyroStart c = setStab (fun s => { s with
      starting := true, configLeft := (cfg c).stab.config, rateAddress := (cfg c).stab.rateAddress }) c := by
  unfold gyroStart
  simp [h]

/-- A gyro start without configuration writes makes the link RUNNING at once. -/
theorem gyroStart_noWrites {c : Chip} (h : (cfg c).stab.config = []) :
    gyroStart c = gyroRunning (setStab (fun s => { s with
      starting := true, configLeft := [], rateAddress := (cfg c).stab.rateAddress }) c) := by
  unfold gyroStart
  simp [h]

/-- The Stabilizer as a change to STARTING sets it, before the credit is handed over. -/
def startingStab (s : Stab) : Stab :=
  axes (fun a => { a with angle := 0, target := 0, residual := 0 }) { s with mode := .starting, panRun := 0, exitRun := 0 }

theorem setMode_of_starting {c : Chip} (h : c.stab.mode ≠ .starting) :
    setMode .starting c = handCredit (setStab startingStab c) := by
  unfold setMode
  rw [if_neg h]
  rfl

/-- A change to STARTING sets the mode, the axes, the run counts and the credit alone. -/
theorem setMode_starting {c : Chip} (h : c.stab.mode ≠ .starting) :
    ∃ v g, (setMode .starting c).stab = { startingStab c.stab with credit := v, gathered := g } := by
  obtain ⟨v, g, hcredit⟩ := handCredit_stab (setStab startingStab c)
  obtain ⟨g', hstab⟩ := setStab_stab startingStab c
  exact ⟨v, g, by rw [setMode_of_starting h, hcredit, hstab]⟩

/-- The Stabilizer as a running link sets it, before the mode changes. -/
def linkedStab (s : Stab) : Stab :=
  { s with linkRunning := true, starting := false, configLeft := [], marked := false, fault := .none }

theorem gyroRunning_eq (c : Chip) : gyroRunning c = setMode .starting (setStab linkedStab c) := rfl

/-- The link runs, the mode is STARTING and the fault is gone. -/
theorem gyroRunning_stab {c : Chip} (h : c.stab.mode ≠ .starting) :
    ∃ v g, (gyroRunning c).stab = { startingStab (linkedStab c.stab) with credit := v, gathered := g } := by
  obtain ⟨g', hset⟩ := setStab_stab linkedStab c
  obtain ⟨v, g, hmode⟩ := setMode_starting (c := setStab linkedStab c) (by rw [hset]; exact h)
  exact ⟨v, g, by rw [gyroRunning_eq, hmode, hset]; rfl⟩

@[simp] theorem blocks_gyroRunning (c : Chip) : blocks (gyroRunning c) = { blocks c with stab := (gyroRunning c).stab } := by
  rw [gyroRunning_eq, blocks_setMode, blocks_setStab]

@[simp] theorem gyroRunning_records (c : Chip) : (gyroRunning c).records = c.records := by
  rw [gyroRunning_eq, setMode_records, setStab_records]

/-- Settles O30. -/
theorem restartServices : Obligations.RestartServices := by
  unfold Obligations.RestartServices
  intro e s h
  have ⟨hpart, _, _, hearlier, hlen, _⟩ := h
  have hentry := record_adopted .service e s.chip hlen
  have gyro : exec (.restartStabilizer e) s = .next (concluded (serviceRestartStabilizer
      { (adopted .service e s.chip) with service := some ⟨.restartStabilizer, .stabilizer⟩ }) s) :=
    exec_of_commit rfl (service_delivered .restartStabilizer h)
  have card : exec (.restartCard e) s = .next (concluded (serviceRestartCard
      { (adopted .service e s.chip) with service := some ⟨.restartCard, .card⟩ }) s) :=
    exec_of_commit rfl (service_delivered .restartCard h)
  refine ⟨fun hmode hconfig => ⟨_, gyro, ?writes⟩, fun hmode hconfig => ⟨_, gyro, ?noWrites⟩,
    fun hmode => ⟨_, gyro, ?gyroRefused⟩, fun hstate => ⟨_, card, ?cardBegins⟩, fun hstate => ⟨_, card, ?cardRefused⟩⟩
  case writes =>
    rw [serviceRestartStabilizer, if_pos ⟨hmode, hpart⟩, gyroStart_writes (c := { (adopted .service e s.chip) with service := some ⟨.restartStabilizer, .stabilizer⟩ }) hconfig]
    obtain ⟨g, hstab⟩ := setStab_stab (fun x => { x with
      starting := true, configLeft := (cfg s.chip).stab.config, rateAddress := (cfg s.chip).stab.rateAddress })
      { (adopted .service e s.chip) with service := some ⟨.restartStabilizer, .stabilizer⟩ }
    refine ⟨congrArg Stab.starting hstab, congrArg Stab.configLeft hstab, congrArg Stab.rateAddress hstab,
      congrArg Chip.service (blocks_setStab _ _), ?_⟩
    exact (record_of_records (setStab_records _ _) _).trans hentry
  case noWrites =>
    rw [serviceRestartStabilizer, if_pos ⟨hmode, hpart⟩, gyroStart_noWrites (c := { (adopted .service e s.chip) with service := some ⟨.restartStabilizer, .stabilizer⟩ }) hconfig]
    obtain ⟨g, hset⟩ := setStab_stab (fun x => { x with
      starting := true, configLeft := [], rateAddress := (cfg s.chip).stab.rateAddress })
      { (adopted .service e s.chip) with service := some ⟨.restartStabilizer, .stabilizer⟩ }
    obtain ⟨v, g', hstab⟩ := gyroRunning_stab (c := setStab (fun x => { x with
      starting := true, configLeft := [], rateAddress := (cfg s.chip).stab.rateAddress })
      { (adopted .service e s.chip) with service := some ⟨.restartStabilizer, .stabilizer⟩ })
      (by rw [hset]; show s.chip.stab.mode ≠ .starting; rw [hmode]; decide)
    rw [hset] at hstab
    refine ⟨congrArg Stab.linkRunning hstab, congrArg Stab.mode hstab, congrArg Stab.fault hstab,
      congrArg Stab.starting hstab, congrArg Stab.rateAddress hstab, ?_, ?_⟩
    · have hblocks := blocks_gyroRunning (setStab (fun x => { x with
        starting := true, configLeft := [], rateAddress := (cfg s.chip).stab.rateAddress })
        { (adopted .service e s.chip) with service := some ⟨.restartStabilizer, .stabilizer⟩ })
      rw [blocks_setStab] at hblocks
      exact congrArg Chip.service hblocks
    · exact (record_of_records ((gyroRunning_records _).trans (setStab_records _ _)) _).trans hentry
  case gyroRefused =>
    rw [serviceRestartStabilizer, if_neg (fun hboth => hmode hboth.1)]
    exact ⟨stab_of_blocks (blocks_refuse _ _ _), service_of_blocks (blocks_refuse _ _ _),
      record_refuse_adopted .notInFault hlen hearlier rfl⟩
  case cardBegins =>
    have hbegin : serviceRestartCard { (adopted .service e s.chip) with service := some ⟨.restartCard, .card⟩ }
        = beginInit { (adopted .service e s.chip) with service := some ⟨.restartCard, .card⟩ } := by
      rw [serviceRestartCard]
      simp only [show (adopted .service e s.chip).card.state = .fault from hstate]
    rw [hbegin, beginInit]
    have hblocks := blocks_enterCard .initialising (fun k => { k with init := .goIdle, found := 0 })
      { (adopted .service e s.chip) with service := some ⟨.restartCard, .card⟩ }
    exact ⟨congrArg (fun d => d.card.state) hblocks, congrArg (fun d => d.card.init) hblocks,
      congrArg Chip.service hblocks, (record_of_records (enterCard_records _ _ _) _).trans hentry⟩
  case cardRefused =>
    have hrefuse : serviceRestartCard { (adopted .service e s.chip) with service := some ⟨.restartCard, .card⟩ }
        = refuse .service (if s.chip.card.state = .absent then .noCard else .notInFault)
          { (adopted .service e s.chip) with service := none } := by
      rw [serviceRestartCard]
      have hcard : (adopted .service e s.chip).card = s.chip.card := rfl
      dsimp only
      rw [hcard]
      cases hcase : s.chip.card.state with
      | fault => exact absurd hcase hstate
      | absent => rfl
      | initialising => rfl
      | ready => rfl
    rw [hrefuse]
    exact ⟨card_of_blocks (blocks_refuse _ _ _), service_of_blocks (blocks_refuse _ _ _),
      record_refuse_adopted _ hlen hearlier rfl⟩

end Sys2Proof.Proofs.Requests
end

section
/-! PROOFS. Picture Store requests (R158, R167), the first run of a picture (R160) and the arbiter (R168). -/

namespace Sys2Proof.Proofs.StoreRequests

-- One elaboration thread at a time: each waiting thread reserves a stack, and the text is long.
set_option Elab.async false

open Sys2Proof Sys2Proof.Machine Sys2Proof.Proofs.Part Sys2Proof.Proofs.SensorLimits Sys2Proof.Proofs.Requests

/-! ### Fields that the setters of store, card and slots leave -/

@[simp] theorem setStore_store (f : Store → Store) (c : Chip) : (setStore f c).store = f c.store :=
  store_of_blocks (blocks_setStore f c)
@[simp] theorem setStore_card (f : Store → Store) (c : Chip) : (setStore f c).card = c.card :=
  card_of_blocks (blocks_setStore f c)
@[simp] theorem setStore_slots (f : Store → Store) (c : Chip) : (setStore f c).slots = c.slots :=
  slots_of_blocks (blocks_setStore f c)
@[simp] theorem setStore_port (f : Store → Store) (c : Chip) : (setStore f c).port = c.port :=
  port_of_blocks (blocks_setStore f c)
@[simp] theorem setStore_settings (f : Store → Store) (c : Chip) : (setStore f c).settings = c.settings :=
  settings_of_blocks (blocks_setStore f c)

@[simp] theorem finish_store (r : RecordId) (o : ReqOutcome) (d : Detail) (c : Chip) : (finish r o d c).store = c.store :=
  store_of_blocks (blocks_finish r o d c)
@[simp] theorem setClamped_store (r : RecordId) (b : Bool) (c : Chip) : (setClamped r b c).store = c.store :=
  store_of_blocks (blocks_setClamped r b c)

@[simp] theorem setCard_card (f : Card → Card) (c : Chip) : (setCard f c).card = f c.card :=
  card_of_blocks (blocks_setCard f c)
@[simp] theorem setCard_store (f : Card → Card) (c : Chip) : (setCard f c).store = c.store :=
  store_of_blocks (blocks_setCard f c)
@[simp] theorem setCard_slots (f : Card → Card) (c : Chip) : (setCard f c).slots = c.slots :=
  slots_of_blocks (blocks_setCard f c)
@[simp] theorem setCard_port (f : Card → Card) (c : Chip) : (setCard f c).port = c.port :=
  port_of_blocks (blocks_setCard f c)

@[simp] theorem blocks_setSlot (n : Nat) (p : PictureRecord) (c : Chip) :
    blocks (setSlot n p c) = { blocks c with slots := c.slots.set n p } := by
  unfold setSlot
  dsimp only
  split <;> rfl

@[simp] theorem setSlot_store (n : Nat) (p : PictureRecord) (c : Chip) : (setSlot n p c).store = c.store :=
  store_of_blocks (blocks_setSlot n p c)
@[simp] theorem setSlot_card (n : Nat) (p : PictureRecord) (c : Chip) : (setSlot n p c).card = c.card :=
  card_of_blocks (blocks_setSlot n p c)
@[simp] theorem setSlot_port (n : Nat) (p : PictureRecord) (c : Chip) : (setSlot n p c).port = c.port :=
  port_of_blocks (blocks_setSlot n p c)
@[simp] theorem setSlot_settings (n : Nat) (p : PictureRecord) (c : Chip) : (setSlot n p c).settings = c.settings :=
  settings_of_blocks (blocks_setSlot n p c)

theorem cfg_of_settings {c d : Chip} (h : d.settings = c.settings) : cfg d = cfg c := by rw [cfg, h, cfg]

theorem slot_of_slots {c d : Chip} (h : d.slots = c.slots) (n : Nat) : slot d n = slot c n := by rw [slot, h, slot]

/-! ### The acknowledgement entry of a request in progress -/

/-- An active request keeps its entry but for the clamped flag, which is set where it was limited. -/
theorem record_setClamped_or {r : RecordId} {c : Chip} (b : Bool) (hactive : (record c r).outcome = .active)
    (hlen : c.records.length = 9) :
    record (setClamped r b c) r = { record c r with clamped := b || (record c r).clamped } := by
  cases b with
  | false => simp [setClamped]
  | true =>
    rw [setClamped, if_pos (by simp [hactive])]
    exact record_setRecord_same r _ c hlen

/-- The request just adopted, with its clamped flag. -/
theorem record_setClamped_adopted {r : RecordId} {e : Word} {c d : Chip} (b : Bool) (hlen : c.records.length = 9)
    (hd : d.records = (adopted r e c).records) :
    record (setClamped r b d) r = Said.entry r e .active .none b c := by
  have hrecord : record d r = Said.entry r e .active .none false c :=
    (record_of_records hd r).trans (record_adopted r e c hlen)
  rw [record_setClamped_or b (by rw [hrecord]; rfl) (by rw [hd, adopted_records_length, hlen]), hrecord]
  simp [Said.entry]

/-- The end of a request whose entry is known. -/
theorem record_finish_entry {r : RecordId} {e : Word} {k : Bool} {c d : Chip} (o : ReqOutcome) (x : Detail)
    (hearlier : (record c r).earlierActive = false) (hlen : d.records.length = 9)
    (hd : record d r = Said.entry r e .active .none k c) :
    record (finish r o x d) r = Said.entry r e o x k c := by
  rw [record_finish_active r o x d (by rw [hd]; exact hearlier) (by rw [hd]; rfl) hlen, hd]
  rfl

/-- The end of the request just adopted, with its clamped flag. -/
theorem record_finish_clamped {r : RecordId} {e : Word} {c d d' : Chip} (b : Bool) (o : ReqOutcome) (x : Detail)
    (hlen : c.records.length = 9) (hearlier : (record c r).earlierActive = false)
    (hd : d.records = (adopted r e c).records) (hd' : d'.records = (setClamped r b d).records) :
    record (finish r o x d') r = Said.entry r e o x b c := by
  apply record_finish_entry o x hearlier
  · rw [hd', setClamped_records_length, hd, adopted_records_length, hlen]
  · exact (record_of_records hd' r).trans (record_setClamped_adopted b hlen hd)

/-! ### Card orders (R167) -/

@[simp] theorem setOrder_store (o : Option OrderWork) (c : Chip) : (setOrder o c).store = { c.store with order := o } :=
  setStore_store _ c

@[simp] theorem setOrder_records (o : Option OrderWork) (c : Chip) : (setOrder o c).records = c.records :=
  setStore_records _ c

/-- The order that a CARD_ORDER request asks for. -/
def orderAsked (write : Bool) (count sector address : Nat) : OrderWork :=
  { write := write, sector := sector, count := max count 1, address := address }

/-- The part with the clamped flag of an order of 0 sectors. -/
def countClamped (count : Nat) (c : Chip) : Chip := setClamped .cardOrder (count == 0) c

/-- The same with the sectors done of the order before set to 0. -/
def orderTaken (count : Nat) (c : Chip) : Chip :=
  let d := countClamped count c
  { d with store := { d.store with sectorsDone := 0 } }

@[simp] theorem orderTaken_store (count : Nat) (c : Chip) : (orderTaken count c).store = { c.store with sectorsDone := 0 } :=
  congrArg (fun d : Chip => { d.store with sectorsDone := 0 }) (blocks_setClamped _ _ c)

theorem countClamped_card (count : Nat) (c : Chip) : (countClamped count c).card = c.card :=
  card_of_blocks (blocks_setClamped _ _ c)

theorem takeCardOrder_absent (write : Bool) (count sector address : Nat) {c : Chip} (h : c.card.state = .absent) :
    takeCardOrder write count sector address c = finish .cardOrder .failed .noCard (countClamped count c) := by
  simp only [takeCardOrder, h, countClamped]

theorem takeCardOrder_fault (write : Bool) (count sector address : Nat) {c : Chip} (h : c.card.state = .fault) :
    takeCardOrder write count sector address c = finish .cardOrder .failed .cardFault (countClamped count c) := by
  simp only [takeCardOrder, h, countClamped]

theorem takeCardOrder_initialising (write : Bool) (count sector address : Nat) {c : Chip}
    (h : c.card.state = .initialising) :
    takeCardOrder write count sector address c
      = setOrder (some { (orderAsked write count sector address) with waiting := true }) (orderTaken count c) := by
  simp only [takeCardOrder, h, orderTaken, countClamped, orderAsked]

theorem takeCardOrder_ready (write : Bool) (count sector address : Nat) {c : Chip} (h : c.card.state = .ready) :
    takeCardOrder write count sector address c
      = raise .cardWork (holdOrderToCapacity (orderAsked write count sector address) (orderTaken count c)) := by
  simp only [takeCardOrder, h, orderTaken, countClamped, orderAsked]

theorem holdOrderToCapacity_limits {o : OrderWork} {c : Chip} {k : Nat} (hk : c.card.capacity = some k)
    (h : o.sector < k) : holdOrderToCapacity o c
      = setOrder (some { o with waiting := false, count := min o.count (k - o.sector) })
          (setClamped .cardOrder (k - o.sector < o.count) c) := by
  simp only [holdOrderToCapacity, hk, if_neg (Nat.not_le.mpr h)]

theorem holdOrderToCapacity_ends {o : OrderWork} {c : Chip} {k : Nat} (hk : c.card.capacity = some k)
    (h : k ≤ o.sector) : holdOrderToCapacity o c
      = finish .cardOrder .done .none (setOrder none (setClamped .cardOrder true
          (setOrder (some { o with waiting := false }) c))) := by
  have horder : (setClamped .cardOrder true (setOrder (some { o with waiting := false }) c)).store.order
      = some { o with waiting := false } :=
    (congrArg Store.order (store_of_blocks (blocks_setClamped _ _ _))).trans (congrArg Store.order (setOrder_store _ c))
  simp only [holdOrderToCapacity, hk, if_pos h, endOrder, horder]

/-- An order that begins within the capacity is limited to it. -/
theorem takeCardOrder_within (write : Bool) (count : Nat) {sector k : Nat} (address : Nat) {c : Chip}
    (hready : c.card.state = .ready) (hk : c.card.capacity = some k) (h : sector < k) :
    takeCardOrder write count sector address c = raise .cardWork (setOrder (some {
        write := write, sector := sector, count := min (max count 1) (k - sector), address := address })
      (setClamped .cardOrder (k - sector < max count 1) (orderTaken count c))) := by
  rw [takeCardOrder_ready write count sector address hready, holdOrderToCapacity_limits (k := k) _ h]
  · rfl
  · exact (congrArg Card.capacity (countClamped_card count c)).trans hk

/-- An order that begins beyond the capacity ends at once. -/
theorem takeCardOrder_beyond (write : Bool) (count : Nat) {sector k : Nat} (address : Nat) {c : Chip}
    (hready : c.card.state = .ready) (hk : c.card.capacity = some k) (h : k ≤ sector) :
    takeCardOrder write count sector address c = raise .cardWork (finish .cardOrder .done .none (setOrder none
      (setClamped .cardOrder true (setOrder (some (orderAsked write count sector address)) (orderTaken count c))))) := by
  rw [takeCardOrder_ready write count sector address hready, holdOrderToCapacity_ends (k := k) _ h]
  · rfl
  · exact (congrArg Card.capacity (countClamped_card count c)).trans hk

/-! ### The arbiter (R168) -/

/-- An order that is ready to run. -/
theorem orderWaits_iff (c : Chip) :
    orderWaits c = true ↔ ∃ o, c.store.order = some o ∧ o.waiting = false ∧ o.done < o.count := by
  unfold orderWaits
  cases h : c.store.order <;> simp

theorem beginRun_store (k : RunKind) (write : Bool) (plan : PlannedRun) (address : Nat) (header : List Byte) (c : Chip) :
    (beginRun k write plan address header c).store = { c.store with lastKind := k, failures := plan.failures } := by
  simp [beginRun]

theorem beginRun_card (k : RunKind) (write : Bool) (plan : PlannedRun) (address : Nat) (header : List Byte) (c : Chip) :
    (beginRun k write plan address header c).card = { c.card with run := some {
      kind := k, write := write, plan := plan, address := address, retryLimit := (cfg c).capture.retryLimit,
      busyLimit := (cfg c).capture.busyLimit, header := header } } := by
  simp [beginRun]

theorem beginRun_slots (k : RunKind) (write : Bool) (plan : PlannedRun) (address : Nat) (header : List Byte) (c : Chip) :
    (beginRun k write plan address header c).slots = c.slots := by
  simp [beginRun]

theorem chooseOrderRun_begins {c : Chip} {o : OrderWork} (ho : c.store.order = some o) (hn : o.next = none) :
    chooseOrderRun c = beginRun .cardOrder o.write
      { sector := o.sector + o.done, count := min 64 (o.count - o.done), firstData := 0, isHeader := false }
      (o.address + 512 * o.done) [] (setOrder (some { o with next := none }) c) := by
  simp only [chooseOrderRun, ho, hn, Option.getD_none]

theorem arbiterChoice : Said.ArbiterChoice := by
  unfold Said.ArbiterChoice
  intro c order
  have horder : orderWaits c = true ↔ order := orderWaits_iff c
  refine ⟨fun hready hpressure => ?_, fun hready hpressure ho => ⟨fun hlast => ?_, fun hlast => ?_⟩, fun hready ho => ?_,
    fun hready ho => ?_, fun hready ho => ?_, fun o ho hnext => ?_⟩
  · simp [chooseRun, hready, hpressure]
  · simp [chooseRun, hready, Nat.not_le.mpr hpressure, horder.mpr ho, hlast]
  · simp [chooseRun, hready, Nat.not_le.mpr hpressure, horder.mpr ho, hlast]
  · simp [chooseRun, hready, Bool.eq_false_iff.mpr (fun h => ho (horder.mp h))]
  · simp [chooseRun, hready, horder.mpr ho]
  · simp [chooseRun, hready, Bool.eq_false_iff.mpr (fun h => ho (horder.mp h))]
  · have hcfg : cfg (setOrder (some { o with next := none }) c) = cfg c := cfg_of_settings (setStore_settings _ c)
    rw [chooseOrderRun_begins ho hnext, beginRun_store, beginRun_card, hcfg]
    exact ⟨rfl, rfl⟩

/-- A CARD_ORDER request of a kind that exists. -/
theorem cardOrder_delivered {e : Word} {c : Chip} {kind : Byte} {n : Half} {sector address : Word}
    (h : Said.NewRequest .cardOrder e c) (hkind : kind.toNat < 2) :
    readNew .cardOrder e (cardOrderRequest kind n sector address) c
      = takeCardOrder (kind == 1) n.toNat sector.toNat address.toNat (adopted .cardOrder e c) := by
  have hcases : kind.toNat = 0 ∨ kind.toNat = 1 := by omega
  have hrequest : cardOrderRequest kind n sector address
      = .cardOrder (kind == 1) n.toNat sector.toNat address.toNat := by
    rcases hcases with h0 | h1
    · have hk : kind = 0 := BitVec.eq_of_toNat_eq h0
      subst hk
      rfl
    · have hk : kind = 1 := BitVec.eq_of_toNat_eq h1
      subst hk
      rfl
  rw [hrequest]
  exact readNew_delivered _ h (by decide) rfl

theorem cardOrder_unknown {e : Word} {c : Chip} {kind : Byte} {n : Half} {sector address : Word}
    (h : Said.NewRequest .cardOrder e c) (hkind : 2 ≤ kind.toNat) :
    readNew .cardOrder e (cardOrderRequest kind n sector address) c
      = refuse .cardOrder .unknownKind (adopted .cardOrder e c) := by
  have hrequest : cardOrderRequest kind n sector address = .unknown .cardOrder := by
    unfold cardOrderRequest
    split
    · omega
    · omega
    · rfl
  rw [hrequest]
  exact readNew_delivered _ h (by decide) rfl

/-- Settles O38. -/
theorem cardOrders : Obligations.CardOrders := by
  unfold Obligations.CardOrders
  refine ⟨arbiterChoice, fun e kind n sector address s h => ?_⟩
  intro asked
  have ⟨_, _, _, hearlier, hlen, _⟩ := h
  have hcount : (countClamped n.toNat (adopted .cardOrder e s.chip)).records.length = 9 := by
    rw [countClamped, setClamped_records_length, adopted_records_length, hlen]
  have hentry : record (orderTaken n.toNat (adopted .cardOrder e s.chip)) .cardOrder
      = Said.entry .cardOrder e .active .none (n.toNat == 0) s.chip := record_setClamped_adopted _ hlen rfl
  refine ⟨fun hkind => ⟨_, exec_of_commit rfl (cardOrder_unknown h hkind), ?_, ?_⟩, fun hkind => ?_⟩
  · exact (congrArg Store.order (store_of_blocks (blocks_refuse _ _ _))).trans rfl
  · exact record_refuse_adopted .unknownKind hlen hearlier rfl
  refine ⟨fun k hready hcapacity hfits => ?within, fun k hready hcapacity hbeyond => ?beyond,
    fun hinit => ?waits, fun hnone => ?failed⟩
  case within =>
    refine ⟨_, exec_of_commit rfl ((cardOrder_delivered h hkind).trans
      (takeCardOrder_within _ _ _ hready hcapacity hfits)), ?_⟩
    refine ⟨by simp [asked], by simp, ?_⟩
    rw [record_raise, record_of_records (setOrder_records _ _), record_setClamped_or (c := orderTaken _ _) _
      (by rw [hentry]; rfl) hcount, hentry]
    simp [Said.entry, asked, Bool.or_comm]
  case beyond =>
    refine ⟨_, exec_of_commit rfl ((cardOrder_delivered h hkind).trans
      (takeCardOrder_beyond _ _ _ hready hcapacity hbeyond)), ?_⟩
    have hclamped : record (setClamped .cardOrder true (setOrder
        (some (orderAsked (kind == 1) n.toNat sector.toNat address.toNat))
        (orderTaken n.toNat (adopted .cardOrder e s.chip)))) .cardOrder
          = Said.entry .cardOrder e .active .none true s.chip := by
      rw [record_setClamped_or _ (by rw [record_of_records (setOrder_records _ _), hentry]; rfl)
        (by rw [setOrder_records]; exact hcount), record_of_records (setOrder_records _ _), hentry]
      rfl
    refine ⟨by simp, by simp, ?_⟩
    rw [record_raise]
    apply record_finish_entry .done .none hearlier
    · rw [setOrder_records, setClamped_records_length, setOrder_records]
      exact hcount
    · rw [record_of_records (setOrder_records _ _), hclamped]
  case waits =>
    exact ⟨_, exec_of_commit rfl ((cardOrder_delivered h hkind).trans (takeCardOrder_initialising _ _ _ _ hinit)),
      by simp [orderAsked, asked], by simp, (record_of_records (setOrder_records _ _) _).trans hentry⟩
  case failed =>
    rcases hnone with habsent | hfault
    · refine ⟨_, exec_of_commit rfl ((cardOrder_delivered h hkind).trans (takeCardOrder_absent _ _ _ _ habsent)),
        by rw [finish_store, countClamped, setClamped_store]; rfl, ?_⟩
      rw [if_pos habsent]
      exact record_finish_clamped _ .failed .noCard hlen hearlier rfl rfl
    · refine ⟨_, exec_of_commit rfl ((cardOrder_delivered h hkind).trans (takeCardOrder_fault _ _ _ _ hfault)),
        by rw [finish_store, countClamped, setClamped_store]; rfl, ?_⟩
      rw [if_neg (by rw [hfault]; decide)]
      exact record_finish_clamped _ .failed .cardFault hlen hearlier rfl rfl

/-! ### Grants (R158) -/

/-- A grant in RUNNING is held only while the card initialises, and then the newer one takes its place. -/
theorem grant_read {r : RecordId} {e : Word} {c : Chip} {q : Request} {take : Nat → Chip → Chip}
    (hr : r = .space ∨ r = .spare) (h : Said.NewRequest r e c) (hq : ∀ d, deliver q d = byCardState r q take d)
    (hzoom : isZoomMove q = false) : (readNew r e q c = byCardState r q take (adopted r e c))
      ∨ (c.card.state = .initialising ∧ (record c r).detail = .heldCardInit
          ∧ readNew r e q c = adoptHeld r e q .heldCardInit false c) := by
  have ⟨hpart, he0, hnew, hearlier, _, _, _, _, _, _, hheld⟩ := h
  have hne : r ≠ .settings := by rcases hr with rfl | rfl <;> decide
  cases hstill : heldStill (record c r) c with
  | false =>
    left
    rw [readNew_of_newRequest q hne h hstill, endSearchForZoom_notMove _ hzoom, hq]
  | true =>
    right
    have hdetail : (record c r).detail = .heldCardInit := by
      rcases hr with rfl | rfl <;> simpa [Said.heldBefore, hstill] using hheld
    have hinit : c.card.state = .initialising := by
      have hboth : (record c r).outcome = .pending ∧ c.card.state = .initialising := by
        simpa [heldStill, hdetail, holdStands] using hstill
      exact hboth.2
    refine ⟨hinit, hdetail, ?_⟩
    rw [readNew_adopts q hne (.inr hpart) he0 hnew, adopt_held r e q c hstill, replaceHeld, hdetail, hearlier]
    rfl

theorem byCardState_absent (r : RecordId) (q : Request) (take : Nat → Chip → Chip) {c : Chip}
    (h : c.card.state = .absent) : byCardState r q take c = refuse r .noCard c := by
  simp only [byCardState, h]

theorem byCardState_initialising (r : RecordId) (q : Request) (take : Nat → Chip → Chip) {c : Chip}
    (h : c.card.state = .initialising) : byCardState r q take c = hold r .heldCardInit q c := by
  simp only [byCardState, h]

theorem byCardState_fault (r : RecordId) (q : Request) (take : Nat → Chip → Chip) {c : Chip}
    (h : c.card.state = .fault) (hk : c.card.capacity = none) : byCardState r q take c = refuse r .cardFault c := by
  simp only [byCardState, h, hk]

theorem byCardState_taken (r : RecordId) (q : Request) (take : Nat → Chip → Chip) {c : Chip} {k : Nat}
    (h : c.card.state = .ready ∨ c.card.state = .fault) (hk : c.card.capacity = some k) :
    byCardState r q take c = take k c := by
  rcases h with h | h <;> simp only [byCardState, h, hk]

/-- A grant that is not taken leaves the store as it is. -/
theorem grant_notTaken {r : RecordId} {e : Word} {i : Instr} {q : Request} {take : Nat → Chip → Chip} {s : State}
    (hr : r = .space ∨ r = .spare) (hexec : exec i s = commit (readNew r e q) s) (h : Said.NewRequest r e s.chip)
    (hq : ∀ d, deliver q d = byCardState r q take d) (hzoom : isZoomMove q = false) :
    (s.chip.card.state = .absent →
      ∃ c, exec i s = .next (concluded c s) ∧ c.store = s.chip.store
        ∧ record c r = Said.entry r e .refused .noCard false s.chip)
    ∧ (s.chip.card.state = .initialising →
      ∃ c, exec i s = .next (concluded c s) ∧ c.store = s.chip.store
        ∧ record c r = { (Said.entry r e .pending .heldCardInit false s.chip) with held := some q })
    ∧ (s.chip.card.state = .fault → s.chip.card.capacity = none →
      ∃ c, exec i s = .next (concluded c s) ∧ c.store = s.chip.store
        ∧ record c r = Said.entry r e .refused .cardFault false s.chip) := by
  have ⟨_, _, _, hearlier, hlen, _⟩ := h
  have hadopted : (adopted r e s.chip).records.length = 9 := (adopted_records_length r e s.chip).trans hlen
  rcases grant_read hr h hq hzoom with hread | ⟨hinit, _, hread⟩
  · refine ⟨fun hstate => ⟨_, exec_of_commit hexec (hread.trans (byCardState_absent r q take hstate)), ?_⟩,
      fun hstate => ⟨_, exec_of_commit hexec (hread.trans (byCardState_initialising r q take hstate)), ?_⟩,
      fun hstate hk => ⟨_, exec_of_commit hexec (hread.trans (byCardState_fault r q take hstate hk)), ?_⟩⟩
    · exact ⟨finish_store _ _ _ _, record_refuse_adopted .noCard hlen hearlier rfl⟩
    · refine ⟨rfl, ?_⟩
      rw [record_hold r _ q _ hadopted, record_adopted r e s.chip hlen]
      rfl
    · exact ⟨finish_store _ _ _ _, record_refuse_adopted .cardFault hlen hearlier rfl⟩
  · refine ⟨fun hstate => absurd (hinit.symm.trans hstate) (by decide), fun _ => ⟨_, exec_of_commit hexec hread, rfl, ?_⟩,
      fun hstate => absurd (hinit.symm.trans hstate) (by decide)⟩
    rw [adoptHeld, record_mark, record_setRecord_same r _ _ hlen, ← hearlier]
    rfl

/-- A grant that is taken. -/
theorem grant_taken {r : RecordId} {e : Word} {c : Chip} {q : Request} {take : Nat → Chip → Chip} {k : Nat}
    (hr : r = .space ∨ r = .spare) (h : Said.NewRequest r e c) (hq : ∀ d, deliver q d = byCardState r q take d)
    (hzoom : isZoomMove q = false) (hstate : c.card.state = .ready ∨ c.card.state = .fault)
    (hk : c.card.capacity = some k) : readNew r e q c = take k (adopted r e c) := by
  rcases grant_read hr h hq hzoom with hread | ⟨hinit, _, _⟩
  · exact hread.trans (byCardState_taken r q take hstate hk)
  · rcases hstate with hstate | hstate <;> exact absurd (hinit.symm.trans hstate) (by decide)

/-- The extent's closing leaves the store but for the picture in progress. -/
theorem closeExtent_store (c : Chip) :
    (closeExtent c).store = { c.store with picture := c.store.picture.map (fun p => { p with openSpace := false }) } := by
  unfold closeExtent
  cases h : c.store.picture with
  | none => exact congrArg (fun p => { c.store with picture := p }) h
  | some p => simp [setPicture]

@[simp] theorem closeExtent_card (c : Chip) : (closeExtent c).card = c.card := by
  unfold closeExtent
  split
  · exact setStore_card _ c
  · rfl

@[simp] theorem closeExtent_slots (c : Chip) : (closeExtent c).slots = c.slots := by
  unfold closeExtent
  split
  · exact setStore_slots _ c
  · rfl

theorem closeExtent_records (c : Chip) : (closeExtent c).records = c.records := by
  unfold closeExtent
  split
  · exact setStore_records _ c
  · rfl

theorem finishGrant_store (r : RecordId) (m : Nat) (c : Chip) : (finishGrant r m c).store = c.store :=
  finish_store _ _ _ c

/-- The end of the request of a grant. -/
theorem record_finishGrant {r : RecordId} {e : Word} {c d : Chip} (b : Bool) (m : Nat) (hlen : c.records.length = 9)
    (hearlier : (record c r).earlierActive = false) (hd : d.records = (setClamped r b (adopted r e c)).records) :
    record (finishGrant r m d) r = Said.entry r e .done (if m = 0 then .none else .remainderDropped) b c :=
  record_finish_clamped b .done _ hlen hearlier rfl hd

/-! ### The first run of a picture (R160) -/

/-- Recomputing the store state leaves all else but the openness of an extent. -/
theorem evalStore_keeps (c : Chip) : (evalStore c).card = c.card ∧ (evalStore c).slots = c.slots
    ∧ (evalStore c).store.queue = c.store.queue ∧ (evalStore c).store.space = c.store.space
    ∧ (evalStore c).store.picture.map (·.slot) = c.store.picture.map (·.slot) := by
  unfold evalStore
  dsimp only
  split
  · exact ⟨rfl, rfl, rfl, rfl, rfl⟩
  · split
    · refine ⟨?_, ?_, ?_, ?_, ?_⟩
      · simp
      · simp
      all_goals simp [closeExtent_store, Function.comp_def]
    · simp

/-- A store state that waits for no space is set, and nothing else. -/
theorem evalStore_notWaiting {c : Chip} {k : StoreState} (h : storeStateOf c.port.partState c.card.state c.store = k)
    (hk : k ≠ .waitSpace) : (evalStore c).store = { c.store with state := k } ∧ (evalStore c).card = c.card
      ∧ (evalStore c).slots = c.slots ∧ (evalStore c).port = c.port ∧ (evalStore c).settings = c.settings := by
  unfold evalStore
  simp only [h, if_neg hk]
  split
  next hsame => exact ⟨by rw [← hsame], rfl, rfl, rfl, rfl⟩
  · simp

/-- The picture at the head of the queue is taken. -/
theorem beginPicture_takes {c : Chip} {n : Nat} {rest : List Nat} (h : c.store.queue = n :: rest) :
    beginPicture c = setStore (fun s => { s with
        queue := rest, picture := some { slot := n, dataSectors := dataSectorsOf (slot c n) } })
      (setSlot n { (slot c n) with state := .storing, store := .storing, extents := [] } c) := by
  simp only [beginPicture, h]

/-- The first data run of a picture opens its first extent at the cursor of the space grant. -/
theorem allocateRun_first {p : PictureWork} {c : Chip} (hnew : p.allocated = 0) (hdata : 0 < p.dataSectors)
    (hextents : (slot c p.slot).extents = []) :
    allocateRun p c = some ({
        sector := c.store.space.cursor, count := min (min 64 p.dataSectors) (remainder c.store.space), firstData := 0,
        isHeader := false },
      setStore (fun s => { s with
          picture := some { p with
            allocated := min (min 64 p.dataSectors) (remainder c.store.space), headerAllocated := false,
            openSpace := true },
          space := { s.space with
            cursor := c.store.space.cursor + min (min 64 p.dataSectors) (remainder c.store.space) } })
        (setSlot p.slot { (slot c p.slot) with
          extents := [⟨c.store.space.cursor, min (min 64 p.dataSectors) (remainder c.store.space)⟩] } c)) := by
  have hnext : nextAllocation p (remainder c.store.space) = min (min 64 p.dataSectors) (remainder c.store.space) := by
    simp [nextAllocation, hnew, hdata]
  have hne : ¬ 0 = p.dataSectors := by omega
  have hheader : (0 == p.dataSectors) = false := beq_eq_false_iff_ne.mpr hne
  simp [allocateRun, hnext, hextents, allocateExtent, hnew, hheader, Config.maxExtents]

/-- A picture run begins at the picture's slot. -/
theorem beginPictureRun_data (p : PictureWork) {plan : PlannedRun} (c : Chip) (h : plan.isHeader = false) :
    beginPictureRun p plan c = beginRun .picture true plan (slotBase c p.slot + 512 * plan.firstData) []
      (setPicture (c.store.picture.map (fun q => { q with next := none })) c) := by
  simp only [beginPictureRun, h]
  rfl

/-- With the picture ready and no order, the arbiter chooses the picture's run. -/
theorem chooseRun_picture {c : Chip} (hready : pictureReady c = true) (horder : c.store.order = none) :
    chooseRun c = choosePictureRun c := by
  simp [chooseRun, hready, orderWaits, horder]

/-- The first data run of the picture in progress, as the arbiter begins it. -/
theorem chooseRun_first {c : Chip} {n ds : Nat} (hpicture : c.store.picture = some { slot := n, dataSectors := ds })
    (horder : c.store.order = none) (hdata : 0 < ds) (hroom : 0 < remainder c.store.space) (hn : n < c.slots.length)
    (hextents : (slot c n).extents = []) :
    let k := min (min 64 ds) (remainder c.store.space)
    let e := chooseRun c
    e.store.queue = c.store.queue ∧ e.store.picture.map (·.slot) = some n
      ∧ e.store.space = { c.store.space with cursor := c.store.space.cursor + k }
      ∧ slot e n = { (slot c n) with extents := [⟨c.store.space.cursor, k⟩] }
      ∧ e.card.run = some {
          kind := .picture, write := true,
          plan := { sector := c.store.space.cursor, count := k, firstData := 0, isHeader := false },
          address := slotBase c n, retryLimit := (cfg c).capture.retryLimit, busyLimit := (cfg c).capture.busyLimit } := by
  intro k e
  have halloc := allocateRun_first (p := { slot := n, dataSectors := ds }) (c := c) rfl hdata hextents
  have hnext : nextAllocation { slot := n, dataSectors := ds } (remainder c.store.space)
      = min (min 64 ds) (remainder c.store.space) := if_pos hdata
  have hsome : 0 < min (min 64 ds) (remainder c.store.space) := by omega
  have hready : pictureReady c = true := by
    simp only [pictureReady, hpicture, hnext, decide_eq_true hsome, Bool.or_true]
  have he : e = _ := (chooseRun_picture hready horder).trans (by
    simp only [choosePictureRun, hpicture, halloc]
    exact beginPictureRun_data _ _ rfl)
  have hcfg : ∀ x (f : Store → Store) m p, cfg (setPicture x (setStore f (setSlot m p c))) = cfg c := by
    intro x f m p
    exact cfg_of_settings (by rw [setPicture, setStore_settings, setStore_settings, setSlot_settings])
  have hslots : e.slots = c.slots.set n { (slot c n) with extents := [⟨c.store.space.cursor, k⟩] } := by
    rw [he, beginRun_slots, setPicture, setStore_slots, setStore_slots, setSlot_slots]
  refine ⟨by rw [he]; simp [beginRun_store, setPicture], by rw [he]; simp [beginRun_store, setPicture],
    by rw [he]; simp [beginRun_store, setPicture, k], ?_, ?_⟩
  · rw [slot, hslots]
    simp [List.getD_eq_getElem?_getD, hn]
  · have hbase : ∀ x f m p, slotBase (setStore f (setSlot m p c)) x = slotBase c x := by
      intro x f m p
      rw [slotBase, slotBase, cfg_of_settings (c := c) (by rw [setStore_settings, setSlot_settings])]
    rw [he, beginRun_card, hcfg, hbase]
    rfl

theorem pictureBegins : Said.PictureBegins := by
  unfold Said.PictureBegins
  intro c n rest hpart hcard hrun hpicture horder hqueue hn hroom hlen space k d
  have hremainder : 0 < remainder c.store.space := by
    unfold remainder
    omega
  have hidle : storeStateOf c.port.partState c.card.state c.store = .idle := by
    simp only [storeStateOf, hpart, hcard, hpicture]
    simp; omega
  obtain ⟨hstore1, hcard1, hslots1, hport1, hset1⟩ := evalStore_notWaiting hidle (by decide)
  let b := beginPicture (evalStore c)
  have hb : b = _ := beginPicture_takes (c := evalStore c) (by rw [hstore1]; exact hqueue)
  have hbstore : b.store = { c.store with
      state := .idle, queue := rest, picture := some { slot := n, dataSectors := dataSectorsOf (slot c n) } } := by
    rw [hb, setStore_store, setSlot_store, hstore1, slot_of_slots hslots1]
  have hbcard : b.card = c.card := by rw [hb, setStore_card, setSlot_card, hcard1]
  have hbport : b.port = c.port := by rw [hb, setStore_port, setSlot_port, hport1]
  have hbset : b.settings = c.settings := by rw [hb, setStore_settings, setSlot_settings, hset1]
  have hbslots : b.slots = c.slots.set n { (slot c n) with state := .storing, store := .storing, extents := [] } := by
    rw [hb, setStore_slots, setSlot_slots, hslots1, slot_of_slots hslots1]
  have hstoring : storeStateOf b.port.partState b.card.state b.store = .storing := by
    simp only [storeStateOf, hbport, hbcard, hpart, hcard, hbstore]
    simp; omega
  obtain ⟨hstore2, hcard2, hslots2, hport2, hset2⟩ := evalStore_notWaiting hstoring (by decide)
  rw [hbstore] at hstore2
  rw [hbcard] at hcard2
  rw [hbslots] at hslots2
  have hslot2 : slot (evalStore b) n = { (slot c n) with state := .storing, store := .storing, extents := [] } := by
    rw [slot, hslots2]
    simp [List.getD_eq_getElem?_getD, hn]
  have hcfg2 : cfg (evalStore b) = cfg c := cfg_of_settings (hset2.trans hbset)
  have hd : d = evalStore (chooseRun (evalStore b)) := by
    have hidle1 : ((evalStore c).store.picture.isNone && (evalStore c).store.state == .idle) = true := by
      rw [hstore1]
      simp [hpicture]
    show cardWork c = _
    simp only [cardWork, hidle1, if_true]
    exact if_pos ⟨by rw [hcard2]; exact hcard, by rw [hport2, hbport]; exact hpart, by rw [hcard2, hrun]; rfl⟩
  obtain ⟨hqueueR, hslotR, hspaceR, hrecordR, hrunR⟩ := chooseRun_first (c := evalStore b) (n := n)
    (ds := dataSectorsOf (slot c n)) (by rw [hstore2]) (by rw [hstore2]; exact horder)
    (by unfold dataSectorsOf; omega) (by rw [hstore2]; exact hremainder) (by rw [hslots2]; simpa using hn)
    (by rw [hslot2])
  obtain ⟨hcardE, hslotsE, hqueueE, hspaceE, hslotE⟩ := evalStore_keeps (chooseRun (evalStore b))
  rw [hd, slot_of_slots hslotsE, hqueueE, hslotE, hspaceE, hcardE, hqueueR, hslotR, hspaceR, hrecordR, hrunR, hstore2,
    hslot2, slotBase, hcfg2]
  exact ⟨rfl, rfl, rfl, rfl, rfl, rfl, _, rfl, rfl, rfl, rfl, rfl, rfl⟩

/-- Settles O37. -/
theorem grants : Obligations.Grants := by
  unfold Obligations.Grants
  refine ⟨pictureBegins, fun e start n s => ⟨fun r i q hkind h => ?_, fun k hstate hk => ?_⟩⟩
  · rcases hkind with ⟨rfl, rfl, rfl⟩ | ⟨rfl, rfl, rfl⟩
    · exact grant_notTaken (.inl rfl) rfl h (fun _ => rfl) rfl
    · exact grant_notTaken (.inr rfl) rfl h (fun _ => rfl) rfl
  · refine ⟨fun h => ?_, fun h => ?_⟩
    · have ⟨_, _, _, hearlier, hlen, _⟩ := h
      intro dropped
      refine ⟨_, exec_of_commit rfl (grant_taken (.inl rfl) h (fun _ => rfl) rfl hstate hk), ?_, ?_, ?_, ?_⟩
      · rw [finishGrant_store, closeExtent_store, setStore_store]
        rfl
      · rw [finishGrant_store, closeExtent_store, setStore_store]
        rfl
      · rw [finishGrant_store, closeExtent_store, setStore_store, setClamped_store]
        rfl
      · exact record_finishGrant _ _ hlen hearlier ((closeExtent_records _).trans (setStore_records _ _))
    · have ⟨_, _, _, hearlier, hlen, _⟩ := h
      intro dropped
      refine ⟨_, exec_of_commit rfl (grant_taken (.inr rfl) h (fun _ => rfl) rfl hstate hk), ?_, ?_, ?_, ?_⟩
      · rw [finishGrant_store, setStore_store]
        rfl
      · rw [finishGrant_store, setStore_store]
        rfl
      · rw [finishGrant_store, setStore_store, setClamped_store]
        rfl
      · exact record_finishGrant _ _ hlen hearlier (setStore_records _ _)

end Sys2Proof.Proofs.StoreRequests
end

section
/-! PROOFS. EXPOSURE requests (R121) and FOCUS requests other than SEARCH (R81, R101). -/

namespace Sys2Proof.Proofs.ExposureRequests

-- One elaboration thread at a time: each waiting thread reserves a stack, and the text is long.
set_option Elab.async false

open Sys2Proof Sys2Proof.Machine Sys2Proof.Proofs.Part Sys2Proof.Proofs.SensorLimits Sys2Proof.Proofs.Requests
open Sys2Proof.Proofs.StoreRequests

/-! ### The end of a command without events -/

theorem concluded_exposure {c : Chip} (s : State) (h : c.events = []) : (concluded c s).chip.exposure = c.exposure :=
  conclude_exposure c h

theorem concluded_record {c : Chip} (s : State) (h : c.events = []) (r : RecordId) :
    record (concluded c s).chip r = record c r := record_of_records (conclude_records c h) r

/-- The end of a superseding request raises nothing when no earlier edition waits for it. -/
theorem finish_events {r : RecordId} (o : ReqOutcome) (d : Detail) {c : Chip} (hq : isQueuing r = false)
    (he : (record c r).earlierActive = false) : (finish r o d c).events = c.events := by
  by_cases ha : (record c r).outcome = .active
  · rw [finish_superseding r o d c he ha hq]
    rfl
  · rw [finish_none r o d c he ha]

@[simp] theorem setClamped_events (r : RecordId) (b : Bool) (c : Chip) : (setClamped r b c).events = c.events := by
  unfold setClamped
  split <;> rfl

@[simp] theorem setExposure_events (f : Exposure → Exposure) (c : Chip) : (setExposure f c).events = c.events := by
  unfold setExposure followApplied
  dsimp only
  (repeat' split) <;> rfl

@[simp] theorem setExposure_stream (f : Exposure → Exposure) (c : Chip) :
    (setExposure f c).pixel.stream = c.pixel.stream := by
  unfold setExposure followApplied
  dsimp only
  (repeat' split) <;> rfl

@[simp] theorem setExposure_mode (f : Exposure → Exposure) (c : Chip) :
    (setExposure f c).exposure.mode = (f c.exposure).mode := by
  obtain ⟨g, h⟩ := setExposure_exposure f c
  rw [h]

@[simp] theorem setExposure_compensation (f : Exposure → Exposure) (c : Chip) :
    (setExposure f c).exposure.compensation = (f c.exposure).compensation := by
  obtain ⟨g, h⟩ := setExposure_exposure f c
  rw [h]

/-! ### A limit change in AUTO (R119) -/

/-- A re-split leaves mode, compensation, records and events. -/
theorem resplit_keeps (c : Chip) : (resplit c).2.exposure.mode = c.exposure.mode
    ∧ (resplit c).2.exposure.compensation = c.exposure.compensation ∧ (resplit c).2.records = c.records
    ∧ (resplit c).2.events = c.events := by
  unfold resplit
  split
  · exact ⟨rfl, rfl, rfl, rfl⟩
  · simp [takeLimit]

/-- A limit change with the mode AUTO leaves mode, compensation, records and events. -/
theorem limitChange_auto {c : Chip} (h : c.exposure.mode = .auto) :
    (limitChange c).exposure.mode = .auto ∧ (limitChange c).exposure.compensation = c.exposure.compensation
      ∧ (limitChange c).records = c.records ∧ (limitChange c).events = c.events := by
  unfold limitChange
  split
  · exact ⟨h, rfl, rfl, rfl⟩
  · rw [h]
    dsimp only
    split
    · rw [← h]
      exact resplit_keeps c
    · exact ⟨h, rfl, rfl, rfl⟩

/-! ### The requests -/

theorem clampInt_eq (n lo hi : Int) : clampInt n lo hi = max lo (min n hi) := rfl

theorem exposure_delivered {e : Word} {c : Chip} (q : ExposureRequest) (h : Said.NewRequest .exposure e c) :
    readNew .exposure e (.exposure q) c = takeExposure q (adopted .exposure e c) :=
  readNew_delivered (.exposure q) h (by decide) rfl

/-- The triple of MANUAL, limited to the limits in force. -/
def manualTriple (xt xg xa : Nat) (c : Chip) : Triple :=
  withSensorValues (cfg c).sensor (limits c).xaMin {
    xt := clampNat xt (limits c).xtLo (limits c).xtFrame, xg := min xg (limits c).xgMax,
    xa := clampNat xa (limits c).xaMin (limits c).xaHi }

/-- A component of the triple of MANUAL was limited. -/
def manualLimited (xt xg xa : Nat) (c : Chip) : Bool :=
  (manualTriple xt xg xa c).xt != xt || (manualTriple xt xg xa c).xg != xg || (manualTriple xt xg xa c).xa != xa

/-- The part with the triple of MANUAL applied, to be written while the stream runs. -/
def manualApplied (xt xg xa : Nat) (c : Chip) : Chip :=
  setWriteDue (setExposure (fun x => { x with mode := .manual, applied := some (manualTriple xt xg xa c) })
    (setClamped .exposure (manualLimited xt xg xa c) c))

theorem takeManual_applies (xt xg xa : Nat) {c : Chip} (h : c.exposure.hold = false) :
    takeManual xt xg xa c = finish .exposure .done .none (manualApplied xt xg xa c) := by
  unfold takeManual
  rw [if_neg (by rw [h]; decide)]
  rfl

theorem takeManual_refused (xt xg xa : Nat) {c : Chip} (h : c.exposure.hold = true) :
    takeManual xt xg xa c = refuse .exposure .searchHold c := if_pos h

theorem manualApplied_events (xt xg xa : Nat) (c : Chip) : (manualApplied xt xg xa c).events = c.events :=
  (setExposure_events _ _).trans (setClamped_events _ _ _)

theorem manualApplied_records (xt xg xa : Nat) (c : Chip) :
    (manualApplied xt xg xa c).records = (setClamped .exposure (manualLimited xt xg xa c) c).records :=
  setExposure_records _ _

theorem manualApplied_exposure (xt xg xa : Nat) (c : Chip) : (manualApplied xt xg xa c).exposure.mode = .manual
    ∧ (manualApplied xt xg xa c).exposure.applied = some (manualTriple xt xg xa c)
    ∧ (manualApplied xt xg xa c).exposure.writeDue = streamRunning c.pixel := by
  refine ⟨setExposure_mode _ _, setExposure_applied _ _, ?_⟩
  have hstream : (setClamped .exposure (manualLimited xt xg xa c) c).pixel = c.pixel :=
    pixel_of_blocks (blocks_setClamped _ _ _)
  simp [manualApplied, setWriteDue, streamRunning, hstream]

/-- The part with the mode AUTO and its compensation, before the limit change. -/
def autoSet (v : Int) (c : Chip) : Chip :=
  setExposure (fun x =>
    let x1 := { x with mode := ExposureMode.auto, compensation := clampInt v (-48) 48 }
    if c.exposure.mode != .auto || c.exposure.compensation != clampInt v (-48) 48 then converging x1 else x1)
    (setClamped .exposure (clampInt v (-48) 48 != v) c)

theorem takeAuto_eq (v : Int) (c : Chip) :
    takeAuto v c = finish .exposure .done .none (limitChange (autoSet v c)) := rfl

theorem autoSet_exposure (v : Int) (c : Chip) : (autoSet v c).exposure.mode = .auto
    ∧ (autoSet v c).exposure.compensation = clampInt v (-48) 48 := by
  unfold autoSet
  rw [setExposure_mode, setExposure_compensation]
  dsimp only
  split <;> exact ⟨rfl, rfl⟩

/-- A command whose end adds an outcome to the part `d`, in which no event waits: what the state after it holds. -/
theorem finished_exposure {e : Word} {i : Instr} {s : State} {d : Chip} (k : Bool) (o : ReqOutcome) (x : Detail)
    (h : Said.NewRequest .exposure e s.chip)
    (hexec : exec i s = .next (concluded (finish .exposure o x d) s)) (hevents : d.events = [])
    (hrecords : d.records = (setClamped .exposure k (adopted .exposure e s.chip)).records) :
    ∃ u, exec i s = .next u ∧ u.chip.exposure = d.exposure
      ∧ record u.chip .exposure = Said.entry .exposure e o x k s.chip := by
  have ⟨_, _, _, hearlier, hlen, _⟩ := h
  have hentry : record d .exposure = Said.entry .exposure e .active .none k s.chip :=
    (record_of_records hrecords _).trans (record_setClamped_adopted k hlen rfl)
  have hnone : (finish .exposure o x d).events = [] :=
    (finish_events o x (c := d) rfl (by rw [hentry]; exact hearlier)).trans hevents
  refine ⟨_, hexec, ?_, ?_⟩
  · rw [concluded_exposure s hnone]
    exact exposure_of_blocks (blocks_finish .exposure o x d)
  · rw [concluded_record s hnone]
    exact record_finish_clamped k o x hlen hearlier rfl hrecords

/-- Settles O35. -/
theorem exposureRequests : Obligations.ExposureRequests := by
  unfold Obligations.ExposureRequests
  intro e s h hevents
  refine ⟨fun v => ?auto, ?lock, fun xt xg xa => ⟨fun hhold => ?manual, fun hhold => ?refused⟩⟩
  case auto =>
    obtain ⟨hmode, hcompensation⟩ := autoSet_exposure v.toInt (adopted .exposure e s.chip)
    obtain ⟨hmode', hcompensation', hrecords, hevents'⟩ := limitChange_auto hmode
    obtain ⟨u, hexec, hexposure, hentry⟩ := finished_exposure (i := .exposureAuto e v) _ .done .none h
      (exec_of_commit rfl ((exposure_delivered (.auto v.toInt) h).trans (takeAuto_eq _ _)))
      (hevents'.trans ((setExposure_events _ _).trans ((setClamped_events _ _ _).trans hevents)))
      (hrecords.trans (setExposure_records _ _))
    exact ⟨u, hexec, by rw [hexposure, hmode'], by rw [hexposure, hcompensation', hcompensation]; rfl, hentry⟩
  case lock =>
    obtain ⟨u, hexec, hexposure, hentry⟩ := finished_exposure (i := .exposureLock e) false .done .none h
      (exec_of_commit rfl (exposure_delivered .lock h)) ((setExposure_events _ _).trans hevents) (setExposure_records _ _)
    refine ⟨u, hexec, ?_, ?_, ?_, hentry⟩
    · simp [hexposure]
    · rw [hexposure, setExposure_applied]
      rfl
    · simp [hexposure]
      rfl
  case manual =>
    obtain ⟨hmode, happlied, hwrite⟩ := manualApplied_exposure xt.toNat xg.toNat xa.toNat (adopted .exposure e s.chip)
    obtain ⟨u, hexec, hexposure, hentry⟩ := finished_exposure (i := .exposureManual e xt xg xa) _ .done .none h
      (exec_of_commit rfl ((exposure_delivered (.manual _ _ _) h).trans (takeManual_applies _ _ _ hhold)))
      ((manualApplied_events _ _ _ _).trans hevents) (manualApplied_records _ _ _ _)
    rw [← hexposure] at hmode happlied hwrite
    exact ⟨u, hexec, hmode, happlied, hwrite, hentry⟩
  case refused =>
    have ⟨_, _, _, hearlier, hlen, _⟩ := h
    have hentry := record_adopted .exposure e s.chip hlen
    have hevents' : (refuse .exposure .searchHold (adopted .exposure e s.chip)).events = [] :=
      (finish_events _ _ rfl (by
        rw [record_setRecord_same _ _ _ (by rw [adopted_records_length, hlen]), hentry]
        exact hearlier)).trans hevents
    refine ⟨_, exec_of_commit rfl ((exposure_delivered (.manual _ _ _) h).trans (takeManual_refused _ _ _ hhold)), ?_, ?_⟩
    · rw [concluded_exposure s hevents']
      exact exposure_of_blocks (blocks_refuse _ _ _)
    · rw [concluded_record s hevents']
      exact record_refuse_adopted .searchHold hlen hearlier rfl

end Sys2Proof.Proofs.ExposureRequests
end

section
/-! PROOFS. FOCUS requests other than SEARCH (R81, R101), with what handing a target to the drive and a retarget leave. -/

namespace Sys2Proof.Proofs.FocusRequests

-- One elaboration thread at a time: each waiting thread reserves a stack, and the text is long.
set_option Elab.async false

open Sys2Proof Sys2Proof.Machine Sys2Proof.Proofs.Part Sys2Proof.Proofs.SensorLimits Sys2Proof.Proofs.Requests
open Sys2Proof.Proofs.StoreRequests Sys2Proof.Proofs.ExposureRequests

/-! ### What the drive leaves when a target is handed to it -/

/-- The part without the Focus Drive, the answer marks and the waiting events. -/
def besideFocus (c : Chip) : Chip := { c with focus := {}, answers := {}, events := [] }

theorem control_of_besideFocus {c d : Chip} (h : besideFocus c = besideFocus d) : c.control = d.control :=
  (congrArg Chip.control h :)
theorem search_of_besideFocus {c d : Chip} (h : besideFocus c = besideFocus d) : c.search = d.search :=
  (congrArg Chip.search h :)
theorem records_of_besideFocus {c d : Chip} (h : besideFocus c = besideFocus d) : c.records = d.records :=
  (congrArg Chip.records h :)

@[simp] theorem besideFocus_mark (a : AnswerId) (c : Chip) : besideFocus (mark a c) = besideFocus c := rfl
@[simp] theorem besideFocus_markFocusPart (c : Chip) : besideFocus (markFocusPart c) = besideFocus c := rfl
@[simp] theorem besideFocus_raise (e : Event) (c : Chip) : besideFocus (raise e c) = besideFocus c := rfl
@[simp] theorem besideFocus_setFocus (f : Focus → Focus) (c : Chip) : besideFocus (setFocus f c) = besideFocus c := rfl

@[simp] theorem besideFocus_enterFocus (k : FocusState) (f : Focus → Focus) (c : Chip) :
    besideFocus (enterFocus k f c) = besideFocus c := by
  unfold enterFocus
  dsimp only
  split <;> rfl

@[simp] theorem besideFocus_beginTrain (d : FocusDir) (leg : Int) (c : Chip) :
    besideFocus (beginTrain d leg c) = besideFocus c := by
  unfold beginTrain
  dsimp only
  split <;> simp

@[simp] theorem besideFocus_enterFocusIdle (c : Chip) : besideFocus (enterFocusIdle c) = besideFocus c := by
  simp [enterFocusIdle]

@[simp] theorem besideFocus_planMove (c : Chip) : besideFocus (planMove c) = besideFocus c := by
  unfold planMove
  (repeat' split) <;> simp

/-- A train that ramps down toward nothing but the next plan leaves all beside the drive. -/
theorem besideFocus_rampDown {c : Chip} (h : c.focus.afterRamp = .none) : besideFocus (rampDown c) = besideFocus c := by
  unfold rampDown goOnFor
  dsimp only
  split
  · unfold endTrain
    simp [h]
  · rfl

@[simp] theorem besideFocus_retargetTrain (t : Int) (c : Chip) : besideFocus (retargetTrain t c) = besideFocus c := by
  unfold retargetTrain
  split
  · rfl
  · dsimp only
    split
    · rfl
    next hnone =>
      split
      · rfl
      · rw [besideFocus_rampDown (c := setFocus (fun f => { f with target := t }) c) (by simpa using hnone),
          besideFocus_setFocus]

@[simp] theorem besideFocus_retargetDwell (t : Int) (c : Chip) : besideFocus (retargetDwell t c) = besideFocus c := by
  unfold retargetDwell
  dsimp only
  (repeat' split) <;> simp

/-- A target handed to the drive leaves all beside it. -/
@[simp] theorem besideFocus_handTarget (t : Int) (c : Chip) : besideFocus (handTarget t c) = besideFocus c := by
  unfold handTarget
  dsimp only
  (repeat' split) <;> simp

/-! ### What a retarget leaves -/

@[simp] theorem blocks_setControl (f : Control → Control) (c : Chip) :
    blocks (setControl f c) = { blocks c with control := f c.control } := by
  unfold setControl
  dsimp only
  split <;> rfl

@[simp] theorem setControl_control (f : Control → Control) (c : Chip) : (setControl f c).control = f c.control :=
  control_of_blocks (blocks_setControl f c)

@[simp] theorem setControl_records (f : Control → Control) (c : Chip) : (setControl f c).records = c.records := by
  unfold setControl
  dsimp only
  split <;> rfl

@[simp] theorem setControl_events (f : Control → Control) (c : Chip) : (setControl f c).events = c.events := by
  unfold setControl
  dsimp only
  split <;> rfl

@[simp] theorem blocks_setFollowing (f : Following → Following) (c : Chip) :
    blocks (setFollowing f c) = { blocks c with following := f c.following } := by
  unfold setFollowing
  dsimp only
  split <;> rfl

@[simp] theorem setFollowing_following (f : Following → Following) (c : Chip) :
    (setFollowing f c).following = f c.following := following_of_blocks (blocks_setFollowing f c)

@[simp] theorem setFollowing_events (f : Following → Following) (c : Chip) : (setFollowing f c).events = c.events := by
  unfold setFollowing
  dsimp only
  split <;> rfl

/-- A read of a tracking position leaves distance and mode. -/
theorem readTrack_control (p : Int) (c : Chip) : (readTrack p c).2.control = c.control := by
  have h := (readTrack_readFrom p c).1
  exact (congrArg Chip.control h :)

theorem readTrack_records (p : Int) (c : Chip) : (readTrack p c).2.records = c.records := by
  have h := (readTrack_readFrom p c).1
  exact (congrArg Chip.records h :)

@[simp] theorem watchAfresh_control (c : Chip) : (watchAfresh c).control = c.control :=
  control_of_blocks (blocks_setFollowing _ c)

@[simp] theorem watchKeepingStep_control (c : Chip) : (watchKeepingStep c).control = c.control :=
  control_of_blocks (blocks_setFollowing _ c)

/-- A retarget leaves the distance and the mode. -/
theorem retarget_control (c : Chip) : (retarget c).control.distance = c.control.distance
    ∧ (retarget c).control.mode = c.control.mode := by
  unfold retarget doRetarget
  split
  · dsimp only
    split
    · simp [readTrack_control]
    · rw [control_of_besideFocus (besideFocus_handTarget _ _)]
      split <;> simp [readTrack_control]
  · exact ⟨rfl, rfl⟩

/-! ### The requests -/

theorem supersedeSearch_none {c : Chip} (h : c.search.phase = .none) : supersedeSearch c = c := by
  simp [supersedeSearch, searching, h]

/-- The outcome of SET_DISTANCE and RESUME_TRACKING leaves the distance and the mode. -/
theorem moveForRequest_control (c : Chip) : (moveForRequest c).control.distance = c.control.distance
    ∧ (moveForRequest c).control.mode = c.control.mode := by
  unfold moveForRequest
  split
  · exact ⟨rfl, rfl⟩
  · split
    · rw [control_of_blocks (blocks_finish _ _ _ c)]
      exact ⟨rfl, rfl⟩
    · exact retarget_control c

/-- Where no move can be made the request is DONE with NOT_MOVED. -/
theorem moveForRequest_cannot {c : Chip} (hhoming : c.focus.state ≠ .homing) (h : c.focus.homed = false
    ∨ c.focus.state = .fault ∨ c.zoom.state = .parking ∨ c.zoom.state = .parked) :
    moveForRequest c = finish .focus .done .notMoved c := by
  unfold moveForRequest
  rw [if_neg (fun hboth => hhoming hboth.1), if_pos]
  unfold cannotMove
  rcases h with h | h | h | h <;> simp [h]

/-- The part with the distance and mode of SET_DISTANCE. -/
def distanceSet (d : Nat) (c : Chip) : Chip :=
  watchAfresh (setControl (fun k => { k with distance := min d 448, mode := .manual }) (setClamped .focus (448 < d) c))

/-- The part with the mode of RESUME_TRACKING. -/
def trackingResumed (c : Chip) : Chip := watchKeepingStep (setControl (fun k => { k with mode := .tracking }) c)

theorem blocks_distanceSet (d : Nat) (c : Chip) : blocks (distanceSet d c)
    = { blocks c with control := (distanceSet d c).control, following := (distanceSet d c).following } := by
  simp [distanceSet, watchAfresh, setFollowing_control]

theorem blocks_trackingResumed (c : Chip) : blocks (trackingResumed c)
    = { blocks c with control := (trackingResumed c).control, following := (trackingResumed c).following } := by
  simp [trackingResumed, watchKeepingStep, setFollowing_control]

/-- An entry to CONTINUOUS sets the mode and the window to follow. -/
theorem enterContinuous_sets (w : Nat) (c : Chip) :
    (enterContinuous w c).control = { c.control with mode := .continuous }
      ∧ (enterContinuous w c).following
        = { c.following with window := w, lastNear := true, reference := none, falls := 0, episode := none }
      ∧ (enterContinuous w c).records = c.records := by
  refine ⟨?_, ?_, ?_⟩
  · rw [enterContinuous, watchKeepingStep_control, setFollowing_control, setControl_control]
  · simp only [enterContinuous, watchKeepingStep, setFollowing_following]
    rw [following_of_blocks (blocks_setControl _ _)]
    rfl
  · simp [enterContinuous, watchKeepingStep, setFollowing_records]

theorem takeSetDistance_eq (d : Nat) {c : Chip} (h : c.search.phase = .none) :
    takeSetDistance d c = moveForRequest (distanceSet d c) := by
  rw [takeSetDistance, supersedeSearch_none h]
  rfl

theorem takeResumeTracking_eq {c : Chip} (h : c.search.phase = .none) :
    takeResumeTracking c = moveForRequest (trackingResumed c) := by
  rw [takeResumeTracking, supersedeSearch_none h]
  rfl

theorem takeContinuousOn_eq {c : Chip} (h : c.search.phase = .none) :
    takeContinuousOn c = finish .focus .done .none (enterContinuous (lowestEnabled c) c) := by
  unfold takeContinuousOn
  rw [supersedeSearch_none h]
  simp [searching, h]

/-- The lowest enabled window is the one below which none is enabled. -/
theorem lowestEnabled_eq {c : Chip} {w : Nat} (hw : w < 5) (h : (cfg c).stats.enables.getD w false = true)
    (hbelow : ∀ v < w, (cfg c).stats.enables.getD v false = false) : lowestEnabled c = w := by
  unfold lowestEnabled
  have hfind : (List.range 5).find? (fun v => (cfg c).stats.enables.getD v false) = some w := by
    rw [List.find?_range_eq_some]
    exact ⟨h, List.mem_range.mpr hw, fun v hv => by rw [hbelow v hv]; rfl⟩
  rw [hfind]
  rfl

/-- The end of a superseding request of the part `d`, in which no event waits. -/
theorem finish_concluded {r : RecordId} {e : Word} {s : State} {d : Chip} (k : Bool) (o : ReqOutcome) (x : Detail)
    (hq : isQueuing r = false) (h : Said.NewRequest r e s.chip) (hevents : d.events = [])
    (hrecords : d.records = (setClamped r k (adopted r e s.chip)).records) :
    (finish r o x d).events = [] ∧ record (concluded (finish r o x d) s).chip r = Said.entry r e o x k s.chip := by
  have ⟨_, _, _, hearlier, hlen, _⟩ := h
  have hentry : record d r = Said.entry r e .active .none k s.chip :=
    (record_of_records hrecords _).trans (record_setClamped_adopted k hlen rfl)
  have hnone : (finish r o x d).events = [] :=
    (finish_events o x (c := d) hq (by rw [hentry]; exact hearlier)).trans hevents
  exact ⟨hnone, (concluded_record s hnone r).trans (record_finish_clamped k o x hlen hearlier rfl hrecords)⟩

theorem focus_delivered {e : Word} {c : Chip} (q : FocusRequest) (h : Said.NewRequest .focus e c) :
    readNew .focus e (.focus q) c = takeFocus q (adopted .focus e c) :=
  readNew_delivered (.focus q) h (by decide) rfl

/-- Settles O33. -/
theorem focusModes : Obligations.FocusModes := by
  unfold Obligations.FocusModes
  intro e d s h hsearch
  have ⟨_, _, _, hearlier, hlen, _⟩ := h
  have distance : exec (.setDistance e d) s = .next (concluded (moveForRequest (distanceSet d.toNat (adopted .focus e s.chip))) s) :=
    exec_of_commit rfl ((focus_delivered (.setDistance d.toNat) h).trans (takeSetDistance_eq _ hsearch))
  have tracking : exec (.resumeTracking e) s = .next (concluded (moveForRequest (trackingResumed (adopted .focus e s.chip))) s) :=
    exec_of_commit rfl ((focus_delivered .resumeTracking h).trans (takeResumeTracking_eq hsearch))
  have continuous : exec (.continuousOn e) s = .next (concluded (finish .focus .done .none
      (enterContinuous (lowestEnabled s.chip) (adopted .focus e s.chip))) s) :=
    exec_of_commit rfl ((focus_delivered .continuousOn h).trans (takeContinuousOn_eq hsearch))
  refine ⟨⟨_, distance, ?_⟩, ⟨_, tracking, ?_⟩, ⟨_, continuous, ?_⟩, fun hevents hhoming hcannot => ⟨?_, ?_⟩⟩
  · obtain ⟨hdistance, hmode⟩ := moveForRequest_control (distanceSet d.toNat (adopted .focus e s.chip))
    rw [hdistance, hmode, distanceSet, watchAfresh_control, setControl_control]
    exact ⟨rfl, rfl⟩
  · obtain ⟨hdistance, hmode⟩ := moveForRequest_control (trackingResumed (adopted .focus e s.chip))
    rw [hdistance, hmode, trackingResumed, watchKeepingStep_control, setControl_control]
    exact ⟨rfl, rfl⟩
  · obtain ⟨hcontrol, hfollowing, hrecords⟩ := enterContinuous_sets (lowestEnabled s.chip) (adopted .focus e s.chip)
    rw [control_of_blocks (blocks_finish _ _ _ _) hcontrol, following_of_blocks (blocks_finish _ _ _ _) hfollowing]
    exact ⟨rfl, rfl, rfl, rfl, fun w hw henabled hbelow => lowestEnabled_eq hw henabled hbelow,
      record_finish_adopted .done .none hlen hearlier hrecords⟩
  · have hmove := moveForRequest_cannot (c := distanceSet d.toNat (adopted .focus e s.chip))
      (by rw [focus_of_blocks (blocks_distanceSet _ _)]; exact hhoming)
      (by rw [focus_of_blocks (blocks_distanceSet _ _), zoom_of_blocks (blocks_distanceSet _ _)]; exact hcannot)
    rw [hmove] at distance
    obtain ⟨hnone, hentry⟩ := finish_concluded (r := .focus) (d := distanceSet d.toNat (adopted .focus e s.chip)) (s := s)
      (448 < d.toNat) .done .notMoved rfl h (by simp [distanceSet, watchAfresh, hevents])
      (by simp [distanceSet, watchAfresh, setFollowing_records])
    refine ⟨_, distance, ?_, hentry⟩
    exact (conclude_focus _ hnone).trans (focus_of_blocks (blocks_finish _ _ _ _) (focus_of_blocks (blocks_distanceSet _ _)))
  · have hmove := moveForRequest_cannot (c := trackingResumed (adopted .focus e s.chip))
      (by rw [focus_of_blocks (blocks_trackingResumed _)]; exact hhoming)
      (by rw [focus_of_blocks (blocks_trackingResumed _), zoom_of_blocks (blocks_trackingResumed _)]; exact hcannot)
    rw [hmove] at tracking
    obtain ⟨hnone, hentry⟩ := finish_concluded (r := .focus) (d := trackingResumed (adopted .focus e s.chip)) (s := s)
      false .done .notMoved rfl h (by simp [trackingResumed, watchKeepingStep, hevents])
      (by simp [trackingResumed, watchKeepingStep, setFollowing_records, setClamped])
    refine ⟨_, tracking, ?_, hentry⟩
    exact (conclude_focus _ hnone).trans (focus_of_blocks (blocks_finish _ _ _ _) (focus_of_blocks (blocks_trackingResumed _)))

end Sys2Proof.Proofs.FocusRequests
end

section
/-! PROOFS. ZOOM requests (R58 to R60) and the lens SERVICE kinds at the Zoom Drive (R63, R64). -/

namespace Sys2Proof.Proofs.ZoomRequests

-- One elaboration thread at a time: each waiting thread reserves a stack, and the text is long.
set_option Elab.async false

open Sys2Proof Sys2Proof.Machine Sys2Proof.Proofs.Part Sys2Proof.Proofs.SensorLimits Sys2Proof.Proofs.Requests
open Sys2Proof.Proofs.StoreRequests Sys2Proof.Proofs.ExposureRequests Sys2Proof.Proofs.FocusRequests

/-! ### What the end of a command may change -/

/-- The part without notice lines, the answer writer, its bus writes and continuous following. -/
def besideEnd (c : Chip) : Chip :=
  { c with port := { c.port with noticeA := false, noticeB := false }, answers := {}, following := {}, busOut := [] }

@[simp] theorem besideEnd_mark (a : AnswerId) (c : Chip) : besideEnd (mark a c) = besideEnd c := rfl
@[simp] theorem besideEnd_evalLines (c : Chip) : besideEnd (evalLines c) = besideEnd c := rfl
@[simp] theorem besideEnd_takeLensParts (c : Chip) : besideEnd (takeLensParts c) = besideEnd c := rfl

@[simp] theorem besideEnd_setFollowing (f : Following → Following) (c : Chip) :
    besideEnd (setFollowing f c) = besideEnd c := by
  unfold setFollowing
  dsimp only
  split <;> rfl

@[simp] theorem besideEnd_evalFollowing (c : Chip) : besideEnd (evalFollowing c) = besideEnd c := by
  unfold evalFollowing watchKeepingStep
  (repeat' split) <;> simp

@[simp] theorem besideEnd_writeNext (c : Chip) : besideEnd (writeNext c) = besideEnd c := by
  unfold writeNext
  (repeat' split) <;> rfl

/-- The end of a command in which no event waits changes nothing else. -/
theorem besideEnd_concluded {c : Chip} (s : State) (h : c.events = []) : besideEnd (concluded c s).chip = besideEnd c := by
  have hsettle : settle c = c := settle_of_no_events c h
  have hconclude : besideEnd (conclude c) = besideEnd c := by simp [conclude, hsettle]
  exact hconclude

theorem port_of_besideEnd {c d : Chip} (h : besideEnd d = besideEnd c) :
    d.port = { c.port with noticeA := d.port.noticeA, noticeB := d.port.noticeB } :=
  calc d.port = { (besideEnd d).port with noticeA := d.port.noticeA, noticeB := d.port.noticeB } := rfl
    _ = { c.port with noticeA := d.port.noticeA, noticeB := d.port.noticeB } := by rw [h]; rfl

/-- The same without the Zoom Drive and the acknowledgement entries. -/
def besideMove (c : Chip) : Chip := { (besideEnd c) with records := [], zoom := {} }

@[simp] theorem besideMove_setZoom (f : Zoom → Zoom) (c : Chip) : besideMove (setZoom f c) = besideMove c := rfl
@[simp] theorem besideMove_adopted (r : RecordId) (e : Word) (c : Chip) : besideMove (adopted r e c) = besideMove c := rfl

@[simp] theorem besideMove_enterZoom (k : ZoomState) (f : Zoom → Zoom) (c : Chip) :
    besideMove (enterZoom k f c) = besideMove c := by
  unfold enterZoom
  dsimp only
  split <;> rfl

@[simp] theorem besideMove_setClamped (r : RecordId) (b : Bool) (c : Chip) :
    besideMove (setClamped r b c) = besideMove c := by
  unfold setClamped
  split <;> rfl

/-- What a move leaves, as an equation of whole parts. -/
theorem chip_of_besideMove {c d : Chip} (h : besideMove d = besideMove c) : c = { d with
        records := c.records, zoom := c.zoom, answers := c.answers, port := c.port, following := c.following,
        busOut := c.busOut } :=
  calc c = { (besideMove c) with
        records := c.records, zoom := c.zoom, answers := c.answers, port := c.port, following := c.following,
        busOut := c.busOut } := rfl
    _ = _ := by rw [← h]; rfl

/-! ### The setters of the drive -/

@[simp] theorem blocks_enterZoom (k : ZoomState) (f : Zoom → Zoom) (c : Chip) :
    blocks (enterZoom k f c) = { blocks c with zoom := { f c.zoom with state := k } } := by
  unfold enterZoom
  dsimp only
  split <;> rfl

@[simp] theorem enterZoom_zoom (k : ZoomState) (f : Zoom → Zoom) (c : Chip) :
    (enterZoom k f c).zoom = { f c.zoom with state := k } := zoom_of_blocks (blocks_enterZoom k f c)

@[simp] theorem enterZoom_service (k : ZoomState) (f : Zoom → Zoom) (c : Chip) :
    (enterZoom k f c).service = c.service := service_of_blocks (blocks_enterZoom k f c)

@[simp] theorem enterZoom_records (k : ZoomState) (f : Zoom → Zoom) (c : Chip) :
    (enterZoom k f c).records = c.records := by
  unfold enterZoom
  dsimp only
  split <;> rfl

@[simp] theorem enterZoom_events (k : ZoomState) (f : Zoom → Zoom) (c : Chip) :
    (enterZoom k f c).events = c.events := by
  unfold enterZoom
  dsimp only
  split <;> rfl

@[simp] theorem setZoom_events' (f : Zoom → Zoom) (c : Chip) : (setZoom f c).events = c.events := rfl

/-- Reading the focal length code leaves state, service and records. -/
theorem readFocalCode_keeps (c : Chip) : (readFocalCode c).zoom.state = c.zoom.state
    ∧ (readFocalCode c).records = c.records := by
  have hread := (readWord_readFrom .zp (132 + c.zoom.zone) c).1
  unfold readFocalCode
  dsimp only
  split
  · exact ⟨(congrArg (fun d : Chip => d.zoom.state) hread :), (congrArg Chip.records hread :)⟩
  · exact ⟨(congrArg (fun d : Chip => d.zoom.state) hread :), (congrArg Chip.records hread :)⟩

/-- An entry to IDLE. -/
theorem enterIdle_sets (c : Chip) : (enterIdle c).zoom.state = .idle ∧ .zoomSettled ∈ (enterIdle c).events
    ∧ (enterIdle c).records = c.records := by
  obtain ⟨hstate, hrecords⟩ := readFocalCode_keeps (enterZoom .idle (fun z => { z with
    phase := .none, motor := .rest, after := .none, holdMark := false, drift := false, afterHoming := false }) c)
  refine ⟨?_, ?_, ?_⟩
  · simp [enterIdle, hstate]
  · simp [enterIdle]
  · simp [enterIdle, hrecords]

/-! ### Hand-over of a ZOOM request with no search in progress -/

theorem zoom_delivered {e : Word} {c : Chip} (q : ZoomRequest) (h : Said.NewRequest .zoom e c)
    (hsearch : c.search.phase = .none) :
    readNew .zoom e (.zoom q) c = takeZoom q (adopted .zoom e c) := by
  rw [readNew_of_newRequest (.zoom q) (by decide) h (heldStill_of_newRequest h (by decide))]
  unfold endSearchForZoom
  split
  · rw [endEarly_noSearch _ _ (adopted .zoom e c) hsearch]
    rfl
  · rfl

/-- A move, by what it asks for. -/
theorem zoomMove_request {e : Word} {s : State} {i : Instr} {t : Int} {k : Bool} (h : Said.ZoomMove e s.chip i t k) :
    ∃ q, exec i s = commit (readNew .zoom e (.zoom q)) s ∧ (∀ c, takeZoom q c = takeZoomMove q c)
      ∧ zoomTarget q (adopted .zoom e s.chip) = (t, k) := by
  rcases h with ⟨p, rfl, rfl, rfl⟩ | ⟨z, rfl, rfl, rfl⟩ | ⟨d, rfl, rfl, rfl⟩
  · exact ⟨.goto p.toInt, rfl, fun _ => rfl, rfl⟩
  · exact ⟨.gotoZone z.toInt, rfl, fun _ => rfl, rfl⟩
  · exact ⟨.run d.toInt, rfl, fun _ => rfl, rfl⟩

/-- A refused superseding request of the part `d`, in which no event waits. -/
theorem refuse_concluded {r : RecordId} {e : Word} {s : State} (x : Detail) (hq : isQueuing r = false)
    (h : Said.NewRequest r e s.chip) (hevents : s.chip.events = []) :
    (refuse r x (adopted r e s.chip)).events = []
      ∧ record (concluded (refuse r x (adopted r e s.chip)) s).chip r = Said.entry r e .refused x false s.chip := by
  have ⟨_, _, _, hearlier, hlen, _⟩ := h
  have hnone : (refuse r x (adopted r e s.chip)).events = [] := by
    refine (finish_events _ _ hq ?_).trans hevents
    rw [record_setRecord_same _ _ _ (by rw [adopted_records_length, hlen]), record_adopted r e s.chip hlen]
    exact hearlier
  exact ⟨hnone, (concluded_record s hnone r).trans (record_refuse_adopted x hlen hearlier rfl)⟩

/-! ### A move from IDLE (R56) -/

/-- The drive of a move that begins, before its first drive. -/
def moveKept (m : ZoomSettings) (z : Zoom) : Zoom :=
  { z with
    kept := m, corrections := 0, retries := 0, stallAt := none, after := .none, holdMark := false, drift := false,
    afterHoming := false, state := .moving }

/-- The drive after the first drive of a move. -/
def drivenMove (m : ZoomSettings) (c : Chip) : Chip := setZoom driveMove (enterZoom .moving (moveKept m) c)

theorem drivenMove_zoom (m : ZoomSettings) (c : Chip) : (drivenMove m c).zoom = driveMove (moveKept m c.zoom) :=
  congrArg driveMove (enterZoom_zoom .moving (moveKept m) c)

theorem drivenMove_events (m : ZoomSettings) (c : Chip) : (drivenMove m c).events = c.events := enterZoom_events _ _ _

theorem drivenMove_records (m : ZoomSettings) (c : Chip) : (drivenMove m c).records = c.records := enterZoom_records _ _ _

theorem drivenMove_port (m : ZoomSettings) (c : Chip) : (drivenMove m c).port = c.port :=
  (port_of_blocks (blocks_enterZoom .moving (moveKept m) c) :)

theorem besideMove_drivenMove (m : ZoomSettings) (c : Chip) : besideMove (drivenMove m c) = besideMove c := by
  simp [drivenMove]

/-- The part with the target of a move, and the clamped flag of its request. -/
def moveTargeted (t : Int) (k : Bool) (c : Chip) : Chip :=
  setZoom (fun z => { z with target := t }) (setClamped .zoom k c)

theorem moveTargeted_zoom (t : Int) (k : Bool) (c : Chip) : (moveTargeted t k c).zoom = { c.zoom with target := t } :=
  congrArg (fun z : Zoom => { z with target := t }) (zoom_of_blocks (blocks_setClamped .zoom k c))

theorem moveTargeted_settings (t : Int) (k : Bool) (c : Chip) : (moveTargeted t k c).settings = c.settings :=
  (settings_of_blocks (blocks_setClamped .zoom k c) :)

theorem moveTargeted_port (t : Int) (k : Bool) (c : Chip) : (moveTargeted t k c).port = c.port :=
  (port_of_blocks (blocks_setClamped .zoom k c) :)

theorem moveTargeted_events (t : Int) (k : Bool) (c : Chip) : (moveTargeted t k c).events = c.events :=
  setClamped_events .zoom k c

/-- A move that begins outside the tolerance and the brake lead drives toward its target. -/
theorem beginMove_drives {c : Chip} (hlead : (cfg c).zoom.brakeLead < distanceTo c.zoom.target c.zoom)
    (htolerance : (cfg c).zoom.tolerance < distanceTo c.zoom.target c.zoom) :
    beginMove c = drivenMove (cfg c).zoom c := by
  have hmove : ∀ z, moveKept (cfg c).zoom z = { moveKept (cfg c).zoom z with state := .moving } := fun _ => rfl
  have hzoom : (enterZoom .moving (moveKept (cfg c).zoom) c).zoom = moveKept (cfg c).zoom c.zoom := enterZoom_zoom _ _ _
  have hoff : onTarget (moveKept (cfg c).zoom c.zoom) = false := by
    have hfar : ¬ distanceTo (moveKept (cfg c).zoom c.zoom).target (moveKept (cfg c).zoom c.zoom)
        ≤ (moveKept (cfg c).zoom c.zoom).kept.tolerance := Nat.not_le.mpr htolerance
    simp [onTarget, hfar]
  have hbegin : beginMove c = if onTarget (enterZoom .moving (moveKept (cfg c).zoom) c).zoom
      then finish .zoom .done .none (enterIdle (enterZoom .moving (moveKept (cfg c).zoom) c))
      else if distanceTo (enterZoom .moving (moveKept (cfg c).zoom) c).zoom.target
            (enterZoom .moving (moveKept (cfg c).zoom) c).zoom
          ≤ (enterZoom .moving (moveKept (cfg c).zoom) c).zoom.kept.brakeLead
        then setZoom (fun z => startCorrection { z with corrections := 1 }) (enterZoom .moving (moveKept (cfg c).zoom) c)
        else setZoom driveMove (enterZoom .moving (moveKept (cfg c).zoom) c) := rfl
  rw [hbegin, hzoom, hoff]
  exact if_neg (Nat.not_le.mpr hlead)

/-- GOTO, GOTO_ZONE and RUN from IDLE with the tables VALID. -/
theorem takeZoomMove_idle {q : ZoomRequest} {c : Chip} (htables : c.tables.state = .valid) (hidle : c.zoom.state = .idle) :
    takeZoomMove q c
      = beginMove (moveTargeted (zoomTarget q c).1 (zoomTarget q c).2 c) := by
  simp [takeZoomMove, htables, hidle, moveTargeted]

/-- Settles O31. -/
theorem zoomMoves : Obligations.ZoomMoves := by
  unfold Obligations.ZoomMoves
  intro e s i t k h hsearch hevents hmove htables hidle m distance d hlead htolerance
  have ⟨_, _, _, hearlier, hlen, _⟩ := h
  obtain ⟨q, hexec, htake, htarget⟩ := zoomMove_request hmove
  let start := moveTargeted t k (adopted .zoom e s.chip)
  have hzoom : start.zoom = { s.chip.zoom with target := t } := moveTargeted_zoom t k _
  have hcfg : cfg start = cfg s.chip := cfg_of_settings (moveTargeted_settings t k _)
  have hbegin : beginMove start = drivenMove m start := by
    rw [beginMove_drives (by rw [hcfg, hzoom]; exact hlead) (by rw [hcfg, hzoom]; exact htolerance), hcfg]
  have hstart : readNew .zoom e (.zoom q) s.chip = drivenMove m start := by
    rw [zoom_delivered q h hsearch, htake, takeZoomMove_idle (c := adopted .zoom e s.chip) htables hidle, htarget, hbegin]
  have hnone : (drivenMove m start).events = [] :=
    (drivenMove_events m start).trans ((moveTargeted_events t k _).trans hevents)
  have hrecords : (drivenMove m start).records = (setClamped .zoom k (adopted .zoom e s.chip)).records :=
    drivenMove_records m start
  have hdrive : (drivenMove m start).zoom = driveMove (moveKept m { s.chip.zoom with target := t }) := by
    rw [drivenMove_zoom, hzoom]
  refine ⟨_, exec_of_commit hexec hstart, ?_, ?_, fun r hr => ?_, ?_, ?_⟩
  · rw [concluded_record s hnone, record_of_records hrecords]
    exact record_setClamped_adopted k hlen rfl
  · exact (conclude_zoom _ hnone).trans hdrive
  · rw [concluded_record s hnone, record_of_records hrecords, record_setClamped_other _ _ hr, record_adopted_other _ _ hr]
  · have hport : (drivenMove m start).port = s.chip.port := (drivenMove_port m start).trans (moveTargeted_port t k _)
    rw [← hport]
    exact port_of_besideEnd (besideEnd_concluded s hnone)
  · apply chip_of_besideMove
    have hconcluded : besideMove (concluded (drivenMove m start) s).chip = besideMove (drivenMove m start) :=
      congrArg (fun d : Chip => { d with records := [], zoom := {} }) (besideEnd_concluded s hnone)
    rw [hconcluded, besideMove_drivenMove]
    simp [start, moveTargeted]

/-! ### STOP and the refusals (R59, R60) -/

/-- The refusal of a move, by table and zoom state. -/
theorem takeZoomMove_refused {q : ZoomRequest} {c : Chip} {d : Detail}
    (h : (c.tables.state ≠ .valid ∧ d = .noTables)
      ∨ (c.tables.state = .valid ∧ c.zoom.state = .lost ∧ d = .zoomLost)
      ∨ (c.tables.state = .valid ∧ c.zoom.state = .fault ∧ d = .zoomFault)
      ∨ (c.tables.state = .valid ∧ c.zoom.state = .parked ∧ d = .zoomParked)) :
    takeZoomMove q c = refuse .zoom d c := by
  unfold takeZoomMove
  rcases h with ⟨htables, rfl⟩ | ⟨htables, hzoom, rfl⟩ | ⟨htables, hzoom, rfl⟩ | ⟨htables, hzoom, rfl⟩
  · rw [if_pos htables]
  all_goals simp [htables, hzoom]

theorem takeZoomStop_refused {c : Chip} {d : Detail}
    (h : (c.zoom.state = .lost ∧ d = .zoomLost) ∨ (c.zoom.state = .fault ∧ d = .zoomFault)) :
    takeZoomStop c = refuse .zoom d c := by
  rcases h with ⟨hzoom, rfl⟩ | ⟨hzoom, rfl⟩ <;> simp [takeZoomStop, hzoom]

theorem takeZoomStop_rest {c : Chip} (h : c.zoom.state = .idle ∨ c.zoom.state = .parked) :
    takeZoomStop c = finish .zoom .done .none c := by
  rcases h with h | h <;> simp [takeZoomStop, h]

theorem takeZoomStop_held {c : Chip} (h : c.zoom.state = .held) :
    takeZoomStop c = finish .zoom .done .none (enterIdle c) := by
  simp [takeZoomStop, h]

theorem takeZoomStop_moving {c : Chip} (h : c.zoom.state = .moving) :
    takeZoomStop c = setZoom (fun z => brakeIfDriving { z with
      after := unlessTableFault .stop z, faultStop := z.after == .tableFault, holdMark := false }) c := by
  simp [takeZoomStop, h]

/-- Where the part after a refusal stands: the zoom as it was and the record refused. -/
theorem zoom_refused {e : Word} {i : Instr} {s : State} {d : Detail} (h : Said.NewRequest .zoom e s.chip)
    (hevents : s.chip.events = [])
    (hexec : exec i s = .next (concluded (refuse .zoom d (adopted .zoom e s.chip)) s)) :
    ∃ u, exec i s = .next u ∧ u.chip.zoom = s.chip.zoom
      ∧ record u.chip .zoom = Said.entry .zoom e .refused d false s.chip := by
  obtain ⟨hnone, hentry⟩ := refuse_concluded (r := .zoom) d rfl h hevents
  exact ⟨_, hexec, (conclude_zoom _ hnone).trans (zoom_of_blocks (blocks_refuse _ _ _)), hentry⟩

/-- A drive that the request sets, with the record ACTIVE. -/
theorem zoom_active {e : Word} {i : Instr} {s : State} {f : Zoom → Zoom} (h : Said.NewRequest .zoom e s.chip)
    (hevents : s.chip.events = [])
    (hexec : exec i s = .next (concluded (setZoom f (adopted .zoom e s.chip)) s)) :
    ∃ u, exec i s = .next u ∧ u.chip.zoom = f s.chip.zoom
      ∧ record u.chip .zoom = Said.entry .zoom e .active .none false s.chip := by
  have ⟨_, _, _, _, hlen, _⟩ := h
  have hnone : (setZoom f (adopted .zoom e s.chip)).events = [] := hevents
  exact ⟨_, hexec, conclude_zoom _ hnone, (concluded_record s hnone _).trans (record_adopted .zoom e s.chip hlen)⟩

/-- Settles O32. -/
theorem zoomStopAndRefusals : Obligations.ZoomStopAndRefusals := by
  unfold Obligations.ZoomStopAndRefusals
  intro e s h hsearch hevents
  have ⟨_, _, _, hearlier, hlen, _⟩ := h
  have stop := fun d (hd : takeZoomStop (adopted .zoom e s.chip) = d) =>
    exec_of_commit (i := .zoomStop e) (s := s) rfl ((zoom_delivered .stop h hsearch).trans hd)
  refine ⟨fun hrest => ?rest, fun hheld => ?held, fun d hmoving hmotor hafter => ?drive,
    fun hmoving hmotor hafter => ?fault, fun i d hrefused => ?refused⟩
  case rest =>
    obtain ⟨hnone, hentry⟩ := finish_concluded (r := .zoom) (s := s) (d := adopted .zoom e s.chip) false .done .none rfl h
      hevents rfl
    exact ⟨_, stop _ (takeZoomStop_rest hrest), (conclude_zoom _ hnone).trans (zoom_of_blocks (blocks_finish _ _ _ _)),
      hentry⟩
  case held =>
    obtain ⟨hstate, hsettled, hrecords⟩ := enterIdle_sets (adopted .zoom e s.chip)
    refine ⟨_, stop _ (takeZoomStop_held hheld), ?_, ?_, record_finish_adopted .done .none hlen hearlier hrecords⟩
    · exact (congrArg Zoom.state (zoom_of_blocks (blocks_finish _ _ _ _) rfl)).trans hstate
    · rw [finish_events .done .none rfl
        (by rw [record_of_records hrecords, record_adopted .zoom e s.chip hlen]; exact hearlier)]
      exact hsettled
  case drive =>
    obtain ⟨u, hexec, hzoom, hentry⟩ := zoom_active h hevents (stop _ (takeZoomStop_moving hmoving))
    refine ⟨u, hexec, ?_, hentry⟩
    rw [hzoom]
    simp [brakeIfDriving, hmotor, hmoving, unlessTableFault, hafter, isDriving]
  case fault =>
    obtain ⟨u, hexec, hzoom, hentry⟩ := zoom_active h hevents (stop _ (takeZoomStop_moving hmoving))
    refine ⟨u, hexec, ?_, hentry⟩
    rw [hzoom]
    simp [brakeIfDriving, hmotor, unlessTableFault, hafter, isDriving]
  case refused =>
    rcases hrefused with ⟨t, k, hmove, hstate⟩ | ⟨rfl, hstate⟩ | ⟨rfl, hstate⟩
    · obtain ⟨q, hexec, htake, -⟩ := zoomMove_request hmove
      exact zoom_refused h hevents (exec_of_commit hexec ((zoom_delivered q h hsearch).trans
        ((htake _).trans (takeZoomMove_refused (c := adopted .zoom e s.chip) hstate))))
    · exact zoom_refused h hevents (stop _ (takeZoomStop_refused (.inl hstate)))
    · exact zoom_refused h hevents (stop _ (takeZoomStop_refused (.inr hstate)))

/-! ### The lens SERVICE kinds (R63, R64) -/

/-- The part with a lens SERVICE request in its zoom part. -/
def inZoomPart (k : ServiceKind) (e : Word) (c : Chip) : Chip :=
  { (adopted .service e c) with service := some ⟨k, .zoom⟩ }

theorem beginLensService_none (k : ServiceKind) (e : Word) {c : Chip} (h : c.search.phase = .none) :
    beginLensService k (adopted .service e c) = inZoomPart k e c :=
  endEarly_noSearch _ _ (inZoomPart k e c) h

theorem record_inZoomPart (k : ServiceKind) (e : Word) {c : Chip} (hlen : c.records.length = 9) :
    record (inZoomPart k e c) .service = Said.entry .service e .active .none false c := record_adopted .service e c hlen

/-- A drive that enters another state for the request. -/
theorem enterZoom_service_keeps (z : ZoomState) (f : Zoom → Zoom) (k : ServiceKind) (e : Word) {c : Chip}
    (hlen : c.records.length = 9) : let d := enterZoom z f (inZoomPart k e c)
    d.service = some ⟨k, .zoom⟩ ∧ record d .service = Said.entry .service e .active .none false c
      ∧ d.zoom = { f c.zoom with state := z } :=
  ⟨enterZoom_service _ _ _, (record_of_records (enterZoom_records _ _ _) _).trans (record_inZoomPart k e hlen),
    enterZoom_zoom _ _ _⟩

theorem serviceRehome_home {c : Chip} (htables : c.tables.state = .valid)
    (h : c.zoom.state = .idle ∨ c.zoom.state = .parked ∨ c.zoom.state = .lost ∨ c.zoom.state = .fault) :
    serviceRehome c = beginHoming .unpark c := by
  rcases h with h | h | h | h <;> simp [serviceRehome, htables, h]

theorem serviceRehome_held {c : Chip} (htables : c.tables.state = .valid) (h : c.zoom.state = .held) :
    serviceRehome c = finish .zoom .abandoned .serviceTakeover (brakeFromHeld (.home .unpark) c) := by
  simp [serviceRehome, htables, h]

theorem serviceRehome_moving {c : Chip} (htables : c.tables.state = .valid) (h : c.zoom.state = .moving) :
    serviceRehome c = finish .zoom .abandoned .serviceTakeover (setZoom (brakeBefore (.home .unpark)) c) := by
  simp [serviceRehome, htables, h, takeOver]

/-- Homing begins with the drive off its reference sensor's side (R63). -/
theorem beginHoming_zoom (goal : HomingGoal) (c : Chip) : let z := (beginHoming goal c).zoom
    z.state = .homing ∧ z.known = false ∧ z.homingGoal = goal ∧ z.fault = .none
      ∧ z.motor = .drive (match c.zoom.reference with | .inside => .tele | .out => .wide) := by
  intro z
  have hz : z = _ := enterZoom_zoom _ _ c
  rw [hz]
  cases h : c.zoom.reference <;> exact ⟨rfl, rfl, rfl, rfl, rfl⟩

/-- The first drive of a park or an unpark move is toward its goal, or a brake within the brake lead (R64). -/
theorem drivePark_motor (z : Zoom) : (drivePark z).motor = (if (parkGoal z - z.counter).natAbs ≤ z.kept.brakeLead
      then Motor.brake else .drive (if z.counter < parkGoal z then .tele else .wide))
    ∧ (drivePark z).state = z.state ∧ (drivePark z).after = z.after := by
  unfold drivePark distanceTo
  split <;> exact ⟨rfl, rfl, rfl⟩

theorem beginPark_park (c : Chip) : let z := (beginPark .park false c).zoom
    z.state = .parking ∧ z.after = .parked ∧ z.motor = (let goal := (cfg c).zoom.zPark
      if (goal - c.zoom.counter).natAbs ≤ (cfg c).zoom.brakeLead then Motor.brake
      else .drive (if c.zoom.counter < goal then .tele else .wide)) := by
  intro z
  have hz : z = drivePark _ := congrArg drivePark (enterZoom_zoom _ _ c)
  rw [hz]
  obtain ⟨hmotor, hstate, hafter⟩ := drivePark_motor _
  exact ⟨hstate, hafter, hmotor⟩

theorem beginPark_unpark (c : Chip) : let z := (beginPark .unpark false c).zoom
    z.state = .unparking ∧ z.after = .unparked
      ∧ z.motor = (if c.zoom.counter.natAbs ≤ (cfg c).zoom.brakeLead then Motor.brake
        else .drive (if c.zoom.counter < 0 then .tele else .wide)) := by
  intro z
  have hz : z = drivePark _ := congrArg drivePark (enterZoom_zoom _ _ c)
  rw [hz]
  obtain ⟨hmotor, hstate, hafter⟩ := drivePark_motor _
  refine ⟨hstate, hafter, hmotor.trans ?_⟩
  show (if ((0 : Int) - c.zoom.counter).natAbs ≤ _ then _ else _) = _
  rw [Int.zero_sub, Int.natAbs_neg]
  rfl

/-- A drive that brakes before something else (R59, R63). -/
theorem brakeBefore_home (z : Zoom) (h : z.state = .moving) : (brakeBefore (.home .unpark) z).state = .moving
    ∧ (brakeBefore (.home .unpark) z).holdMark = false
    ∧ (brakeBefore (.home .unpark) z).after = (if z.after = .tableFault then .tableFault else .home .unpark)
    ∧ ((∃ d, z.motor = .drive d) →
      (brakeBefore (.home .unpark) z).phase = .braking ∧ (brakeBefore (.home .unpark) z).motor = .brake) := by
  unfold brakeBefore brakeIfDriving
  split
  · simp [h, unlessTableFault]
  next hdriving =>
    refine ⟨h, rfl, rfl, fun ⟨d, hmotor⟩ => ?_⟩
    simp [hmotor, isDriving] at hdriving

theorem servicePark_idle {c : Chip} (h : c.zoom.state = .idle) : servicePark c = beginPark .park false c := by
  simp [servicePark, h]

theorem servicePark_fault {c : Chip} (h : c.zoom.state = .fault) : servicePark c = refuseService .zoomFault c := by
  simp [servicePark, h]

theorem serviceUnpark_parked {c : Chip} (htables : c.tables.state = .valid) (h : c.zoom.state = .parked) :
    serviceUnpark c = beginPark .unpark false c := by
  simp [serviceUnpark, htables, h]

theorem serviceUnpark_refused {c : Chip} {d : Detail} (htables : c.tables.state = .valid)
    (h : (c.zoom.state = .lost ∧ d = .zoomLost) ∨ (c.zoom.state = .fault ∧ d = .zoomFault)) :
    serviceUnpark c = refuseService d c := by
  rcases h with ⟨hzoom, rfl⟩ | ⟨hzoom, rfl⟩ <;> simp [serviceUnpark, htables, hzoom]

/-- A refused lens SERVICE request leaves the zoom, and no request is active. -/
theorem refuseService_keeps {d : Detail} (k : ServiceKind) (e : Word) {c : Chip} (hlen : c.records.length = 9)
    (hearlier : (record c .service).earlierActive = false) :
    (refuseService d (inZoomPart k e c)).zoom = c.zoom ∧ (refuseService d (inZoomPart k e c)).service = none
      ∧ record (refuseService d (inZoomPart k e c)) .service = Said.entry .service e .refused d false c :=
  ⟨zoom_of_blocks (blocks_refuse _ _ _), service_of_blocks (blocks_refuse _ _ _), record_refuse_adopted d hlen hearlier rfl⟩

/-- The takeover of an active ZOOM request leaves the SERVICE record and the drive. -/
theorem takeover_keeps {e : Word} {c d : Chip} (hlen : c.records.length = 9)
    (hd : d.records = (adopted .service e c).records) :
    record (finish .zoom .abandoned .serviceTakeover d) .service = Said.entry .service e .active .none false c
      ∧ ((record c .zoom).earlierActive = false → (record c .zoom).outcome = .active →
        (record (finish .zoom .abandoned .serviceTakeover d) .zoom).outcome = .abandoned
          ∧ (record (finish .zoom .abandoned .serviceTakeover d) .zoom).detail = .serviceTakeover) := by
  have hzoom : record d .zoom = record c .zoom :=
    (record_of_records hd _).trans (record_adopted_other (r := .service) e c (by decide))
  refine ⟨?_, fun hearlier hactive => ?_⟩
  · rw [record_finish_other _ _ _ (by decide), record_of_records hd, record_adopted .service e c hlen]
  · rw [record_finish_active .zoom _ _ d (by rw [hzoom]; exact hearlier) (by rw [hzoom]; exact hactive)
      (by rw [hd]; exact (adopted_records_length _ _ _).trans hlen)]
    exact ⟨rfl, rfl⟩

/-- Settles O29. -/
theorem lensServices : Obligations.LensServices := by
  unfold Obligations.LensServices
  intro e s h hsearch
  have ⟨_, _, _, hearlier, hlen, _⟩ := h
  have rehome := fun d (hd : serviceRehome (inZoomPart .rehomeLens e s.chip) = d) =>
    exec_of_commit (i := .rehomeLens e) (s := s) rfl ((service_delivered .rehomeLens h).trans
      ((congrArg serviceRehome (beginLensService_none .rehomeLens e hsearch)).trans hd))
  have park := fun d (hd : servicePark (inZoomPart .park e s.chip) = d) =>
    exec_of_commit (i := .park e) (s := s) rfl ((service_delivered .park h).trans
      ((congrArg servicePark (beginLensService_none .park e hsearch)).trans hd))
  have unpark := fun d (hd : serviceUnpark (inZoomPart .unpark e s.chip) = d) =>
    exec_of_commit (i := .unpark e) (s := s) rfl ((service_delivered .unpark h).trans
      ((congrArg serviceUnpark (beginLensService_none .unpark e hsearch)).trans hd))
  refine ⟨fun htables hstate => ?home, fun htables hstate => ?brake, fun hidle => ?park, fun htables hparked => ?unpark,
    fun i d hrefused => ?refused⟩
  case home =>
    obtain ⟨hservice, hentry, -⟩ := enterZoom_service_keeps .homing _ .rehomeLens e hlen
    obtain ⟨hhoming, hknown, hgoal, hfault, hmotor⟩ := beginHoming_zoom .unpark (inZoomPart .rehomeLens e s.chip)
    exact ⟨_, rehome _ (serviceRehome_home htables hstate), hservice, hentry, hhoming, hknown, hgoal, hfault, hmotor⟩
  case brake =>
    rcases hstate with hheld | hmoving
    · have hrecords : (brakeFromHeld (.home .unpark) (inZoomPart .rehomeLens e s.chip)).records
        = (inZoomPart .rehomeLens e s.chip).records := enterZoom_records _ _ _
      obtain ⟨hentry, hzoomEntry⟩ := takeover_keeps hlen hrecords
      have hzoom : (finish .zoom .abandoned .serviceTakeover (brakeFromHeld (.home .unpark)
          (inZoomPart .rehomeLens e s.chip))).zoom = _ :=
        zoom_of_blocks (blocks_finish _ _ _ _) (enterZoom_zoom _ _ _)
      refine ⟨_, rehome _ (serviceRehome_held htables hheld), ?_, hentry, ?_, ?_, ?_, fun _ => ⟨?_, ?_⟩, hzoomEntry⟩
      · exact service_of_blocks (blocks_finish _ _ _ _) (enterZoom_service _ _ _)
      all_goals rw [hzoom]
      rw [if_neg (by rw [hheld]; simp)]
    · obtain ⟨hentry, hzoomEntry⟩ := takeover_keeps (d := setZoom (brakeBefore (.home .unpark))
        (inZoomPart .rehomeLens e s.chip)) hlen rfl
      have hzoom : (finish .zoom .abandoned .serviceTakeover (setZoom (brakeBefore (.home .unpark))
          (inZoomPart .rehomeLens e s.chip))).zoom = brakeBefore (.home .unpark) s.chip.zoom :=
        zoom_of_blocks (blocks_finish _ _ _ _)
      obtain ⟨hstate, hmark, hafter, hbrake⟩ := brakeBefore_home s.chip.zoom hmoving
      refine ⟨_, rehome _ (serviceRehome_moving htables hmoving), ?_, hentry, ?_, ?_, ?_, fun hdrive => ?_, hzoomEntry⟩
      · exact service_of_blocks (blocks_finish _ _ _ _)
      all_goals rw [hzoom]
      · exact hstate
      · exact hmark
      · simp only [hafter, hmoving, true_and]
      · exact hbrake (hdrive.resolve_left (by rw [hmoving]; decide))
  case park =>
    obtain ⟨hservice, hentry, -⟩ := enterZoom_service_keeps .parking _ .park e hlen
    obtain ⟨hstate, hafter, hmotor⟩ := beginPark_park (inZoomPart .park e s.chip)
    exact ⟨_, park _ (servicePark_idle hidle),
      hservice, hentry, hstate, hafter, hmotor⟩
  case unpark =>
    obtain ⟨hservice, hentry, -⟩ := enterZoom_service_keeps .unparking _ .unpark e hlen
    obtain ⟨hstate, hafter, hmotor⟩ := beginPark_unpark (inZoomPart .unpark e s.chip)
    exact ⟨_, unpark _ (serviceUnpark_parked htables hparked), hservice, hentry, hstate, hafter, hmotor⟩
  case refused =>
    rcases hrefused with ⟨rfl, htables, rfl⟩ | ⟨rfl, htables, rfl⟩ | ⟨rfl, htables, hstate, rfl⟩
      | ⟨rfl, htables, hstate, rfl⟩ | ⟨rfl, hstate, rfl⟩
    · exact ⟨_, rehome _ (if_pos htables), refuseService_keeps .rehomeLens e hlen hearlier⟩
    · exact ⟨_, unpark _ (if_pos htables), refuseService_keeps .unpark e hlen hearlier⟩
    · exact ⟨_, unpark _ (serviceUnpark_refused htables (.inl ⟨hstate, rfl⟩)),
        refuseService_keeps .unpark e hlen hearlier⟩
    · exact ⟨_, unpark _ (serviceUnpark_refused htables (.inr ⟨hstate, rfl⟩)),
        refuseService_keeps .unpark e hlen hearlier⟩
    · exact ⟨_, park _ (servicePark_fault hstate), refuseService_keeps .park e hlen hearlier⟩

end Sys2Proof.Proofs.ZoomRequests
end

section
/-! PROOFS. SETTINGS requests (R11): held, refused, loading and done. -/

namespace Sys2Proof.Proofs.SettingsRequests

-- One elaboration thread at a time: each waiting thread reserves a stack, and the text is long.
set_option Elab.async false

open Sys2Proof Sys2Proof.Machine Sys2Proof.Proofs.Part Sys2Proof.Proofs.SensorLimits Sys2Proof.Proofs.Requests

theorem geometryChanges_of_ne {new t : Settings} {c : Chip} (ht : c.settings = some t)
    (h : t.pool.poolBase ≠ new.pool.poolBase ∨ t.pool.slotCount ≠ new.pool.slotCount
      ∨ t.pool.slotSize ≠ new.pool.slotSize) : geometryChanges new c = true := by
  simp only [geometryChanges, ht, Bool.or_eq_true, bne_iff_ne]
  exact or_assoc.mpr h

/-- The settings name another Lens Table image or edition than the tables in force. -/
theorem tablesChange_iff (new : Settings) (c : Chip) : tablesChange new c = true
    ↔ c.tables.summary.imageAddress ≠ new.pool.imageAddress ∨ c.tables.summary.edition ≠ new.pool.tableEdition := by
  simp [tablesChange]

theorem zoomIdleForSettings_iff (z : Zoom) : zoomIdleForSettings z = true
    ↔ z.state = .idle ∨ z.state = .parked ∨ z.state = .lost ∨ z.state = .fault := by
  unfold zoomIdleForSettings
  split <;> simp [*]

theorem focusIdle_iff (f : Focus) : focusIdle f = true ↔ f.state = .idle ∨ f.state = .lost ∨ f.state = .fault := by
  unfold focusIdle
  split <;> simp [*]

theorem settingsHold_busy {new : Settings} {c : Chip} (hgeometry : geometryChanges new c = false)
    (htables : tablesChange new c = true) (hbusy : ¬ (zoomIdleForSettings c.zoom && focusIdle c.focus) = true) :
    settingsHold new c = some .heldLensBusy := by
  unfold settingsHold
  rw [hgeometry, htables, Bool.eq_false_iff.mpr hbusy]
  rfl

theorem takeSettings_held {body : List Byte} {c : Chip} {d : Detail} (h : settingsHold (settingsOf body) c = some d) :
    takeSettings body c = hold .settings d (.settings body) c := by
  simp only [takeSettings, h]

theorem takeSettings_loads {body : List Byte} {c : Chip} (hhold : settingsHold (settingsOf body) c = none)
    (hslot : frameBytes (settingsOf body).sensor ≤ (settingsOf body).pool.slotSize)
    (hload : tablesChange (settingsOf body) c = true ∨ c.tables.state ≠ .valid) :
    takeSettings body c = beginLoad (settingsOf body) (setClamped .settings (settingsClamped body) c) := by
  have hcond : (tablesChange (settingsOf body) c || c.tables.state != .valid) = true := by
    rcases hload with h | h <;> simp [h]
  simp [takeSettings, hhold, Nat.not_lt.mpr hslot, hcond]

/-- Settles O25. -/
theorem settingsRequest : Obligations.SettingsRequest := by
  unfold Obligations.SettingsRequest
  intro e body s new hpart he0 hnew hearlier hfinal hlen
  have taken := fun d (hd : takeSettings body (settingsAdopted e s.chip) = d) =>
    exec_of_commit (i := .settings e body) (s := s) rfl
      ((readNew_settings e body s.chip hpart he0 hnew hearlier hfinal).trans hd)
  have hentry := record_settingsAdopted e s.chip hlen
  have hlen' := (settingsAdopted_records_length e s.chip).trans hlen
  have held : ∀ d, record (hold .settings d (.settings body) (settingsAdopted e s.chip)) .settings
      = { (Said.entry .settings e .pending d false s.chip) with held := some (.settings body) } := fun d => by
    rw [record_hold _ _ _ _ hlen', hentry]
    rfl
  have hclamped := record_setClamped_active .settings (settingsClamped body) (settingsAdopted e s.chip)
    (by rw [hentry]; rfl) (by rw [hentry]; rfl) hlen'
  refine ⟨fun t ht hdiffer hslots => ?geometry, fun hsame => ?_⟩
  case geometry =>
    have hgeometry : geometryChanges new (settingsAdopted e s.chip) = true :=
      geometryChanges_of_ne (c := settingsAdopted e s.chip) ht hdiffer
    have hany : (settingsAdopted e s.chip).slots.any (fun p => p.state != .free) = true := by
      obtain ⟨p, hp, hstate⟩ := hslots
      exact List.any_eq_true.mpr ⟨p, hp, by simpa using hstate⟩
    exact ⟨_, taken _ (takeSettings_held (d := .heldGeometry) (by
      simp only [settingsHold, hany, Bool.and_true]
      rw [if_pos hgeometry])), rfl, held _⟩
  intro changed idle
  have hgeometry : geometryChanges new (settingsAdopted e s.chip) = false := geometryChanges_eq_false _ _ hsame
  have hchanged : tablesChange new (settingsAdopted e s.chip) = true ↔ changed := tablesChange_iff _ _
  have hidle : (zoomIdleForSettings (settingsAdopted e s.chip).zoom && focusIdle (settingsAdopted e s.chip).focus) = true
      ↔ idle := by
    rw [Bool.and_eq_true, zoomIdleForSettings_iff, focusIdle_iff]
    rfl
  have hnoHold : ¬ changed ∨ idle → settingsHold new (settingsAdopted e s.chip) = none := by
    intro h
    rw [← hchanged, ← hidle] at h
    rcases h with hsame' | hidle'
    · simp [settingsHold, hgeometry, hsame']
    · simp [settingsHold, hgeometry, hidle']
  refine ⟨fun hc hi => ?busy, fun h hslot => ?small, fun h hslot => ?load, fun hc hvalid hslot hsearch => ?done⟩
  case busy =>
    rw [← hchanged] at hc
    rw [← hidle] at hi
    exact ⟨_, taken _ (takeSettings_held (settingsHold_busy hgeometry hc hi)), rfl, held _⟩
  case small =>
    refine ⟨_, taken _ (takeSettings_refused body _ (hnoHold h) hslot), refuse_settings _ _ _, ?_⟩
    rw [record_refuse_active .settings .slotTooSmall _ (by rw [hentry]; exact hearlier) (by rw [hentry]; rfl) hlen',
      hentry]
    rfl
  case load =>
    have hload : tablesChange new (settingsAdopted e s.chip) = true ∨ (settingsAdopted e s.chip).tables.state ≠ .valid :=
      h.elim (fun b => .inl (hchanged.mpr b.1)) (fun b => .inr b.2)
    have htables : (setClamped .settings (settingsClamped body) (settingsAdopted e s.chip)).tables = s.chip.tables :=
      tables_of_blocks (blocks_setClamped _ _ _)
    have hload' := takeSettings_loads (hnoHold (h.elim (fun b => .inr b.2) (fun b => .inl b.1))) hslot hload
    refine ⟨_, taken _ hload', ?_, ?_, ?_, rfl⟩
    · exact (settings_of_blocks (blocks_setClamped .settings (settingsClamped body) (settingsAdopted e s.chip)) :)
    · refine (record_mark _ _ _).trans (hclamped.trans ?_)
      rw [hentry]
      rfl
    · show some (_ : LoadWork) = _
      rw [htables]
  case done =>
    have hnotables : tablesChange new (settingsAdopted e s.chip) = false :=
      Bool.eq_false_iff.mpr fun h => hc (hchanged.mp h)
    have hphase : (setClamped .settings (settingsClamped body) (settingsAdopted e s.chip)).search.phase = .none := by
      rw [setClamped_search, settingsAdopted_search, hsearch]
    refine ⟨_, taken _ (takeSettings_served body _ (hnoHold (.inl hc)) hslot hnotables hvalid),
      settingsDone_settings _ _ hphase, ?_⟩
    rw [record_settingsDone _ _ hphase (by rw [hclamped, hentry]; exact hearlier) (by rw [hclamped, hentry]; rfl)
      ((setClamped_records_length _ _ _).trans hlen'), hclamped, hentry]
    rfl

end Sys2Proof.Proofs.SettingsRequests
end

section
/-! PROOFS. CAPTURE requests (R144 to R146): the presses, the start of a burst, and STOP. -/

namespace Sys2Proof.Proofs.CaptureRequests

-- One elaboration thread at a time: each waiting thread reserves a stack, and the text is long.
set_option Elab.async false

open Sys2Proof Sys2Proof.Machine Sys2Proof.Proofs.Part Sys2Proof.Proofs.SensorLimits Sys2Proof.Proofs.Requests
open Sys2Proof.Proofs.StoreRequests Sys2Proof.Proofs.ExposureRequests Sys2Proof.Proofs.FocusRequests
open Sys2Proof.Proofs.ZoomRequests

/-! ### The setters of Capture Control -/

@[simp] theorem blocks_setCapture (f : Capture → Capture) (c : Chip) :
    blocks (setCapture f c) = { blocks c with capture := f c.capture } := by
  unfold setCapture
  dsimp only
  split <;> rfl

@[simp] theorem setCapture_capture (f : Capture → Capture) (c : Chip) : (setCapture f c).capture = f c.capture :=
  capture_of_blocks (blocks_setCapture f c)

@[simp] theorem setCapture_port (f : Capture → Capture) (c : Chip) : (setCapture f c).port = c.port :=
  port_of_blocks (blocks_setCapture f c)

@[simp] theorem setCapture_settings (f : Capture → Capture) (c : Chip) : (setCapture f c).settings = c.settings :=
  settings_of_blocks (blocks_setCapture f c)

@[simp] theorem setCapture_records (f : Capture → Capture) (c : Chip) : (setCapture f c).records = c.records := by
  unfold setCapture
  dsimp only
  split <;> rfl

@[simp] theorem setCapture_events (f : Capture → Capture) (c : Chip) : (setCapture f c).events = c.events := by
  unfold setCapture
  dsimp only
  split <;> rfl

@[simp] theorem setBurst_capture (f : Burst → Burst) (c : Chip) :
    (setBurst f c).capture = { c.capture with burst := f c.capture.burst } := setCapture_capture _ c

@[simp] theorem setBurst_records (f : Burst → Burst) (c : Chip) : (setBurst f c).records = c.records :=
  setCapture_records _ c

/-! ### Capture Control as the other blocks leave it -/

/-- Capture Control, the settings in force and the part state. -/
def captureView (c : Chip) : Capture × Option Settings × PartState := (c.capture, c.settings, c.port.partState)

theorem captureView_of_blocks {c d : Chip} {x : Capture × Option Settings × PartState} (h : blocks c = d)
    (hd : captureView d = x := by rfl) : captureView c = x := by
  rw [← hd, ← h]
  rfl

theorem captureView_of_besideFocus {c d : Chip} (h : besideFocus c = besideFocus d) : captureView c = captureView d :=
  (congrArg captureView h :)

theorem captureView_of_readFrom {c d : Chip} (h : ReadFrom c d) : captureView d = captureView c := by
  obtain ⟨hread, -⟩ := h
  rw [hread]
  rfl

@[simp] theorem captureView_mark (a : AnswerId) (c : Chip) : captureView (mark a c) = captureView c := rfl
@[simp] theorem captureView_raise (e : Event) (c : Chip) : captureView (raise e c) = captureView c := rfl
@[simp] theorem captureView_notice (k : NoticeClass) (c : Chip) : captureView (notice k c) = captureView c := rfl
@[simp] theorem captureView_setZoom (f : Zoom → Zoom) (c : Chip) : captureView (setZoom f c) = captureView c := rfl
@[simp] theorem captureView_setSearch (f : Search → Search) (c : Chip) : captureView (setSearch f c) = captureView c := rfl

@[simp] theorem captureView_finish (r : RecordId) (o : ReqOutcome) (d : Detail) (c : Chip) :
    captureView (finish r o d c) = captureView c := captureView_of_blocks (blocks_finish r o d c)

@[simp] theorem captureView_setStab (f : Stab → Stab) (c : Chip) : captureView (setStab f c) = captureView c :=
  captureView_of_blocks (blocks_setStab f c)

@[simp] theorem captureView_setMode (m : StabMode) (c : Chip) : captureView (setMode m c) = captureView c :=
  captureView_of_blocks (blocks_setMode m c)

@[simp] theorem captureView_setExposure (f : Exposure → Exposure) (c : Chip) :
    captureView (setExposure f c) = captureView c := captureView_of_blocks (blocks_setExposure f c)

@[simp] theorem captureView_setControl (f : Control → Control) (c : Chip) :
    captureView (setControl f c) = captureView c := captureView_of_blocks (blocks_setControl f c)

@[simp] theorem captureView_enterZoom (k : ZoomState) (f : Zoom → Zoom) (c : Chip) :
    captureView (enterZoom k f c) = captureView c := captureView_of_blocks (blocks_enterZoom k f c)

@[simp] theorem captureView_handTarget (t : Int) (c : Chip) : captureView (handTarget t c) = captureView c :=
  captureView_of_besideFocus (besideFocus_handTarget t c)

@[simp] theorem captureView_readTrack (p : Int) (c : Chip) : captureView (readTrack p c).2 = captureView c :=
  captureView_of_readFrom (readTrack_readFrom p c)

@[simp] theorem captureView_readWord (b : TableBlock) (i : Nat) (c : Chip) :
    captureView (readWord b i c).2 = captureView c := captureView_of_readFrom (readWord_readFrom b i c)

@[simp] theorem captureView_followWanted (c : Chip) : captureView (followWanted c) = captureView c := by
  unfold followWanted
  dsimp only
  (repeat' split) <;> simp

@[simp] theorem captureView_captureEngaged (c : Chip) : captureView (captureEngaged c) = captureView c := by
  simp [captureEngaged]

@[simp] theorem captureView_exposureHalfPress (c : Chip) : captureView (exposureHalfPress c) = captureView c := by
  unfold exposureHalfPress
  split <;> simp

@[simp] theorem captureView_searchWaitCheck (c : Chip) : captureView (searchWaitCheck c) = captureView c := by
  unfold searchWaitCheck
  split
  · dsimp only
    split
    · simp
    · rw [captureView_handTarget]
      exact captureView_readTrack _ _
  · rfl

@[simp] theorem captureView_beginSearch (o : SearchOrigin) (c : Chip) : captureView (beginSearch o c) = captureView c := by
  simp [beginSearch]

@[simp] theorem captureView_searchHalfPress (c : Chip) : captureView (searchHalfPress c) = captureView c := by
  unfold searchHalfPress
  (repeat' split) <;> simp

@[simp] theorem captureView_readFocalCode (c : Chip) : captureView (readFocalCode c) = captureView c := by
  unfold readFocalCode
  dsimp only
  split <;> simp

@[simp] theorem captureView_enterIdle (c : Chip) : captureView (enterIdle c) = captureView c := by
  simp [enterIdle]

@[simp] theorem captureView_cutZoom (c : Chip) : captureView (cutZoom c) = captureView c := by
  unfold cutZoom
  (repeat' split) <;> simp

/-- A cut ends at most the ZOOM request. -/
theorem record_cutZoom {r : RecordId} (c : Chip) (h : r ≠ .zoom) : record (cutZoom c) r = record c r := by
  unfold cutZoom
  (repeat' split)
  · rfl
  · exact record_finish_other _ _ _ h
  · exact record_finish_other _ _ _ h
  · rw [record_finish_other _ _ _ h, record_of_records (enterIdle_sets c).2.2]
  all_goals rfl

/-! ### Operations only add events -/

theorem prefix_of_events {c d : Chip} (h : d.events = c.events) : c.events <+: d.events :=
  ⟨[], by rw [List.append_nil, h]⟩

theorem prefix_raise (e : Event) (c : Chip) : c.events <+: (raise e c).events := List.prefix_append _ _

theorem prefix_finish (r : RecordId) (o : ReqOutcome) (d : Detail) (c : Chip) : c.events <+: (finish r o d c).events := by
  unfold finish
  dsimp only
  split
  · exact prefix_raise _ _
  · split
    · split
      · exact prefix_raise _ _
      · exact List.prefix_rfl
    · exact List.prefix_rfl

theorem prefix_finishService (o : ReqOutcome) (d : Detail) (c : Chip) : c.events <+: (finishService o d c).events := by
  unfold finishService
  split
  · exact List.prefix_rfl
  · exact prefix_finish _ _ _ { c with service := none }

theorem prefix_readTrack (p : Int) (c : Chip) : c.events <+: (readTrack p c).2.events := by
  obtain ⟨-, -, -, -, es, h⟩ := readTrack_readFrom p c
  rw [h]
  exact List.prefix_append _ _

@[simp] theorem enterFocus_events (k : FocusState) (f : Focus → Focus) (c : Chip) :
    (enterFocus k f c).events = c.events := by
  unfold enterFocus
  dsimp only
  split <;> rfl

@[simp] theorem beginTrain_events (d : FocusDir) (leg : Int) (c : Chip) : (beginTrain d leg c).events = c.events := by
  unfold beginTrain
  dsimp only
  split <;> simp

theorem prefix_enterFocusIdle (c : Chip) : c.events <+: (enterFocusIdle c).events := by
  simp [enterFocusIdle]

theorem prefix_planMove (c : Chip) : c.events <+: (planMove c).events := by
  unfold planMove
  split
  · exact prefix_enterFocusIdle c
  · split
    · exact prefix_of_events (beginTrain_events _ _ c)
    · dsimp only
      split
      · exact List.prefix_rfl
      · exact prefix_of_events (enterFocus_events _ _ c)

theorem prefix_focusFault (d : Detail) (c : Chip) : c.events <+: (focusFault d c).events := by
  unfold focusFault
  extract_lets c1 c2 c3
  have h1 : c1.events = c.events := enterFocus_events _ _ c
  have h2 : c1.events <+: c2.events := prefix_finish _ _ _ (notice .fault c1)
  have h3 : c2.events <+: c3.events := by
    simp only [c3]
    split
    · exact prefix_finishService _ _ c2
    · exact List.prefix_rfl
  have hall : c.events <+: c3.events := h1 ▸ h2.trans h3
  split
  · exact hall
  · exact hall.trans (prefix_raise _ c3)

theorem prefix_endTrain (c : Chip) : c.events <+: (endTrain c).events := by
  unfold endTrain
  dsimp only
  split
  · exact prefix_of_events (enterFocus_events _ _ _)
  · exact prefix_focusFault _ (setFocus (fun f => { f with train := .none, remaining := 0 }) c)
  · exact prefix_planMove (setFocus (fun f => { f with train := .none, remaining := 0 }) c)

theorem prefix_rampDown (c : Chip) : c.events <+: (rampDown c).events := by
  unfold rampDown goOnFor
  dsimp only
  split
  · exact prefix_endTrain (setFocus _ c)
  · exact List.prefix_rfl

theorem prefix_retargetTrain (t : Int) (c : Chip) : c.events <+: (retargetTrain t c).events := by
  unfold retargetTrain
  split
  · exact List.prefix_rfl
  · dsimp only
    split
    · exact List.prefix_rfl
    · split
      · exact List.prefix_rfl
      · exact prefix_rampDown (setFocus _ c)

theorem prefix_retargetDwell (t : Int) (c : Chip) : c.events <+: (retargetDwell t c).events := by
  unfold retargetDwell
  split
  · exact List.prefix_rfl
  · dsimp only
    split
    · split
      · exact prefix_planMove (setFocus _ c)
      · exact List.prefix_rfl
    · exact List.prefix_rfl

theorem prefix_handTarget (t : Int) (c : Chip) : c.events <+: (handTarget t c).events := by
  unfold handTarget
  dsimp only
  split
  · exact prefix_retargetTrain _ c
  · split
    · exact List.prefix_rfl
    · exact prefix_retargetDwell _ c
  · exact List.prefix_rfl
  · exact List.prefix_rfl
  · split
    · split
      · exact prefix_of_events (enterFocus_events _ _ c)
      · exact prefix_planMove (setFocus _ c)
    · exact List.prefix_rfl

theorem prefix_searchWaitCheck (c : Chip) : c.events <+: (searchWaitCheck c).events := by
  unfold searchWaitCheck
  split
  · dsimp only
    split
    · exact prefix_readTrack _ c
    · refine List.IsPrefix.trans ?_ (prefix_handTarget _ _)
      exact prefix_readTrack c.zoom.counter c
  · exact List.prefix_rfl

theorem prefix_beginSearch (o : SearchOrigin) (c : Chip) : c.events <+: (beginSearch o c).events := by
  unfold beginSearch
  extract_lets c1
  have h1 : (setControl (fun k => { k with mode := .search, result := .none }) c1).events = c.events :=
    setControl_events _ c1
  exact (prefix_of_events h1).trans ((prefix_raise .searchHoldBegin _).trans (prefix_searchWaitCheck _))

theorem prefix_searchHalfPress (c : Chip) : c.events <+: (searchHalfPress c).events := by
  unfold searchHalfPress
  split
  · split
    · exact List.prefix_rfl
    · exact (prefix_finish _ _ _ c).trans (prefix_beginSearch _ _)
  · exact List.prefix_rfl

theorem prefix_exposureHalfPress (c : Chip) : c.events <+: (exposureHalfPress c).events := by
  unfold exposureHalfPress
  split
  · exact prefix_of_events (setExposure_events _ c)
  · exact List.prefix_rfl

theorem prefix_handCredit (c : Chip) : c.events <+: (handCredit c).events := by
  unfold handCredit
  extract_lets v
  split
  · exact List.prefix_rfl
  · exact (prefix_of_events (setStab_events (fun s => { s with credit := v }) c)).trans (prefix_raise _ _)

theorem prefix_setMode (m : StabMode) (c : Chip) : c.events <+: (setMode m c).events := by
  unfold setMode
  split
  · exact List.prefix_rfl
  · exact (prefix_of_events (setStab_events _ c)).trans (prefix_handCredit _)

theorem prefix_followWanted (c : Chip) : c.events <+: (followWanted c).events := by
  unfold followWanted
  extract_lets w
  split
  · split
    · exact prefix_setMode w c
    · exact List.prefix_rfl
  · exact prefix_setMode w c
  · exact prefix_setMode w c
  · split
    · exact List.prefix_rfl
    · exact prefix_setMode w c
  · exact List.prefix_rfl
  · exact List.prefix_rfl

theorem prefix_captureEngaged (c : Chip) : c.events <+: (captureEngaged c).events :=
  (prefix_of_events (setStab_events _ c)).trans (prefix_followWanted _)

/-! ### What Capture Control does at a change of the presses -/

/-- The part when a burst starts, before the cut of the zoom. -/
def burstTaken (c : Chip) : Chip :=
  setCapture (fun k => { k with
    state := .waitZoom,
    burst := {
      priority := (cfg c).capture.priority, focusWait := (cfg c).capture.focusWait,
      rateMask := (cfg c).capture.rateMask, readout := (cfg c).capture.readout } }) c

theorem beginBurst_eq (c : Chip) : beginBurst c = raise .waitZoomCheck (cutZoom (burstTaken c)) := rfl

theorem beginBurst_capture (c : Chip) : (beginBurst c).capture = (burstTaken c).capture :=
  (congrArg Prod.fst (captureView_cutZoom (burstTaken c)) :)

theorem beginBurst_starts (c : Chip) : Said.BurstStarts c (beginBurst c) := by
  unfold Said.BurstStarts
  rw [beginBurst_capture, burstTaken, setCapture_capture]
  exact ⟨rfl, rfl, rfl⟩

theorem leaveBurst_capture (c : Chip) : (leaveBurst c).capture = { c.capture with
    burst := { c.capture.burst with delayed := false, released := false },
    state := if halfHeld c.capture then .prepared else .idle } := by
  unfold leaveBurst
  have hhalf : halfHeld (setBurst (fun b => { b with delayed := false, released := false }) c).capture
      = halfHeld c.capture := by rw [setBurst_capture]; rfl
  simp only [hhalf]
  split <;> simp

theorem leaveBurst_records (c : Chip) : (leaveBurst c).records = c.records := by
  unfold leaveBurst
  dsimp only
  split <;> simp

/-- With no half press held the end of a burst ends the half press too. -/
theorem leaveBurst_events {c : Chip} (h : halfHeld c.capture = false) : .halfPressEnd ∈ (leaveBurst c).events
    ∧ .captureReleased ∈ (leaveBurst c).events ∧ .burstEnd ∈ (leaveBurst c).events := by
  have hhalf : halfHeld (setBurst (fun b => { b with delayed := false, released := false }) c).capture = false := by
    rw [setBurst_capture]
    exact h
  unfold leaveBurst
  dsimp only
  rw [if_neg (by rw [hhalf]; decide)]
  simp

/-- The presses that a request sets, and its count, stay as they are whatever Capture Control does next, and so does the entry
of the CAPTURE request. -/
theorem evalPress_keeps (h f : Bool) (c : Chip) : (evalPress h f c).capture.press = c.capture.press
    ∧ (evalPress h f c).capture.count = c.capture.count ∧ (evalPress h f c).capture.left = c.capture.left
    ∧ record (evalPress h f c) .capture = record c .capture := by
  have hburst : (beginBurst c).capture.press = c.capture.press ∧ (beginBurst c).capture.count = c.capture.count
      ∧ (beginBurst c).capture.left = c.capture.left ∧ record (beginBurst c) .capture = record c .capture := by
    rw [beginBurst_capture, beginBurst_eq, record_raise, record_cutZoom _ (by decide), burstTaken,
      record_of_records (setCapture_records _ _), setCapture_capture]
    exact ⟨rfl, rfl, rfl, rfl⟩
  have hleave : (leaveBurst c).capture.press = c.capture.press ∧ (leaveBurst c).capture.count = c.capture.count
      ∧ (leaveBurst c).capture.left = c.capture.left ∧ record (leaveBurst c) .capture = record c .capture := by
    rw [leaveBurst_capture, record_of_records (leaveBurst_records c)]
    exact ⟨rfl, rfl, rfl, rfl⟩
  have hset : ∀ g : Capture → Capture, record (setCapture g c) .capture = record c .capture :=
    fun g => record_of_records (setCapture_records g c) _
  unfold evalPress
  dsimp only
  (repeat' split) <;> simp [hburst, hleave, hset, setBurst]

/-- In IDLE the first half press prepares; with a full press the third event of the command tells of it. -/
theorem evalPress_idle {f : Bool} {c : Chip} (hpart : c.port.partState = .running) (hidle : c.capture.state = .idle)
    (hhalf : halfHeld c.capture = true) : evalPress false f c
      = (let d := raise .halfPress (raise .captureEngaged (setCapture (fun k => { k with state := .prepared }) c))
        if fullHeld c.capture then raise (.pressChange true false) d else d) := by
  simp [evalPress, hpart, hidle, hhalf]

theorem evalPress_prepared {h f : Bool} {c : Chip} (hpart : c.port.partState = .running)
    (hprepared : c.capture.state = .prepared) : evalPress h f c
      = if fullHeld c.capture && !f then beginBurst c
        else if halfHeld c.capture then c
        else raise .captureReleased (raise .halfPressEnd (setCapture (fun k => { k with state := .idle }) c)) := by
  simp [evalPress, hpart, hprepared]

/-- A full press that ends before a picture ends the burst. -/
theorem evalPress_leaves {h : Bool} {c : Chip} (hpart : c.port.partState = .running) (hfull : fullHeld c.capture = false)
    (hwait : c.capture.state = .waitZoom ∨ c.capture.state = .waitFocus ∨ c.capture.state = .waitFrame
      ∨ c.capture.state = .waitRoom) : evalPress h true c = leaveBurst c := by
  rcases hwait with hs | hs | hs | hs <;> simp [evalPress, hpart, hfull, hs]

theorem evalPress_releases {h : Bool} {c : Chip} (hpart : c.port.partState = .running)
    (hfull : fullHeld c.capture = false) (hfilling : c.capture.state = .filling) :
    evalPress h true c = setBurst (fun b => { b with released := true }) c := by
  simp [evalPress, hpart, hfull, hfilling]

/-! ### The requests -/

/-- The press and count that a request sets. -/
def pressed (p : Press) (n : Nat) (k : Capture) : Capture := { k with press := p, count := n, left := n }

theorem changePress_eq (g : Capture → Capture) (c : Chip) :
    changePress g c = evalPress (halfHeld c.capture) (fullHeld c.capture) (setCapture g c) := rfl

/-- The press, the count and the entry after a request has set the presses. -/
theorem changePress_keeps (p : Press) (n : Nat) (c : Chip) : (changePress (pressed p n) c).capture.press = p
    ∧ (changePress (pressed p n) c).capture.count = n ∧ (changePress (pressed p n) c).capture.left = n
    ∧ record (changePress (pressed p n) c) .capture = record c .capture := by
  obtain ⟨hpress, hcount, hleft, hentry⟩ :=
    evalPress_keeps (halfHeld c.capture) (fullHeld c.capture) (setCapture (pressed p n) c)
  rw [changePress_eq, hpress, hcount, hleft, hentry, setCapture_capture, record_of_records (setCapture_records _ _)]
  exact ⟨rfl, rfl, rfl, rfl⟩

theorem capture_delivered {e : Word} {c : Chip} (q : CaptureRequest) (h : Said.NewRequest .capture e c) :
    readNew .capture e (.capture q) c = takeCapture q (adopted .capture e c) :=
  readNew_delivered (.capture q) h (by decide) rfl

/-- The part after the outcome of PREPARE and STOP, before the presses change. -/
def pressDone (e : Word) (c : Chip) : Chip := finish .capture .done .none (adopted .capture e c)

theorem pressDone_capture (e : Word) (c : Chip) : (pressDone e c).capture = c.capture :=
  (capture_of_blocks (blocks_finish .capture .done .none (adopted .capture e c)) :)

theorem pressDone_port (e : Word) (c : Chip) : (pressDone e c).port = c.port :=
  (port_of_blocks (blocks_finish .capture .done .none (adopted .capture e c)) :)

theorem record_pressDone {e : Word} {c : Chip} (hlen : c.records.length = 9)
    (hearlier : (record c .capture).earlierActive = false) :
    record (pressDone e c) .capture = Said.entry .capture e .done .none false c :=
  record_finish_adopted .done .none hlen hearlier rfl

/-- A STOP of CAPTURE read in a burst. -/
theorem captureStop_superseding {e : Word} {s : State} (h : Said.Superseding .capture e s.chip) :
    exec (.captureStop e) s
      = .next (concluded (changePress (pressed .none 0) (pressDone e s.chip)) s) := by
  obtain ⟨hpart, he0, hnew, hearlier, hlen, hpending, hload⟩ := h
  have hreason : holdReason .capture (.capture .stop) s.chip = none :=
    holdReason_none _ _ _ hpart hload (fun hb => absurd hb (by decide)) rfl (fun hr => absurd hr (by decide))
  have hread := readNew_delivers (c := s.chip) (.capture .stop) (r := .capture) (by decide) hpart he0 hnew
    (heldStill_notPending _ _ hpending) (fun hq => absurd hq (by decide)) hreason
  exact exec_of_commit rfl hread

theorem stopInBurst : Said.StopInBurst := by
  unfold Said.StopInBurst
  intro e s h hpress hs1 hs2
  have hexec := captureStop_superseding h
  obtain ⟨hpart, -, -, hearlier, hlen, -, -⟩ := h
  let c := setCapture (pressed .none 0) (pressDone e s.chip)
  have hcapture : c.capture = pressed .none 0 s.chip.capture := by
    show (setCapture (pressed .none 0) (pressDone e s.chip)).capture = _
    rw [setCapture_capture, pressDone_capture]
  have hport : c.port.partState = .running := by
    show (setCapture (pressed .none 0) (pressDone e s.chip)).port.partState = _
    rw [setCapture_port, pressDone_port, hpart]
  have hnotHalf : halfHeld c.capture = false := by simp [hcapture, halfHeld, pressed, hs1, hs2]
  have hnotFull : fullHeld c.capture = false := by simp [hcapture, fullHeld, pressed, hs2]
  have hchange : changePress (pressed .none 0) (pressDone e s.chip)
      = evalPress (halfHeld s.chip.capture) true c := by
    have hfull : fullHeld s.chip.capture = true := by simp [fullHeld, hpress]
    rw [changePress_eq, pressDone_capture, hfull]
  obtain ⟨hpress', -, -, hentry⟩ := changePress_keeps .none 0 (pressDone e s.chip)
  rw [record_pressDone hlen hearlier] at hentry
  refine ⟨fun hwait => ⟨_, hexec, ?_, hpress', ?_⟩, fun hfilling => ⟨_, hexec, ?_, hpress', ?_, hentry⟩⟩
  · rw [hchange, evalPress_leaves hport hnotFull (by rw [hcapture]; exact hwait), leaveBurst_capture, hnotHalf]
    rfl
  · rw [and_assoc.symm, and_assoc.symm]
    refine ⟨?_, hentry⟩
    rw [hchange, evalPress_leaves hport hnotFull (by rw [hcapture]; exact hwait)]
    obtain ⟨hend, hreleased, hburst⟩ := leaveBurst_events hnotHalf
    exact ⟨⟨hend, hreleased⟩, hburst⟩
  · rw [hchange, evalPress_releases hport hnotFull (by rw [hcapture]; exact hfilling), setBurst_capture, hcapture]
    exact hfilling
  · rw [hchange, evalPress_releases hport hnotFull (by rw [hcapture]; exact hfilling), setBurst_capture]

/-- A request that sets the presses, from the part it has left. -/
theorem setPressed_facts (p : Press) (n : Nat) (c : Chip) :
    (setCapture (pressed p n) c).capture = pressed p n c.capture ∧ (setCapture (pressed p n) c).port = c.port
      ∧ (setCapture (pressed p n) c).settings = c.settings ∧ (setCapture (pressed p n) c).events = c.events :=
  ⟨setCapture_capture _ _, setCapture_port _ _, setCapture_settings _ _, setCapture_events _ _⟩

theorem halfHeld_of_press {p : Press} (n : Nat) (k : Capture) (h : p = .half ∨ p = .full) :
    halfHeld (pressed p n k) = true := by
  rcases h with rfl | rfl <;> simp [halfHeld, pressed]

/-- A burst that starts from the part `c`, whose settings are those of `s`. -/
theorem BurstStarts_of_settings {s c d : Chip} (h : c.settings = s.settings) (hd : Said.BurstStarts c d) :
    Said.BurstStarts s d := by
  have hcfg : cfg c = cfg s := cfg_of_settings h
  unfold Said.BurstStarts at hd ⊢
  rwa [hcfg] at hd

/-! ### The first three events after START_BURST in IDLE -/

theorem takeEvent_engaged {c : Chip} {es : List Event} (h : c.events = .captureEngaged :: es) :
    captureView (Said.takeEvent c) = captureView c ∧ es <+: (Said.takeEvent c).events := by
  have htake : Said.takeEvent c = captureEngaged { c with events := es } := by simp only [Said.takeEvent, h, handle]
  rw [htake]
  exact ⟨captureView_captureEngaged _, prefix_captureEngaged { c with events := es }⟩

theorem takeEvent_halfPress {c : Chip} {es : List Event} (h : c.events = .halfPress :: es) :
    captureView (Said.takeEvent c) = captureView c ∧ es <+: (Said.takeEvent c).events := by
  have htake : Said.takeEvent c = searchHalfPress (exposureHalfPress { c with events := es }) := by
    simp only [Said.takeEvent, h, handle]
  rw [htake]
  refine ⟨?_, (prefix_exposureHalfPress { c with events := es }).trans (prefix_searchHalfPress _)⟩
  rw [captureView_searchHalfPress, captureView_exposureHalfPress]
  rfl

theorem takeEvent_fullPress {c : Chip} {es : List Event} (h : c.events = .pressChange true false :: es)
    (hpart : c.port.partState = .running) (hprepared : c.capture.state = .prepared) (hfull : fullHeld c.capture = true) :
    Said.takeEvent c = beginBurst { c with events := es } := by
  have htake : Said.takeEvent c = evalPress true false { c with events := es } := by
    simp only [Said.takeEvent, h, handle]
  rw [htake, evalPress_prepared (c := { c with events := es }) hpart hprepared]
  exact if_pos (by simp [hfull])

/-- The burst starts with the third event. -/
theorem burstStarts_third {c : Chip} (h : c.events = [.captureEngaged, .halfPress, .pressChange true false])
    (hpart : c.port.partState = .running) (hprepared : c.capture.state = .prepared) (hfull : fullHeld c.capture = true) :
    Said.BurstStarts c (Said.takeEvent (Said.takeEvent (Said.takeEvent c))) := by
  obtain ⟨hview1, es1, hevents1⟩ := takeEvent_engaged h
  have hfirst : (Said.takeEvent c).events = .halfPress :: (.pressChange true false :: es1) := hevents1.symm
  obtain ⟨hview2, es2, hevents2⟩ := takeEvent_halfPress hfirst
  have hsecond : (Said.takeEvent (Said.takeEvent c)).events = .pressChange true false :: (es1 ++ es2) := hevents2.symm
  have hview : captureView (Said.takeEvent (Said.takeEvent c)) = captureView c := hview2.trans hview1
  simp only [captureView, Prod.mk.injEq] at hview
  obtain ⟨hcapture, hsettings, hrunning⟩ := hview
  rw [takeEvent_fullPress hsecond (hrunning.trans hpart) (by rw [hcapture, hprepared]) (by rw [hcapture, hfull])]
  exact BurstStarts_of_settings hsettings (beginBurst_starts { (Said.takeEvent (Said.takeEvent c)) with events := _ })

/-- The part that a full press by request has prepared. -/
def fullPrepared (n : Nat) (c : Chip) : Chip :=
  setCapture (fun k => { k with state := .prepared }) (setCapture (pressed .full n) c)

theorem fullPrepared_capture (n : Nat) (c : Chip) :
    (fullPrepared n c).capture = { (pressed .full n c.capture) with state := .prepared } := by
  rw [fullPrepared, setCapture_capture, setCapture_capture]

theorem fullPrepared_port (n : Nat) (c : Chip) : (fullPrepared n c).port = c.port := by
  rw [fullPrepared, setCapture_port, setCapture_port]

theorem fullPrepared_settings (n : Nat) (c : Chip) : (fullPrepared n c).settings = c.settings := by
  rw [fullPrepared, setCapture_settings, setCapture_settings]

theorem fullPrepared_events (n : Nat) (c : Chip) : (fullPrepared n c).events = c.events := by
  rw [fullPrepared, setCapture_events, setCapture_events]

/-- A full press by request in IDLE prepares, and three events follow. -/
theorem fullPress_raises (n : Nat) {c : Chip} (hpart : c.port.partState = .running) (hidle : c.capture.state = .idle)
    (hhalf : halfHeld c.capture = false) : changePress (pressed .full n) c
      = raise (.pressChange true false) (raise .halfPress (raise .captureEngaged (fullPrepared n c))) := by
  obtain ⟨hcapture, hport, -, -⟩ := setPressed_facts .full n c
  have hfull : fullHeld (pressed .full n c.capture) = true := by simp [fullHeld, pressed]
  rw [changePress_eq, hhalf, evalPress_idle (by rw [hport]; exact hpart) (by rw [hcapture]; exact hidle)
    (by rw [hcapture]; exact halfHeld_of_press _ _ (.inr rfl)), hcapture]
  exact if_pos hfull

/-- The burst of a full press by request in IDLE starts with the third event. -/
theorem fullPress_idle (n : Nat) {c : Chip} (hpart : c.port.partState = .running) (hidle : c.capture.state = .idle)
    (hhalf : halfHeld c.capture = false) : let d := changePress (pressed .full n) c
    d.capture.state = .prepared ∧ d.events = c.events ++ [.captureEngaged, .halfPress, .pressChange true false]
      ∧ (c.events = [] → Said.BurstStarts c (Said.takeEvent (Said.takeEvent (Said.takeEvent d)))) := by
  intro d
  have hd : d = _ := fullPress_raises n hpart hidle hhalf
  have hcapture : d.capture = { (pressed .full n c.capture) with state := .prepared } := by
    rw [hd, raise_capture, raise_capture, raise_capture, fullPrepared_capture]
  have hport : d.port = c.port := by rw [hd, raise_port, raise_port, raise_port, fullPrepared_port]
  have hsettings : d.settings = c.settings := by
    rw [hd, raise_settings, raise_settings, raise_settings, fullPrepared_settings]
  have hevents : d.events = c.events ++ [.captureEngaged, .halfPress, .pressChange true false] := by
    rw [hd, raise_appends, raise_appends, raise_appends, fullPrepared_events]
    simp
  refine ⟨by rw [hcapture], hevents, fun hnone => ?_⟩
  rw [hnone] at hevents
  exact BurstStarts_of_settings hsettings (burstStarts_third hevents (by rw [hport, hpart]) (by rw [hcapture])
    (by rw [hcapture]; simp [fullHeld, pressed]))

/-- A full press by request in PREPARED starts its burst at once. -/
theorem fullPress_prepared (n : Nat) {c : Chip} (hpart : c.port.partState = .running)
    (hprepared : c.capture.state = .prepared) (hnotFull : fullHeld c.capture = false) :
    Said.BurstStarts c (changePress (pressed .full n) c) := by
  obtain ⟨hcapture, hport, hsettings, -⟩ := setPressed_facts .full n c
  have hfull : fullHeld (pressed .full n c.capture) = true := by simp [fullHeld, pressed]
  rw [changePress_eq, hnotFull, evalPress_prepared (by rw [hport]; exact hpart) (by rw [hcapture]; exact hprepared),
    hcapture, if_pos (by rw [hfull]; rfl)]
  exact BurstStarts_of_settings hsettings (beginBurst_starts _)

/-- Settles O36. -/
theorem captureRequests : Obligations.CaptureRequests := by
  unfold Obligations.CaptureRequests
  refine ⟨stopInBurst, fun e n s h => ?_⟩
  have ⟨hpart, _, _, hearlier, hlen, _⟩ := h
  have hdone := record_pressDone (e := e) hlen hearlier
  refine ⟨⟨_, exec_of_commit rfl (capture_delivered .prepare h), ?prepare⟩, fun hstream => ?start, fun hstream => ?refused,
    ⟨_, exec_of_commit rfl (capture_delivered .stop h), ?stop⟩⟩
  case prepare =>
    obtain ⟨hpress, -, -, hentry⟩ := changePress_keeps .half 0 (pressDone e s.chip)
    refine ⟨hpress, hentry.trans hdone, fun hidle hhalf => ?_⟩
    obtain ⟨hcapture, hport, -, -⟩ := setPressed_facts .half 0 (pressDone e s.chip)
    rw [pressDone_capture] at hcapture
    show (changePress (pressed .half 0) (pressDone e s.chip)).capture.state = .prepared
    rw [changePress_eq, pressDone_capture, hhalf, evalPress_idle (by rw [hport, pressDone_port, hpart])
      (by rw [hcapture]; exact hidle) (by rw [hcapture]; exact halfHeld_of_press 0 _ (.inl rfl))]
    dsimp only
    split <;> simp
  case start =>
    have htake : takeCapture (.startBurst n.toNat) (adopted .capture e s.chip)
        = changePress (pressed .full n.toNat) (adopted .capture e s.chip) := if_neg hstream
    obtain ⟨hpress, hcount, hleft, hentry⟩ := changePress_keeps .full n.toNat (adopted .capture e s.chip)
    exact ⟨_, exec_of_commit rfl ((capture_delivered (.startBurst n.toNat) h).trans htake), hpress, hcount, hleft,
      hentry.trans (record_adopted .capture e s.chip hlen),
      fun hidle hhalf => fullPress_idle n.toNat (c := adopted .capture e s.chip) hpart hidle hhalf,
      fun hprepared hnotFull => fullPress_prepared n.toNat (c := adopted .capture e s.chip) hpart hprepared hnotFull⟩
  case refused =>
    have htake : takeCapture (.startBurst n.toNat) (adopted .capture e s.chip)
        = refuseCapture .noStream (adopted .capture e s.chip) := if_pos hstream
    have hcapture : (refuseCapture .noStream (adopted .capture e s.chip)).capture
        = { s.chip.capture with lastRefusal := .noStream } :=
      capture_of_blocks (blocks_refuse _ _ _) (setCapture_capture _ _)
    refine ⟨_, exec_of_commit rfl ((capture_delivered (.startBurst n.toNat) h).trans htake),
      (congrArg Capture.press hcapture :), congrArg Capture.lastRefusal hcapture, ?_⟩
    exact record_refuse_adopted .noStream hlen hearlier (setCapture_records _ _)
  case stop =>
    obtain ⟨hpress, hcount, hleft, hentry⟩ := changePress_keeps .none 0 (pressDone e s.chip)
    refine ⟨hpress, hcount, hleft, hentry.trans hdone, fun hprepared hs1 hs2 => ?_⟩
    obtain ⟨hcapture, hport, -, -⟩ := setPressed_facts .none 0 (pressDone e s.chip)
    rw [pressDone_capture] at hcapture
    show (changePress (pressed .none 0) (pressDone e s.chip)).capture.state = .idle
    rw [changePress_eq, evalPress_prepared (by rw [hport, pressDone_port, hpart]) (by rw [hcapture]; exact hprepared),
      hcapture]
    simp [fullHeld, halfHeld, pressed, hs1, hs2]

end Sys2Proof.Proofs.CaptureRequests
end

section
/-! PROOFS. Focus Search (R92 to R100): how a search begins, its samples, its choice, and its ends. -/

namespace Sys2Proof.Proofs.SearchRequests

-- One elaboration thread at a time: each waiting thread reserves a stack, and the text is long.
set_option Elab.async false

open Sys2Proof Sys2Proof.Machine Sys2Proof.Proofs.Part Sys2Proof.Proofs.SensorLimits Sys2Proof.Proofs.Requests
open Sys2Proof.Proofs.StoreRequests Sys2Proof.Proofs.ExposureRequests Sys2Proof.Proofs.FocusRequests
open Sys2Proof.Proofs.CaptureRequests

/-! ### Peak summaries (R95) -/

theorem peakSummary : Said.PeakSummary := by
  unfold Said.PeakSummary
  refine fun drop v p => ⟨rfl, fun k => ⟨fun hpassed => ?_, fun hpassed hmore => ?_, fun hpassed hle hbelow => ?_,
    fun hpassed hle habove => ?_⟩⟩
  · simp [updatePeak, hpassed]
  · simp [updatePeak, hpassed, hmore]
  · simp [updatePeak, hpassed, Nat.not_lt.mpr hle, hbelow]
  · simp [updatePeak, hpassed, Nat.not_lt.mpr hle, Nat.not_lt.mpr habove]

/-! ### The choice among the candidates (R96) -/

/-- The chosen candidate has a greater inv than those before it, and no smaller one than those after it. -/
theorem nearest_chosen (t : TrackData) (x : Nat × Int) (xs : List (Nat × Int)) : ∃ before after,
    x :: xs = before ++ nearest t x xs :: after ∧ (∀ y ∈ before, invAt t y.2 < invAt t (nearest t x xs).2)
      ∧ ∀ y ∈ after, invAt t y.2 ≤ invAt t (nearest t x xs).2 := by
  induction xs generalizing x with
  | nil => exact ⟨[], [], rfl, by simp, by simp⟩
  | cons y ys ih =>
    unfold nearest
    split
    next hless =>
      obtain ⟨before, after, hsplit, hbefore, hafter⟩ := ih y
      have hy : invAt t y.2 ≤ invAt t (nearest t y ys).2 := by
        cases before with
        | nil =>
          obtain ⟨hhead, -⟩ := List.cons.inj hsplit
          exact Nat.le_of_eq (by rw [← hhead])
        | cons b bs =>
          obtain ⟨rfl, -⟩ := List.cons.inj hsplit
          exact Nat.le_of_lt (hbefore _ (by simp))
      refine ⟨x :: before, after, by rw [hsplit]; rfl, fun z hz => ?_, hafter⟩
      rcases List.mem_cons.mp hz with rfl | hz
      · exact Nat.lt_of_lt_of_le hless hy
      · exact hbefore z hz
    next hnot =>
      obtain ⟨before, after, hsplit, hbefore, hafter⟩ := ih x
      cases before with
      | nil =>
        obtain ⟨hhead, hrest⟩ := List.cons.inj hsplit
        refine ⟨[], y :: after, by rw [List.nil_append, ← hhead, ← hrest], by simp, fun z hz => ?_⟩
        rcases List.mem_cons.mp hz with rfl | hz
        · rw [← hhead]
          exact Nat.not_lt.mp hnot
        · exact hafter z hz
      | cons b bs =>
        obtain ⟨rfl, hrest⟩ := List.cons.inj hsplit
        refine ⟨x :: y :: bs, after, congrArg (fun zs => x :: y :: zs) hrest, fun z hz => ?_, hafter⟩
        have hx := hbefore x (by simp)
        rcases List.mem_cons.mp hz with rfl | hz
        · exact hx
        · rcases List.mem_cons.mp hz with rfl | hz
          · exact Nat.lt_of_le_of_lt (Nat.not_lt.mp hnot) hx
          · exact hbefore z (by simp [hz])

/-! ### The offset of the estimated peak (R98) -/

/-- Half of a quotient, rounded: with `b` the divisor, the double of what remains is at most `b`, and at a tie the quotient is the
greater one. -/
theorem rounded_near (a b : Nat) (hb : 0 < b) : let m := b * ((2 * a + b) / (2 * b))
    2 * m ≤ 2 * a + b ∧ 2 * a < 2 * m + b := by
  intro m
  have hsplit := Nat.div_add_mod (2 * a + b) (2 * b)
  have hrest := Nat.mod_lt (2 * a + b) (show 0 < 2 * b by omega)
  have hm : 2 * b * ((2 * a + b) / (2 * b)) = 2 * m := Nat.mul_assoc 2 b _
  omega

theorem roundedQuotient_mul (n d : Int) (hd : d < 0) : roundedQuotient n d * d
    = if 0 < n then ((d.natAbs * ((2 * n.natAbs + d.natAbs) / (2 * d.natAbs)) : Nat) : Int)
      else -((d.natAbs * ((2 * n.natAbs + d.natAbs) / (2 * d.natAbs)) : Nat) : Int) := by
  have habs : d = -(d.natAbs : Int) := by omega
  unfold roundedQuotient
  dsimp only
  generalize (2 * n.natAbs + d.natAbs) / (2 * d.natAbs) = q
  split
  · rw [Int.natCast_mul]
    conv => lhs; rw [habs]
    rw [Int.neg_mul_neg, Int.mul_comm]
  · rw [Int.natCast_mul]
    conv => lhs; rw [habs]
    rw [Int.mul_neg, Int.mul_comm]

theorem peakOffset_spec : Said.PeakOffset := by
  unfold Said.PeakOffset
  intro fs below top above d n
  refine ⟨fun hd => if_pos hd, fun hd => ⟨roundedQuotient n d, ?_, ?_, if_neg (by omega)⟩⟩
  all_goals
    obtain ⟨hle, hlt⟩ := rounded_near n.natAbs d.natAbs (by omega)
    have hmul := roundedQuotient_mul n d hd
    rw [hmul]
    generalize d.natAbs * ((2 * n.natAbs + d.natAbs) / (2 * d.natAbs)) = m at hle hlt
    split <;> omega

/-! ### The search and Focus Control as the other blocks leave them -/

/-- The search and Focus Control. -/
def searchView (c : Chip) : Search × Control := (c.search, c.control)

theorem searchView_of_blocks {c d : Chip} {x : Search × Control} (h : blocks c = d) (hd : searchView d = x := by rfl) :
    searchView c = x := by
  rw [← hd, ← h]
  rfl

theorem searchView_of_readFrom {c d : Chip} (h : ReadFrom c d) : searchView d = searchView c := by
  obtain ⟨hread, -⟩ := h
  rw [hread]
  rfl

@[simp] theorem searchView_raise (e : Event) (c : Chip) : searchView (raise e c) = searchView c := rfl
@[simp] theorem searchView_notice (k : NoticeClass) (c : Chip) : searchView (notice k c) = searchView c := rfl

@[simp] theorem searchView_finish (r : RecordId) (o : ReqOutcome) (d : Detail) (c : Chip) :
    searchView (finish r o d c) = searchView c := searchView_of_blocks (blocks_finish r o d c)

@[simp] theorem searchView_setFollowing (f : Following → Following) (c : Chip) :
    searchView (setFollowing f c) = searchView c := searchView_of_blocks (blocks_setFollowing f c)

@[simp] theorem searchView_handTarget (t : Int) (c : Chip) : searchView (handTarget t c) = searchView c :=
  (congrArg searchView (besideFocus_handTarget t c) :)

@[simp] theorem searchView_readTrack (p : Int) (c : Chip) : searchView (readTrack p c).2 = searchView c :=
  searchView_of_readFrom (readTrack_readFrom p c)

@[simp] theorem searchView_setControl (f : Control → Control) (c : Chip) :
    searchView (setControl f c) = (c.search, f c.control) := searchView_of_blocks (blocks_setControl f c)

/-- The part when a retarget has found its target, before the target is handed over. -/
def retargetFound (target : Int) (c : Chip) : Chip :=
  let d := setControl (fun k => { k with due := false, lastTarget := some target }) c
  let e := { d with following := { d.following with moving := false } }
  if e.following.active then watchAfresh e else e

theorem doRetarget_none {c : Chip} (h : (readTrack c.zoom.counter c).1 = none) :
    doRetarget c = setControl (fun k => { k with due := true }) (readTrack c.zoom.counter c).2 := by
  simp only [doRetarget, h]

theorem doRetarget_some {c : Chip} {t : TrackData} (h : (readTrack c.zoom.counter c).1 = some t) : doRetarget c
    = (let d := (readTrack c.zoom.counter c).2
      let target := limitFocusPosition d (trackAt t d.control.distance)
      handTarget target (retargetFound target d)) := by
  simp only [doRetarget, h]
  rfl

theorem searchView_retargetFound (target : Int) (c : Chip) : searchView (retargetFound target c)
    = (c.search, { c.control with due := false, lastTarget := some target }) := by
  unfold retargetFound
  extract_lets d w e
  have he : searchView e = (c.search, { c.control with due := false, lastTarget := some target }) :=
    searchView_setControl (fun k => { k with due := false, lastTarget := some target }) c
  split
  · exact (searchView_setFollowing _ e).trans he
  · exact he

theorem retargetFound_events (target : Int) (c : Chip) : (retargetFound target c).events = c.events := by
  unfold retargetFound
  extract_lets d w e
  have he : e.events = c.events := setControl_events (fun k => { k with due := false, lastTarget := some target }) c
  split
  · exact (FocusRequests.setFollowing_events _ e).trans he
  · exact he

/-- A retarget leaves the search, and of Focus Control the distance, the mode and the focus result. -/
theorem searchView_retarget (c : Chip) : ∃ due last, searchView (retarget c)
    = (c.search, { c.control with due := due, lastTarget := last }) := by
  have hread := searchView_readTrack c.zoom.counter c
  simp only [searchView, Prod.mk.injEq] at hread
  obtain ⟨hsearch, hcontrol⟩ := hread
  unfold retarget
  split
  · cases h : (readTrack c.zoom.counter c).1 with
    | none =>
      refine ⟨true, c.control.lastTarget, ?_⟩
      rw [doRetarget_none h, searchView_setControl, hsearch, hcontrol]
    | some t =>
      rw [doRetarget_some h]
      dsimp only
      rw [searchView_handTarget, searchView_retargetFound, hsearch, hcontrol]
      exact ⟨_, _, rfl⟩
  · exact ⟨_, _, rfl⟩

theorem prefix_retarget (c : Chip) : c.events <+: (retarget c).events := by
  unfold retarget
  split
  · cases h : (readTrack c.zoom.counter c).1 with
    | none =>
      rw [doRetarget_none h]
      exact (prefix_readTrack _ c).trans (prefix_of_events (setControl_events _ _))
    | some t =>
      rw [doRetarget_some h]
      exact (prefix_readTrack _ c).trans ((prefix_of_events (retargetFound_events _ _)).trans (prefix_handTarget _ _))
  · exact List.prefix_rfl

/-! ### The end of a search (R99) -/

theorem searchView_leaveSearchMode (found : Bool) (c : Chip) : searchView (leaveSearchMode found c)
    = (c.search, { c.control with mode := if c.search.fromContinuous then .continuous else .tracking }) := by
  unfold leaveSearchMode
  split
  · simp [enterContinuous, watchKeepingStep]
  · simp

/-- The search is closed, and its request has ended. -/
theorem endSearchRequest_closed (o : ReqOutcome) (d : Detail) (found : Bool) (c : Chip) :
    let e := endSearchRequest o d (closeSearch found c)
    searchView e = ({ c.search with phase := .none, motor := false }, c.control)
      ∧ .searchHoldEnd ∈ e.events ∧ .searchOver found ∈ e.events := by
  intro e
  have hview : searchView e = searchView (closeSearch found c) := by
    show searchView (endSearchRequest _ _ _) = _
    unfold endSearchRequest
    split <;> simp
  have hevents : (closeSearch found c).events <+: e.events := by
    show _ <+: (endSearchRequest _ _ _).events
    unfold endSearchRequest
    split
    · exact prefix_finish _ _ _ _
    · exact List.prefix_rfl
  exact ⟨hview, hevents.mem (by simp [closeSearch]), hevents.mem (by simp [closeSearch])⟩

/-- A search that finishes sets the distance and the focus result and gives the motor and the mode back. -/
theorem finishSearch_ends (x : Nat) (found : Bool) (c : Chip) : let d := finishSearch x found c
    d.search = { c.search with phase := .none, motor := false } ∧ d.control.distance = x
      ∧ d.control.result = (if found then .confirmed else .notFound)
      ∧ d.control.mode = (if c.search.fromContinuous then .continuous else .tracking)
      ∧ .searchHoldEnd ∈ d.events ∧ .searchOver found ∈ d.events := by
  intro d
  let start := leaveSearchMode found (setControl (fun k => { k with
    distance := x, result := if found then .confirmed else .notFound }) c)
  have hstart : searchView start = (c.search, { c.control with
      distance := x, result := if found then .confirmed else .notFound,
      mode := if c.search.fromContinuous then .continuous else .tracking }) := by
    have hset := searchView_setControl (fun k => { k with
      distance := x, result := if found then .confirmed else .notFound }) c
    simp only [searchView, Prod.mk.injEq] at hset
    show searchView (leaveSearchMode _ _) = _
    rw [searchView_leaveSearchMode, hset.1, hset.2]
  obtain ⟨hview, hhold, hover⟩ := endSearchRequest_closed .done (if found then .none else .notFound) found start
  obtain ⟨due, last, hretarget⟩ := searchView_retarget
    (endSearchRequest .done (if found then .none else .notFound) (closeSearch found start))
  have hevents := prefix_retarget (endSearchRequest .done (if found then .none else .notFound) (closeSearch found start))
  simp only [searchView, Prod.mk.injEq] at hview hretarget hstart
  rw [hview.1, hview.2, hstart.1, hstart.2] at hretarget
  have hd : d = retarget (endSearchRequest .done (if found then .none else .notFound) (closeSearch found start)) := rfl
  rw [hd, hretarget.1, hretarget.2]
  exact ⟨rfl, rfl, rfl, rfl, hevents.mem hhold, hevents.mem hover⟩

theorem searchFinish : Said.SearchFinish := by
  unfold Said.SearchFinish
  intro c d
  have hread := searchView_readTrack c.zoom.counter c
  simp only [searchView, Prod.mk.injEq] at hread
  obtain ⟨hsearch, hcontrol⟩ := hread
  refine ⟨fun t ht => ?_, fun hnone => ?_⟩
  · have hd : d = finishSearch (invAt t c.search.peak) true (readTrack c.zoom.counter c).2 := by
      show applyFinish c = _
      simp only [applyFinish, ht, hsearch]
    obtain ⟨hend, hdistance, hresult, hmode, hhold, hover⟩ :=
      finishSearch_ends (invAt t c.search.peak) true (readTrack c.zoom.counter c).2
    rw [hd]
    refine ⟨by rw [hend], by rw [hend], hdistance, hresult, hhold, hover, ?_⟩
    rw [hmode, hsearch]
  · have hd : d = (readTrack c.zoom.counter c).2 := by
      show applyFinish c = _
      simp only [applyFinish, hnone]
    rw [hd]
    exact ⟨hsearch, hcontrol⟩

/-- Without a passed peak of enough contrast there is no candidate. -/
theorem candidates_eq_nil {k : Search} (h : ∀ w < 5, ∀ q, k.peaks.getD w none = some q →
    q.passed = false ∨ q.maximum < k.kept.minContrast) : candidates k = [] := by
  unfold candidates
  rw [List.filterMap_eq_nil_iff]
  intro w hw
  cases hq : k.peaks.getD w none with
  | none => rfl
  | some q =>
    refine if_neg ?_
    rcases h w (List.mem_range.mp hw) q hq with hpassed | hlow
    · simp [hpassed]
    · simp [Nat.not_le.mpr hlow]

theorem windowChoice : Said.WindowChoice := by
  unfold Said.WindowChoice
  refine ⟨nearest_chosen, fun c hnone => ?_⟩
  intro d
  have hd : d = finishSearch (cfg c).focus.fallback false c := by
    show applyChoose c = _
    simp only [applyChoose, candidates_eq_nil hnone]
  obtain ⟨hend, hdistance, hresult, hmode, hhold, hover⟩ := finishSearch_ends (cfg c).focus.fallback false c
  rw [hd]
  exact ⟨by rw [hend], by rw [hend], hdistance, hresult, hhold, hover, hmode⟩

/-! ### The fine sweep (R97) -/

theorem planMove_target (c : Chip) : (planMove c).focus.target = c.focus.target := by
  unfold planMove enterFocusIdle beginTrain enterFocus
  dsimp only
  (repeat' split) <;> rfl

/-- A target handed to a drive at rest becomes its final target. -/
theorem handTarget_rest {c : Chip} (t : Int) (hidle : c.focus.state = .idle) (htrain : c.focus.train = .none) :
    (handTarget t c).focus.target = max 0 (min t (fMax c)) := by
  unfold handTarget
  simp only [htrain]
  rw [if_pos hidle]
  split
  · unfold enterFocus
    dsimp only
    split <;> rfl
  · rw [planMove_target]
    rfl

theorem fineSweep : Said.FineSweep := by
  unfold Said.FineSweep
  refine fun c hidle htrain => ⟨fun w peak hroom => ?_, fun values => ?_⟩
  · intro lo hi low start
    have hfine : enterFine w peak c = handTarget start (setSearch (fun s => { s with
        phase := .fine, chosen := some w, fineLo := lo, fineHi := hi, sweepNear := low, wanted := start }) c) :=
      if_neg (Nat.not_le.mpr hroom)
    rw [hfine]
    exact ⟨(congrArg Prod.fst (searchView_handTarget _ _) :), handTarget_rest start hidle htrain⟩
  · intro k last next hlast hroom
    have hfine : fineSample values c = handTarget next (setSearch (fun s => { s with
        record := s.record ++ [⟨c.focus.counter, values, true⟩], wanted := next }) c) := by
      refine if_neg ?_
      simp only [Bool.or_eq_true, beq_iff_eq, decide_eq_true_eq, not_or]
      refine ⟨hlast, ?_⟩
      show ¬ 64 ≤ (k.record ++ [_]).length
      rw [List.length_append]
      simp only [List.length_singleton]
      omega
    rw [hfine]
    exact ⟨(congrArg Prod.fst (searchView_handTarget _ _) :), handTarget_rest next hidle htrain⟩


/-! ### How a search begins (R92, R93) -/

theorem readFrom_frame {c d : Chip} (h : ReadFrom c d) : d.records = c.records ∧ d.focus = c.focus ∧ fMax d = fMax c
    ∧ searchView d = searchView c := by
  have hview := searchView_of_readFrom h
  obtain ⟨hread, hstate, hsummary, -⟩ := h
  refine ⟨by rw [hread], by rw [hread], ?_, hview⟩
  rw [fMax, hstate, hsummary, fMax]

/-- The check of SEARCH_WAIT does nothing while the zoom is not still, and no more than a read while the read is unavailable. -/
theorem searchWaitCheck_waits {c : Chip} (h : zoomStill c.zoom = false ∨ (readTrack c.zoom.counter c).1 = none) :
    searchView (searchWaitCheck c) = searchView c ∧ (searchWaitCheck c).records = c.records := by
  unfold searchWaitCheck
  split
  next hchecked =>
    obtain ⟨-, hstill⟩ := hchecked
    obtain hmoves | hnone := h
    · simp [hstill] at hmoves
    · dsimp only
      rw [hnone]
      obtain ⟨hrecords, -, -, hview⟩ := readFrom_frame (readTrack_readFrom c.zoom.counter c)
      exact ⟨hview, hrecords⟩
  next => exact ⟨rfl, rfl⟩

theorem searchWaitCheck_moves {c : Chip} (h : zoomStill c.zoom = false) : searchWaitCheck c = c :=
  if_neg (by simp [h])

/-- The sweep of COARSE is from the nearer end of its range. -/
theorem searchWaitCheck_sweeps {c : Chip} {t : TrackData} (hphase : c.search.phase = .searchWait)
    (hstill : zoomStill c.zoom = true) (hread : (readTrack c.zoom.counter c).1 = some t) :
    let margin : Int := c.search.kept.margin
    let lo := max 0 (min ((trackAt t 0 : Int) - margin) (fMax c))
    let hi := max 0 (min ((trackAt t 448 : Int) + margin) (fMax c))
    let low : Bool := (c.focus.counter - lo).natAbs ≤ (c.focus.counter - hi).natAbs
    let d := searchWaitCheck c
    searchView d = ({ c.search with
        phase := .coarse, lo := lo, hi := hi, sweepNear := low, wanted := if low then lo else hi, motor := true }, c.control)
      ∧ (c.focus.state = .idle → c.focus.train = .none → d.focus.target = if low then lo else hi)
      ∧ d.records = c.records := by
  intro margin lo hi low d
  obtain ⟨hrecords, hfocus, hmax, hview⟩ := readFrom_frame (readTrack_readFrom c.zoom.counter c)
  simp only [searchView, Prod.mk.injEq] at hview
  obtain ⟨hsearch, hcontrol⟩ := hview
  let e := (readTrack c.zoom.counter c).2
  have hd : d = handTarget (if low then lo else hi) { setSearch (fun s => { s with
      phase := .coarse, lo := lo, hi := hi, sweepNear := low, wanted := if low then lo else hi, motor := true }) e with
        following := { e.following with moving := false } } := by
    show searchWaitCheck c = _
    unfold searchWaitCheck
    rw [if_pos ⟨hphase, hstill⟩]
    simp only [hread, limitFocusPosition, startsLow, hsearch, hfocus, hmax]
    rfl
  have hlimited : max 0 (min (if low then lo else hi) (fMax c)) = if low then lo else hi := by
    split <;> omega
  rw [hd]
  refine ⟨?_, fun hidle htrain => ?_, ?_⟩
  · rw [searchView_handTarget]
    show (({ e.search with phase := _, lo := _, hi := _, sweepNear := _, wanted := _, motor := _ } : Search), e.control) = _
    rw [hsearch, hcontrol]
  · rw [handTarget_rest _ (by exact (congrArg Focus.state hfocus).trans hidle)
      (by exact (congrArg Focus.train hfocus).trans htrain)]
    exact (congrArg (fun m => max 0 (min (if low then lo else hi) m)) hmax).trans hlimited
  · exact (records_of_besideFocus (besideFocus_handTarget _ _)).trans hrecords

/-- The fields of a search as one begins for a request. -/
def begunSearch (c : Chip) : Search := { c.search with
  phase := .searchWait, origin := .request, kept := (cfg c).search, enabled := (cfg c).stats.enables,
  fromContinuous := false, motor := false, record := [], peaks := List.replicate 5 none }

/-- The part as a search begins for a request, before the first check of SEARCH_WAIT. -/
def searchBegun (c : Chip) : Chip :=
  raise .searchHoldBegin (setControl (fun k => { k with mode := .search, result := .none })
    (setSearch (fun _ => begunSearch c) c))

theorem beginSearch_request (c : Chip) : beginSearch .request c = searchWaitCheck (searchBegun c) := rfl

theorem blocks_searchBegun (c : Chip) : blocks (searchBegun c) = { blocks c with
    search := begunSearch c, control := { c.control with mode := .search, result := .none } } := by
  unfold searchBegun
  rw [blocks_raise, blocks_setControl]
  rfl

theorem searchBegun_events (c : Chip) : (searchBegun c).events = c.events ++ [.searchHoldBegin] := by
  show (setControl _ _).events ++ _ = _
  rw [setControl_events]
  rfl

theorem searchBegun_records (c : Chip) : (searchBegun c).records = c.records := by
  show (setControl _ _).records = _
  rw [setControl_records]
  rfl

theorem readTrack_searchBegun (c : Chip) :
    (readTrack (searchBegun c).zoom.counter (searchBegun c)).1 = (readTrack c.zoom.counter c).1 := by
  have hzoom : (searchBegun c).zoom = c.zoom := zoom_of_blocks (blocks_searchBegun c)
  rw [hzoom]
  exact readTrack_congr _ (tables_of_blocks (blocks_searchBegun c)) (by rw [hzoom])

/-- The first condition of R92 that holds, with no search in the way. -/
theorem searchRefusal_cases (c : Chip) :
    (c.tables.state ≠ .valid → searchRefusal c = some .noTables)
    ∧ (c.tables.state = .valid → c.focus.state = .fault → searchRefusal c = some .focusFault)
    ∧ (c.tables.state = .valid → c.focus.state ≠ .fault → c.focus.homed = false → searchRefusal c = some .focusNotHomed)
    ∧ (Said.CanSearch c → (serviceInZoom c || serviceInFocus c) = true → searchRefusal c = some .lensService)
    ∧ (Said.CanSearch c → c.service = none → Said.ZoomParks c → searchRefusal c = some .zoomParked)
    ∧ (Said.CanSearch c → c.service = none → ¬ Said.ZoomParks c →
        searchRefusal c = if burstInProgress c then some .burstActive else none) := by
  have hservice : c.service = none → (serviceInZoom c || serviceInFocus c) = false := by
    intro hnone
    simp [serviceInZoom, serviceInFocus, hnone]
  unfold searchRefusal
  refine ⟨fun h => if_pos h, fun h hfault => ?_, fun h hfault hhomed => ?_, fun ⟨h, hfault, hhomed⟩ hlens => ?_,
    fun ⟨h, hfault, hhomed⟩ hnone hparks => ?_, fun ⟨h, hfault, hhomed⟩ hnone hparks => ?_⟩
  · rw [if_neg (not_not_intro h), if_pos hfault]
  · rw [if_neg (not_not_intro h), if_neg hfault, if_pos hhomed]
  · rw [if_neg (not_not_intro h), if_neg hfault, if_neg (by simp [hhomed]), if_pos hlens]
  · rw [if_neg (not_not_intro h), if_neg hfault, if_neg (by simp [hhomed]), if_neg (by simp [hservice hnone])]
    exact if_pos hparks
  · rw [if_neg (not_not_intro h), if_neg hfault, if_neg (by simp [hhomed]), if_neg (by simp [hservice hnone])]
    exact if_neg hparks

/-- A refused SEARCH changes nothing but its acknowledgement. -/
theorem search_refused {e : Word} {s : State} {d : Detail} (hlen : s.chip.records.length = 9)
    (hearlier : (record s.chip .focus).earlierActive = false) (hevents : s.chip.events = [])
    (hread : readNew .focus e (.focus .search) s.chip = takeSearch (adopted .focus e s.chip))
    (hrefusal : searchRefusal s.chip = some d) :
    ∃ u, exec (.search e) s = .next u ∧ u.chip.search = s.chip.search ∧ u.chip.control = s.chip.control
      ∧ record u.chip .focus = Said.entry .focus e .refused d false s.chip := by
  have hadopted : searchRefusal (adopted .focus e s.chip) = some d := hrefusal
  have htake : takeSearch (adopted .focus e s.chip) = refuse .focus d (adopted .focus e s.chip) := by
    unfold takeSearch
    rw [hadopted]
  have hnone : (refuse .focus d (adopted .focus e s.chip)).events = [] := by
    refine (finish_events _ _ rfl ?_).trans hevents
    rw [record_setRecord_same _ _ _ (by rw [adopted_records_length, hlen]), record_adopted .focus e s.chip hlen]
    exact hearlier
  refine ⟨_, exec_of_commit rfl (hread.trans htake), ?_, ?_, ?_⟩
  · exact (conclude_search _ hnone).trans (search_of_blocks (blocks_refuse _ _ _))
  · exact (conclude_control _ hnone).trans (control_of_blocks (blocks_refuse _ _ _))
  · exact (concluded_record s hnone _).trans (record_refuse_adopted d hlen hearlier rfl)

theorem searchInBurst : Said.SearchInBurst := by
  unfold Said.SearchInBurst
  intro e s h hphase hburst hcan hservice hparks hevents
  obtain ⟨hpart, he0, hnew, hearlier, hlen, hpending, hload⟩ := h
  obtain ⟨-, -, -, -, -, hnoBlock⟩ := searchRefusal_cases s.chip
  have hreason : holdReason .focus (.focus .search) s.chip = none :=
    holdReason_none _ _ _ hpart hload (fun hb => absurd hb (by decide)) rfl (fun hr => absurd hr (by decide))
  have hread := readNew_delivers (c := s.chip) (.focus .search) (r := .focus) (by decide) hpart he0 hnew
    (heldStill_notPending _ _ hpending) (fun hq => absurd hq (by decide)) hreason
  refine search_refused hlen hearlier hevents hread ?_
  rw [hnoBlock hcan hservice hparks, if_pos hburst]

theorem searchBegins : Said.SearchBegins := by
  unfold Said.SearchBegins
  intro e s h hphase
  have hread := focus_delivered .search h
  obtain ⟨-, -, -, hearlier, hlen, -, -, hburst, -⟩ := h
  obtain ⟨hnoTables, hfault, hnotHomed, hlens, hparked, hnoBlock⟩ := searchRefusal_cases s.chip
  refine ⟨fun d hevents hcases => ?_, fun hcan hservice hparks => ?_⟩
  · refine search_refused hlen hearlier hevents hread ?_
    obtain ⟨h, rfl⟩ | ⟨h, hf, rfl⟩ | ⟨h, hf, hh, rfl⟩ | ⟨h, ⟨w, hw, hpart⟩, rfl⟩ | ⟨h, hw, hp, rfl⟩ := hcases
    · exact hnoTables h
    · exact hfault h hf
    · exact hnotHomed h hf hh
    · refine hlens h ?_
      rcases hpart with hpart | hpart <;> simp [serviceInZoom, serviceInFocus, hw, hpart]
    · exact hparked h hw hp
  · intro begun
    let a := adopted .focus e s.chip
    have htake : takeSearch a = searchWaitCheck (searchBegun a) := by
      have hrefusal : searchRefusal a = none := by
        refine (hnoBlock hcan hservice hparks).trans ?_
        rw [hburst]
        rfl
      have hsearching : searching a = false := by
        show searching s.chip = false
        simp [searching, hphase]
      unfold takeSearch
      rw [hrefusal]
      simp only [hsearching]
      exact beginSearch_request a
    have hexec := exec_of_commit (i := .search e) rfl (hread.trans htake)
    have hzoom : (searchBegun a).zoom = s.chip.zoom := zoom_of_blocks (blocks_searchBegun a)
    have hview : searchView (searchBegun a) = (begun, { s.chip.control with mode := .search, result := .none }) :=
      searchView_of_blocks (blocks_searchBegun a)
    have hreadTrack : (readTrack (searchBegun a).zoom.counter (searchBegun a)).1 = (readTrack s.chip.zoom.counter s.chip).1 :=
      (readTrack_searchBegun a).trans (readTrack_congr _ rfl rfl)
    have hhold : .searchHoldBegin ∈ (searchWaitCheck (searchBegun a)).events :=
      (prefix_searchWaitCheck (searchBegun a)).mem (by rw [searchBegun_events]; simp)
    have hentry : ∀ d : Chip, d.records = (searchBegun a).records →
        record d .focus = Said.entry .focus e .active .none false s.chip := fun d hd =>
      (record_of_records (hd.trans (searchBegun_records a)) _).trans (record_adopted .focus e s.chip hlen)
    have hsearch : (searchBegun a).search = begun := congrArg Prod.fst hview
    have hcontrol : (searchBegun a).control = { s.chip.control with mode := .search, result := .none } :=
      congrArg Prod.snd hview
    refine ⟨fun hwaits => ?_, fun t hstill ht => ?_⟩
    · obtain ⟨hkept, hrecords⟩ := searchWaitCheck_waits (c := searchBegun a) (by rw [hreadTrack, hzoom]; exact hwaits)
      rw [hview] at hkept
      have hkeptControl := congrArg Prod.snd hkept
      refine ⟨_, hexec, congrArg Prod.fst hkept, ?_, ?_, hhold, fun hmoves => ?_, hentry _ hrecords⟩
      · exact congrArg Control.mode hkeptControl
      · exact congrArg Control.result hkeptControl
      · rw [searchWaitCheck_moves (by rw [hzoom]; exact hmoves), searchBegun_events]
        rfl
    · intro margin lo hi low
      have hfocus : (searchBegun a).focus = s.chip.focus := focus_of_blocks (blocks_searchBegun a)
      have hmax : fMax (searchBegun a) = fMax s.chip := by
        have htables : (searchBegun a).tables = s.chip.tables := tables_of_blocks (blocks_searchBegun a)
        rw [fMax, htables, fMax]
      obtain ⟨hsweep, htarget, hrecords⟩ := searchWaitCheck_sweeps (c := searchBegun a) (t := t)
        (by rw [hsearch]) (by rw [hzoom]; exact hstill) (by rw [hreadTrack]; exact ht)
      rw [hsearch, hcontrol, hfocus, hmax] at hsweep
      rw [hsearch, hfocus, hmax] at htarget
      have hsweepControl := congrArg Prod.snd hsweep
      exact ⟨_, hexec, congrArg Prod.fst hsweep, congrArg Control.mode hsweepControl,
        congrArg Control.result hsweepControl, hhold, htarget, hentry _ hrecords⟩

/-! ### A frame end with no capture frame (R28, R90) -/

/-- What metering leaves: all blocks but the Exposure Unit and the Pixel Port. -/
def besideMetering (c : Chip) : Chip := { blocks c with exposure := {}, pixel := {} }

@[simp] theorem besideMetering_setPixel (f : Pixel → Pixel) (c : Chip) :
    besideMetering (setPixel f c) = besideMetering c := rfl

@[simp] theorem besideMetering_setExposure (f : Exposure → Exposure) (c : Chip) :
    besideMetering (setExposure f c) = besideMetering c := by
  unfold besideMetering
  rw [blocks_setExposure]

@[simp] theorem besideMetering_handTriple (t : Triple) (c : Chip) : besideMetering (handTriple t c) = besideMetering c := by
  unfold handTriple
  (repeat' split) <;> rfl

@[simp] theorem besideMetering_handOverApplied (c : Chip) : besideMetering (handOverApplied c) = besideMetering c := by
  unfold handOverApplied
  split
  · rfl
  · split
    · exact besideMetering_handTriple _ _
    · rfl

@[simp] theorem besideMetering_meteringStep (err : Int) (c : Chip) : besideMetering (meteringStep err c) = besideMetering c := by
  unfold meteringStep
  extract_lets s
  split
  · exact besideMetering_setExposure _ c
  · split
    · rfl
    · extract_lets r c1
      have h1 : besideMetering c1 = besideMetering c := besideMetering_setExposure _ c
      split
      · exact (besideMetering_handOverApplied c1).trans h1
      · exact h1

@[simp] theorem besideMetering_meterFrame (f : OpenFrame) (means : List Nat) (c : Chip) :
    besideMetering (meterFrame f means c) = besideMetering c := by
  unfold meterFrame
  split
  · rfl
  · split
    · extract_lets g c1
      have h1 : besideMetering c1 = besideMetering c := besideMetering_setExposure _ c
      split
      · exact (besideMetering_meteringStep _ c1).trans h1
      · exact h1
    · rfl

theorem frameReceived_of_complete {f : OpenFrame} {lines : List (List (BitVec 12))} (hlines : f.height ≤ lines.length)
    (hpixels : ∀ l ∈ lines.take f.height, f.width ≤ l.length) : frameReceived f.width f.height lines = true := by
  simpa [frameReceived, hlines] using hpixels

/-- The end of a complete frame that is no capture frame: metering, then the sample of the focus windows. -/
theorem frameEnd_metered {f : OpenFrame} {input : ReceivedFrame} {s : State} (hframe : s.chip.pixel.frame = some f)
    (hreceived : f.received = none) (hslot : f.captureSlot = none) (hlines : f.height ≤ input.lines.length)
    (hpixels : ∀ l ∈ input.lines.take f.height, f.width ≤ l.length) :
    ∃ d, besideMetering d = besideMetering s.chip ∧ exec (.frameEnd input) s = .next (concluded (markGatheredStab
      (markGatheredExposure (focusSample f.metered
        (focusValues f.geometry (activeFrame f.width f.height input.lines)) d))) s) := by
  refine ⟨meterFrame f (zoneMeans f.geometry (activeFrame f.width f.height input.lines)) (setPixel (fun p => { p with
    frame := none, nextStart := none, dma := dmaAfterFrame p.dma }) s.chip), ?_, exec_of_commit rfl ?_⟩
  · rw [besideMetering_meterFrame, besideMetering_setPixel]
  · show frameEnd settle input.lines input.written s.chip = _
    simp only [frameEnd, hframe, hreceived]
    rw [if_pos (frameReceived_of_complete hlines hpixels)]
    simp only [receiveFrame, hslot, completeFrame, captureFrameEnd, Option.isSome_none, Bool.false_and, if_false,
      Bool.false_eq_true]

theorem blocks_markGathered (c : Chip) : let d := markGatheredStab (markGatheredExposure c)
    searchView d = searchView c ∧ d.focus = c.focus := by
  unfold markGatheredStab markGatheredExposure markStab
  (repeat' split) <;> exact ⟨rfl, rfl⟩

/-! ### Continuous following leaves the search -/

@[simp] theorem searchView_moveToBest (e : Episode) (c : Chip) : searchView (moveToBest e c) = searchView c := by
  simp [moveToBest]

@[simp] theorem searchView_makeStep (e : Episode) (c : Chip) : searchView (makeStep e c) = searchView c := by
  simp [makeStep]

@[simp] theorem searchView_stepNotBetter (e : Episode) (c : Chip) : searchView (stepNotBetter e c) = searchView c := by
  unfold stepNotBetter
  dsimp only
  (repeat' split) <;> simp

@[simp] theorem searchView_nextStep (e : Episode) (c : Chip) : searchView (nextStep e c) = searchView c := by
  unfold nextStep
  (repeat' split) <;> simp

@[simp] theorem searchView_stepSample (v : Nat) (e : Episode) (c : Chip) : searchView (stepSample v e c) = searchView c := by
  unfold stepSample
  (repeat' split) <;> simp

@[simp] theorem searchView_watchSample (v : Nat) (c : Chip) : searchView (watchSample v c) = searchView c := by
  unfold watchSample
  dsimp only
  (repeat' split) <;> simp

@[simp] theorem searchView_followingSample (values : List (Option Nat)) (c : Chip) :
    searchView (followingSample values c) = searchView c := by
  unfold followingSample
  (repeat' split) <;> simp

theorem followingSample_inactive {c : Chip} (values : List (Option Nat)) (h : c.following.active = false) :
    followingSample values c = c := if_neg (by simp [h])

/-! ### The coarse sweep (R94) -/

/-- What the end of COARSE keeps of the samples. -/
def SamplesKept (k : Search) (d : Chip) : Prop :=
  d.search.phase ≠ .coarse ∧ d.search.record = k.record ∧ d.search.peaks = k.peaks

theorem finishSearch_keeps (x : Nat) (found : Bool) (c : Chip) : SamplesKept c.search (finishSearch x found c) := by
  obtain ⟨hend, -⟩ := finishSearch_ends x found c
  unfold SamplesKept
  rw [hend]
  exact ⟨by simp, rfl, rfl⟩

theorem search_readTrack (p : Int) (c : Chip) : (readTrack p c).2.search = c.search :=
  (congrArg Prod.fst (searchView_readTrack p c) :)

theorem applyFinish_keeps {c : Chip} (h : c.search.phase ≠ .coarse) : SamplesKept c.search (applyFinish c) := by
  have hread := search_readTrack c.zoom.counter c
  unfold applyFinish
  cases htrack : (readTrack c.zoom.counter c).1 with
  | none =>
    simp only [htrack]
    unfold SamplesKept
    rw [hread]
    exact ⟨h, rfl, rfl⟩
  | some t =>
    simp only [htrack]
    have hkeeps := finishSearch_keeps (invAt t (readTrack c.zoom.counter c).2.search.peak) true
      (readTrack c.zoom.counter c).2
    rw [hread] at hkeeps ⊢
    exact hkeeps

theorem enterFinish_keeps (c : Chip) : SamplesKept c.search (enterFinish c) :=
  applyFinish_keeps (c := setSearch (fun s => { s with phase := .finish, peak := estimatePeak c }) c) (by simp [setSearch])

theorem enterFine_keeps (w : Nat) (peak : Int) (c : Chip) : SamplesKept c.search (enterFine w peak c) := by
  unfold enterFine
  extract_lets cs lo hi near start c1
  split
  · exact enterFinish_keeps c1
  · unfold SamplesKept
    have hsearch : (handTarget start c1).search = c1.search := (congrArg Prod.fst (searchView_handTarget start c1) :)
    rw [hsearch]
    exact ⟨by simp [c1, setSearch], rfl, rfl⟩

theorem applyChoose_keeps {c : Chip} (h : c.search.phase ≠ .coarse) : SamplesKept c.search (applyChoose c) := by
  have hread := search_readTrack c.zoom.counter c
  unfold applyChoose
  split
  · exact finishSearch_keeps _ _ _
  · cases htrack : (readTrack c.zoom.counter c).1 with
    | none =>
      simp only [htrack]
      unfold SamplesKept
      rw [hread]
      exact ⟨h, rfl, rfl⟩
    | some t =>
      simp only [htrack]
      have hkeeps := fun w peak => enterFine_keeps w peak (readTrack c.zoom.counter c).2
      rw [hread] at hkeeps
      exact hkeeps _ _

theorem enterChoose_keeps (c : Chip) : SamplesKept c.search (enterChoose c) :=
  applyChoose_keeps (c := setSearch (fun s => { s with phase := .choose }) c) (by simp [setSearch])

/-- A window has passed its peak. -/
theorem passed_iff (p : Option Peak) : (match p with | some q => q.passed | none => false) = true
    ↔ ∃ q, p = some q ∧ q.passed = true := by
  cases p with
  | none => simp
  | some q => simp

theorem allPassed_iff (k : Search) : allPassed k = true
    ↔ ∀ w < 5, k.enabled.getD w false = true → ∃ q, k.peaks.getD w none = some q ∧ q.passed = true := by
  unfold allPassed
  rw [List.all_eq_true]
  refine forall_congr' fun w => ?_
  rw [List.mem_range]
  refine imp_congr_right fun _ => ?_
  cases k.enabled.getD w false with
  | false => simp
  | true =>
    rw [Bool.not_true, Bool.false_or]
    exact (passed_iff _).trans (by simp)

/-- The search with the coarse sample `values` in its record and its summaries. -/
def coarseSampled (values : List Nat) (p : Int) (k : Search) : Search := { k with
  record := k.record ++ [⟨p, values, false⟩], peaks := updatePeaks k.kept.drop p k.enabled values k.peaks }

/-- Where the coarse sweep ends with the sample of position `p`. -/
def coarseEnds (values : List Nat) (p : Int) (k : Search) : Prop :=
  p = (if k.sweepNear then k.hi else k.lo) ∨ 63 ≤ k.record.length
    ∨ ∀ w < 5, k.enabled.getD w false = true →
        ∃ q, (updatePeaks k.kept.drop p k.enabled values k.peaks).getD w none = some q ∧ q.passed = true

theorem coarseSample_eq (values : List Nat) (c : Chip) :
    (coarseEnds values c.focus.counter c.search →
      coarseSample values c = enterChoose (setSearch (coarseSampled values c.focus.counter) c))
    ∧ (¬ coarseEnds values c.focus.counter c.search → coarseSample values c
      = (let next := nextWanted c.search.sweepNear c.search.kept.coarse c.search.wanted
          (if c.search.sweepNear then c.search.hi else c.search.lo)
        handTarget next (setSearch (fun k => { coarseSampled values c.focus.counter k with wanted := next }) c))) := by
  have hiff : (allPassed (coarseSampled values c.focus.counter c.search)
      || c.focus.counter == (if c.search.sweepNear then c.search.hi else c.search.lo)
      || decide (Config.maxSamples ≤ (coarseSampled values c.focus.counter c.search).record.length)) = true
      ↔ coarseEnds values c.focus.counter c.search := by
    have hlength : (coarseSampled values c.focus.counter c.search).record.length = c.search.record.length + 1 := by
      simp [coarseSampled]
    have hmax : Config.maxSamples = 64 := rfl
    rw [Bool.or_eq_true, Bool.or_eq_true, allPassed_iff, beq_iff_eq, decide_eq_true_eq, hlength, hmax]
    unfold coarseEnds
    refine ⟨?_, ?_⟩
    · rintro ((hall | hlast) | hlong)
      · exact .inr (.inr hall)
      · exact .inl hlast
      · exact .inr (.inl (by omega))
    · rintro (hlast | hlong | hall)
      · exact .inl (.inr hlast)
      · exact .inr (by omega)
      · exact .inl (.inl hall)
  exact ⟨fun h => if_pos (hiff.mpr h), fun h => if_neg (mt hiff.mp h)⟩

theorem coarseSample_spec : Said.CoarseSample := by
  unfold Said.CoarseSample
  intro f input values s hframe hreceived hslot hmetered hlines hpixels hphase hmotor hidle htrain hmotion hfollowing
    hvalues k p last peaks ends next
  obtain ⟨d, hbeside, hexec⟩ := frameEnd_metered hframe hreceived hslot hlines hpixels
  have hsearch : d.search = k := (congrArg Chip.search hbeside :)
  have hfocus : d.focus = s.chip.focus := (congrArg Chip.focus hbeside :)
  have hactive : d.following.active = false := (congrArg (·.following.active) hbeside :).trans hfollowing
  have hmax : fMax d = fMax s.chip := (congrArg fMax hbeside :)
  have hsampled : focusSample f.metered (focusValues f.geometry (activeFrame f.width f.height input.lines)) d
      = followingSample (focusValues f.geometry (activeFrame f.width f.height input.lines)) (coarseSample values d) := by
    unfold focusSample
    rw [if_pos ⟨hmetered, by rw [hfocus]; exact hmotion⟩]
    unfold searchSample
    rw [if_pos ⟨by rw [hsearch]; exact hmotor, by rw [hfocus]; exact hidle⟩, hsearch, hphase, hvalues]
  rw [hsampled] at hexec
  obtain ⟨hends, hgoes⟩ := coarseSample_eq values d
  rw [hsearch, hfocus] at hends hgoes
  refine ⟨fun hnot => ?_, fun hend => ?_⟩
  · rw [hgoes hnot] at hexec
    have hnofollow : (handTarget next (setSearch (fun k => { coarseSampled values p k with wanted := next }) d)).following
        = d.following := (congrArg Chip.following (besideFocus_handTarget _ _) :)
    obtain ⟨hview, hkept⟩ := blocks_markGathered (handTarget next
      (setSearch (fun k => { coarseSampled values p k with wanted := next }) d))
    rw [followingSample_inactive _ (by exact (congrArg Following.active hnofollow).trans hactive)] at hexec
    refine ⟨_, hexec, ?_, ?_⟩
    · refine (congrArg Prod.fst (hview.trans (searchView_handTarget _ _)) :).trans ?_
      show ({ coarseSampled values p d.search with wanted := next } : Search) = _
      rw [hsearch]
      rfl
    · refine (congrArg Focus.target hkept).trans ((handTarget_rest next (by exact (congrArg Focus.state hfocus).trans hidle)
        (by exact (congrArg Focus.train hfocus).trans htrain)).trans ?_)
      exact congrArg (fun m => max 0 (min next m)) hmax
  · rw [hends hend] at hexec
    obtain ⟨hview, -⟩ := blocks_markGathered (followingSample (focusValues f.geometry
      (activeFrame f.width f.height input.lines)) (enterChoose (setSearch (coarseSampled values p) d)))
    have hkept := enterChoose_keeps (setSearch (coarseSampled values p) d)
    have hnow : _ = (enterChoose (setSearch (coarseSampled values p) d)).search :=
      (congrArg Prod.fst (hview.trans (searchView_followingSample _ _)) :)
    refine ⟨_, hexec, ?_⟩
    unfold SamplesKept at hkept
    rw [← hnow] at hkept
    have hset : (setSearch (coarseSampled values p) d).search = coarseSampled values p k := by
      show coarseSampled values p d.search = _
      rw [hsearch]
    rw [hset] at hkept
    exact hkept

/-- Settles O34: a search begins or is refused, its samples and its choice, and its end. -/
theorem searchRequest : Obligations.SearchRequest :=
  ⟨searchBegins, searchInBurst, peakSummary, coarseSample_spec, windowChoice, fineSweep, peakOffset_spec, searchFinish⟩

end Sys2Proof.Proofs.SearchRequests
end

section
/-! PROOFS. The sensor (sections 2.2 and 2.4): its configuration writes, its reconfiguration and its stall. -/

namespace Sys2Proof.Proofs.SensorStream

-- One elaboration thread at a time: each waiting thread reserves a stack, and the text is long.
set_option Elab.async false

open Sys2Proof Sys2Proof.Machine Sys2Proof.Proofs.Part Sys2Proof.Proofs.SensorLimits Sys2Proof.Proofs.Requests
open Sys2Proof.Proofs.StoreRequests Sys2Proof.Proofs.ExposureRequests Sys2Proof.Proofs.FocusRequests

/-! ### The stream state (section 2.2) -/

@[simp] theorem setStream_pixel (s : StreamState) (c : Chip) : (setStream s c).pixel = { c.pixel with stream := s } := by
  unfold setStream
  dsimp only
  split <;> rfl

@[simp] theorem setStream_notices (s : StreamState) (c : Chip) : (setStream s c).notices = c.notices := by
  unfold setStream
  dsimp only
  split <;> rfl

@[simp] theorem setStream_events (s : StreamState) (c : Chip) : (setStream s c).events = c.events := by
  unfold setStream
  dsimp only
  split <;> rfl

/-- A stream that stalls keeps the write due mark. -/
theorem setStream_stalled {c : Chip} (h : c.pixel.stream = .streaming) :
    setStream .stalled c = mark .exposure { c with pixel := { c.pixel with stream := .stalled } } := by
  have hexposure : ({ c.exposure with writeDue := c.exposure.writeDue && true } : Exposure) = c.exposure := by
    rw [Bool.and_true]
  unfold setStream
  dsimp only
  rw [if_neg (by simp [h])]
  exact congrArg (fun e => mark .exposure { c with pixel := { c.pixel with stream := .stalled }, exposure := e }) hexposure

theorem streamRunning_iff (p : Pixel) : streamRunning p = true ↔ p.stream = .streaming ∨ p.stream = .stalled := by
  simp [streamRunning]

/-! ### The triple of a reconfiguration (R24) -/

theorem newestEntry_cons (y : PipelineEntry) (ys : List PipelineEntry) : ∃ f, newestEntry (y :: ys) = some f
    ∧ f ∈ y :: ys ∧ ∀ x ∈ y :: ys, x.order ≤ f.order := by
  induction ys generalizing y with
  | nil => exact ⟨y, rfl, by simp, by simp⟩
  | cons z zs ih =>
    obtain ⟨f, hf, hmem, hgreatest⟩ := ih z
    unfold newestEntry
    rw [hf]
    by_cases hless : y.order < f.order
    · refine ⟨f, if_pos hless, List.mem_cons_of_mem _ hmem, fun x hx => ?_⟩
      rcases List.mem_cons.mp hx with rfl | hx
      · exact Nat.le_of_lt hless
      · exact hgreatest x hx
    · refine ⟨y, if_neg hless, by simp, fun x hx => ?_⟩
      rcases List.mem_cons.mp hx with rfl | hx
      · exact Nat.le_refl _
      · exact Nat.le_trans (hgreatest x hx) (Nat.not_lt.mp hless)

/-- The entry acknowledged last is the newest one. -/
theorem newestEntry_eq {e : PipelineEntry} {l : List PipelineEntry} (hmem : e ∈ l)
    (hless : ∀ x ∈ l, x ≠ e → x.order < e.order) : newestEntry l = some e := by
  cases l with
  | nil => simp at hmem
  | cons y ys =>
    obtain ⟨f, hf, hfmem, hgreatest⟩ := newestEntry_cons y ys
    by_cases hfe : f = e
    · rw [hf, hfe]
    · exact absurd (hless f hfmem hfe) (Nat.not_lt.mpr (hgreatest e hmem))

theorem reconfigureTriple_eq {p : Pixel} {t : Triple} (h : p.waiting = some t
    ∨ (p.waiting = none ∧ p.pipeline = [] ∧ p.effective = some t)
    ∨ (p.waiting = none ∧ ∃ e ∈ p.pipeline, e.triple = t ∧ ∀ x ∈ p.pipeline, x ≠ e → x.order < e.order)) :
    reconfigureTriple p = some t := by
  obtain hwaits | ⟨hnone, hempty, heffective⟩ | ⟨hnone, e, hmem, rfl, hless⟩ := h
  · simp [reconfigureTriple, hwaits]
  · simp [reconfigureTriple, hnone, hempty, heffective, newestEntry]
  · simp [reconfigureTriple, hnone, newestEntry_eq hmem hless]

theorem beginReconfigure_begins {c : Chip} {t : Triple} (hwaits : c.pixel.reconfigure = true)
    (hruns : c.pixel.stream = .streaming ∨ c.pixel.stream = .stalled) (hframe : c.pixel.frame = none)
    (hflight : c.pixel.inFlight = none) (ht : reconfigureTriple c.pixel = some t) :
    beginReconfigure c = enterConfiguring false t (setPixel (fun p => { p with pipeline := [], effective := some t }) c) := by
  unfold beginReconfigure
  rw [if_pos (by simp [hwaits, (streamRunning_iff c.pixel).mpr hruns, hframe, hflight]), ht]

/-! ### Configuration writes (R22) -/

theorem configWriteDone_next {c : Chip} {w : ConfigWork} (hconfig : c.pixel.config = some w) (hlast : w.write ≠ 6) :
    configWriteDone true c = { c with pixel := { c.pixel with
      config := some { w with write := w.write + 1, repeated := false } } } := by
  simp only [configWriteDone, hconfig]
  exact (if_pos trivial).trans (if_neg hlast)

theorem configWriteDone_last {c : Chip} {w : ConfigWork} (hconfig : c.pixel.config = some w) (hlast : w.write = 6) :
    configWriteDone true c = streamStarted w c := by
  simp only [configWriteDone, hconfig]
  exact (if_pos trivial).trans (if_pos hlast)

theorem configWriteDone_repeats {c : Chip} {w : ConfigWork} (hconfig : c.pixel.config = some w) (hfirst : w.repeated = false) :
    configWriteDone false c = { c with pixel := { c.pixel with config := some { w with repeated := true } } } := by
  simp only [configWriteDone, hconfig, hfirst]
  rfl

theorem configWriteDone_fails {c : Chip} {w : ConfigWork} (hconfig : c.pixel.config = some w) (hsecond : w.repeated = true) :
    configWriteDone false c = streamFailed c := by
  simp only [configWriteDone, hconfig, hsecond]
  rfl

theorem streamFailed_facts (c : Chip) : (streamFailed c).pixel.stream = .fault ∧ (streamFailed c).pixel.config = none
    ∧ (streamFailed c).events = c.events ++ [.streamFault]
    ∧ (streamFailed c).notices.counts = c.notices.counts.modify 8 (· + 1) := by
  unfold streamFailed
  refine ⟨?_, ?_, ?_, ?_⟩
  · exact congrArg Pixel.stream (setStream_pixel .fault _)
  · exact congrArg Pixel.config (setStream_pixel .fault _)
  · exact congrArg (· ++ [Event.streamFault]) (setStream_events .fault _)
  · exact congrArg (fun n => n.counts.modify 8 (· + 1)) (setStream_notices .fault _)

/-- Settles O39. -/
theorem streamConfiguration : Obligations.StreamConfiguration := by
  unfold Obligations.StreamConfiguration
  refine fun s => ⟨fun w hconfig hflight hstop => ?_, fun ack w hconfig => ⟨?_, ?_, ?_, ?_⟩,
    fun t hwaits hruns hframe hflight ht => ?_, fun hstreaming => ?_⟩
  · intro k
    simp only [sensorTransaction, hflight, hconfig]
    rw [if_neg hstop]
    rfl
  · rintro rfl hlast
    exact exec_of_commit rfl (configWriteDone_next hconfig hlast)
  · rintro rfl hlast
    refine ⟨_, exec_of_commit rfl (configWriteDone_last hconfig hlast), ?_⟩
    unfold streamStarted
    rw [setStream_pixel, setStream_notices]
    exact ⟨rfl, rfl, rfl, rfl, rfl⟩
  · rintro rfl hfirst
    exact exec_of_commit rfl (configWriteDone_repeats hconfig hfirst)
  · rintro rfl hsecond
    exact ⟨_, exec_of_commit rfl (configWriteDone_fails hconfig hsecond), streamFailed_facts s.chip⟩
  · refine ⟨_, exec_of_commit rfl (beginReconfigure_begins hwaits hruns hframe hflight (reconfigureTriple_eq ht)), ?_⟩
    unfold enterConfiguring
    rw [setStream_pixel]
    exact ⟨rfl, rfl, rfl, rfl, rfl⟩
  · refine exec_of_commit rfl ?_
    show stallTimeout s.chip = _
    rw [stallTimeout, if_pos hstreaming, setStream_stalled hstreaming]

end Sys2Proof.Proofs.SensorStream
end

section
/-! PROOFS. Sensor writes, the capture DMA and the Flicker Detector (sections 2.4, 2.7 and 2.8). -/

namespace Sys2Proof.Proofs.SensorWrites

-- One elaboration thread at a time: each waiting thread reserves a stack, and the text is long.
set_option Elab.async false

open Sys2Proof Sys2Proof.Machine Sys2Proof.Proofs.Part Sys2Proof.Proofs.SensorLimits Sys2Proof.Proofs.Requests
open Sys2Proof.Proofs.StoreRequests Sys2Proof.Proofs.ExposureRequests Sys2Proof.Proofs.SensorStream

/-! ### The exposure pipeline (R30) -/

/-- Frames that are equally far ahead are the same frame. -/
theorem frame_of_framesAhead {counter f g : Word} (h : framesAhead counter f = framesAhead counter g) : f = g :=
  (BitVec.sub_left_inj (x := f) (y := g) counter).mp (BitVec.eq_of_toNat_eq h)

theorem mem_insertEntry {counter : Word} {e : PipelineEntry} {l : List PipelineEntry}
    (h : l.Pairwise fun a b => framesAhead counter a.frame < framesAhead counter b.frame) (x : PipelineEntry) :
    x ∈ insertEntry counter e l ↔ x = e ∨ (x ∈ l ∧ x.frame ≠ e.frame) := by
  induction l with
  | nil => simp [insertEntry]
  | cons f fs ih =>
    obtain ⟨hfirst, hrest⟩ := List.pairwise_cons.mp h
    unfold insertEntry
    split
    next hsame =>
      have hother : ∀ y ∈ fs, y.frame ≠ e.frame := by
        intro y hy heq
        exact absurd (hfirst y hy) (by rw [hsame, heq]; exact Nat.lt_irrefl _)
      rw [List.mem_cons, List.mem_cons]
      refine or_congr_right ⟨fun hx => ⟨.inr hx, hother x hx⟩, ?_⟩
      rintro ⟨rfl | hx, hne⟩
      · exact absurd hsame hne
      · exact hx
    next hne =>
      split
      next hbefore =>
        have hother : ∀ y ∈ f :: fs, y.frame ≠ e.frame := by
          intro y hy heq
          rcases List.mem_cons.mp hy with rfl | hy
          · exact hne heq
          · have hlater := hfirst y hy
            rw [heq] at hlater
            omega
        rw [List.mem_cons]
        exact or_congr_right ⟨fun hx => ⟨hx, hother x hx⟩, And.left⟩
      next =>
        rw [List.mem_cons, ih hrest, List.mem_cons]
        constructor
        · rintro (rfl | rfl | ⟨hx, hx'⟩)
          · exact .inr ⟨.inl rfl, hne⟩
          · exact .inl rfl
          · exact .inr ⟨.inr hx, hx'⟩
        · rintro (rfl | ⟨rfl | hx, hx'⟩)
          · exact .inr (.inl rfl)
          · exact .inl rfl
          · exact .inr (.inr ⟨hx, hx'⟩)

theorem insertEntry_ordered {counter : Word} (e : PipelineEntry) {l : List PipelineEntry}
    (h : l.Pairwise fun a b => framesAhead counter a.frame < framesAhead counter b.frame) :
    (insertEntry counter e l).Pairwise fun a b => framesAhead counter a.frame < framesAhead counter b.frame := by
  induction l with
  | nil => exact List.pairwise_singleton _ e
  | cons f fs ih =>
    obtain ⟨hfirst, hrest⟩ := List.pairwise_cons.mp h
    unfold insertEntry
    split
    next hsame => exact List.pairwise_cons.mpr ⟨by rw [← hsame]; exact hfirst, hrest⟩
    next hne =>
      split
      next hbefore =>
        refine List.pairwise_cons.mpr ⟨fun y hy => ?_, h⟩
        rcases List.mem_cons.mp hy with rfl | hy
        · exact hbefore
        · exact Nat.lt_trans hbefore (hfirst y hy)
      next hnot =>
        refine List.pairwise_cons.mpr ⟨fun y hy => ?_, ih hrest⟩
        rcases (mem_insertEntry hrest y).mp hy with rfl | ⟨hy, -⟩
        · exact Nat.lt_of_le_of_ne (Nat.not_lt.mp hnot) fun heq => hne (frame_of_framesAhead heq)
        · exact hfirst y hy

/-! ### Sensor writes (R29, R30) -/

/-- The entry of the pipeline for triple `t` as its write is acknowledged. -/
def newEntry (t : Triple) (c : Chip) : PipelineEntry :=
  ⟨t, c.pixel.frameCounter + BitVec.ofNat 32 (cfg c).sensor.latency, c.pixel.order⟩

/-- The port as the transaction in flight ends while no reconfiguration waits. -/
def nextWriteBegun (k : SensorSettings) (p : Pixel) : Pixel :=
  { p with inFlight := p.waiting, waiting := none, carried := k }

theorem nextSensorWrite_begun (k : SensorSettings) {p : Pixel} (h : p.reconfigure = false) :
    nextSensorWrite k p = nextWriteBegun k p := if_neg (by simp [h])

theorem sensorWriteDone_eq {c : Chip} {t : Triple} (hflight : c.pixel.inFlight = some t) (hwaits : c.pixel.reconfigure = false) :
    sensorWriteDone c = { c with pixel := nextWriteBegun (cfg c).sensor { c.pixel with
      pipeline := insertEntry c.pixel.frameCounter (newEntry t c) c.pixel.pipeline, order := c.pixel.order + 1 } } := by
  unfold sensorWriteDone
  simp only [hflight]
  have hbegun := nextSensorWrite_begun (cfg c).sensor (p := { c.pixel with
    pipeline := insertEntry c.pixel.frameCounter (newEntry t c) c.pixel.pipeline, order := c.pixel.order + 1 }) hwaits
  exact congrArg (fun p => { c with pixel := p }) hbegun

theorem setExposure_pixel {f : Exposure → Exposure} {c : Chip} (h : (f c.exposure).applied = c.exposure.applied) :
    (setExposure f c).pixel = c.pixel := by
  unfold setExposure
  dsimp only
  rw [if_pos h]
  (repeat' split) <;> rfl

theorem setExposure_notices {f : Exposure → Exposure} {c : Chip} (h : entersNoticed c.exposure (f c.exposure) = false) :
    (setExposure f c).notices = c.notices := by
  unfold setExposure followApplied
  dsimp only
  rw [h]
  (repeat' split) <;> trivial

theorem entersNoticed_of_state {d e : Exposure} (h : exposureState e = exposureState d) : entersNoticed d e = false := by
  simp [entersNoticed, h]

/-- A lost write leaves the applied triple, and its one notice is FAULT. -/
theorem sensorWriteLost_facts {c : Chip} {t : Triple} (hflight : c.pixel.inFlight = some t)
    (hwaits : c.pixel.reconfigure = false) : let d := sensorWriteLost c
    d.pixel = nextWriteBegun (cfg c).sensor c.pixel
      ∧ d.exposure.writeFailed = true ∧ d.exposure.applied = c.exposure.applied
      ∧ d.notices.counts = c.notices.counts.modify 8 (· + 1) := by
  intro d
  have hd : d = notice .fault (setWriteDue (setExposure (fun e => { e with writeFailed := true })
      (setPixel (nextSensorWrite (cfg c).sensor) c))) := by
    show sensorWriteLost c = _
    simp only [sensorWriteLost, hflight]
  obtain ⟨g, hg⟩ := setExposure_exposure (fun e => { e with writeFailed := true })
    (setPixel (nextSensorWrite (cfg c).sensor) c)
  rw [hd]
  refine ⟨?_, ?_, ?_, ?_⟩
  · exact (setExposure_pixel rfl).trans (nextSensorWrite_begun _ hwaits)
  · exact congrArg Exposure.writeFailed hg
  · exact (setExposure_applied _ _).trans rfl
  · have hnotices : (setExposure (fun e => { e with writeFailed := true })
        (setPixel (nextSensorWrite (cfg c).sensor) c)).notices = c.notices :=
      setExposure_notices (entersNoticed_of_state rfl)
    exact congrArg (fun n => n.counts.modify 8 (· + 1)) hnotices

/-! ### The capture DMA and the stop (R25, R37) -/

theorem dmaBusError_eq {c : Chip} {n : Nat} (hdma : c.pixel.dma = .running) (hfilling : c.capture.filling = some n) :
    dmaBusError c = setPixel (fun p => { p with dma := .busFailed }) (spoilBuffer n c) := by
  simp only [dmaBusError, hdma, hfilling]

theorem dmaAbandonReport_waited {c : Chip} (hdma : c.pixel.dma = .abandoned) (hstop : c.pixel.stopping = .waitDma) :
    dmaAbandonReport c = stopStreams (setPixel (fun p => { p with dma := .idle }) c) := by
  unfold dmaAbandonReport
  rw [if_pos hdma]
  exact if_pos hstop

theorem dmaAbandonReport_alone {c : Chip} (hdma : c.pixel.dma = .abandoned) (hstop : c.pixel.stopping ≠ .waitDma) :
    dmaAbandonReport c = setPixel (fun p => { p with dma := .idle }) c := by
  unfold dmaAbandonReport
  rw [if_pos hdma]
  exact if_neg hstop

/-- The stop of the gyro waits for a read in flight. -/
theorem gyroStop_stab (c : Chip) : (gyroStop c).stab.stopping = (if c.stab.reading then .waitRead else .writing)
    ∧ (c.stab.reading = false → (gyroStop c).stab.stopWrite = some (cfg c).stab.stopWrite) := by
  unfold gyroStop
  obtain ⟨g, hg⟩ := setStab_stab (fun s => if s.reading then { { s with marked := false } with stopping := .waitRead }
    else beginStopWrite (cfg c).stab { s with marked := false }) c
  refine ⟨(congrArg Stab.stopping hg).trans ?_, fun hreading => (congrArg Stab.stopWrite hg).trans ?_⟩
  · dsimp only
    split <;> rfl
  · dsimp only
    rw [if_neg (by simp [hreading])]
    rfl

theorem gyroStop_pixel (c : Chip) : (gyroStop c).pixel = c.pixel := pixel_of_blocks (blocks_setStab _ c)

/-- Settles O43. -/
theorem sensorWritesAndDma : Obligations.SensorWritesAndDma := by
  unfold Obligations.SensorWritesAndDma
  refine ⟨fun t s hflight => ?_, fun t s hflight hwaits => ⟨fun hempty => ?_, ?_, ?_⟩, fun s => ?_⟩
  · intro k
    simp only [sensorTransaction, hflight]
    rfl
  · refine exec_of_commit rfl ((sensorWriteDone_eq hflight hwaits).trans ?_)
    rw [hempty]
    rfl
  · intro ahead entry hordered
    refine ⟨_, exec_of_commit rfl (sensorWriteDone_eq hflight hwaits), fun x => mem_insertEntry hordered x,
      insertEntry_ordered entry hordered, rfl, rfl, rfl⟩
  · obtain ⟨hpixel, hfailed, happlied, hcounts⟩ := sensorWriteLost_facts hflight hwaits
    refine ⟨_, exec_of_commit rfl rfl, ?_⟩
    rw [hpixel]
    exact ⟨rfl, rfl, rfl, hfailed, rfl, happlied, hcounts⟩
  · intro size
    refine ⟨fun n hdma hfilling => exec_of_commit rfl (dmaBusError_eq hdma hfilling),
      fun hdma => ⟨fun hstop => exec_of_commit rfl (dmaAbandonReport_alone hdma hstop), fun hstop => ?_⟩,
      fun ack hstop => ⟨fun hflight => ?_, ?_⟩⟩
    · refine ⟨_, exec_of_commit rfl (dmaAbandonReport_waited hdma hstop), ?_⟩
      unfold stopStreams
      rw [gyroStop_pixel]
      exact ⟨rfl, rfl, rfl, gyroStop_stab (writeStreamOff _)⟩
    · simp only [sensorTransaction, hflight]
      exact if_pos hstop
    · refine ⟨_, exec_of_commit (d := setStream .stopped (setPixel (fun p => { p with
        frame := none, nextStart := none, pipeline := [], inFlight := none, stopping := .done }) s.chip)) rfl
        (if_pos hstop), ?_⟩
      rw [setStream_pixel]
      exact ⟨rfl, rfl, rfl, rfl, rfl⟩

/-! ### The Flicker Detector (R34, R35) -/

theorem setFlickerClass_flicker (k : FlickerClass) (c : Chip) : (setFlickerClass k c).flicker = { c.flicker with cls := k } := by
  unfold setFlickerClass
  split
  next h => rw [← h]
  next => rfl

/-- An edge that ends one run of 8 alone gives its class, and one that ends neither keeps it. -/
theorem classAfter_cases (k : FlickerClass) (a b x y : Nat) :
    ((x = 8 ∧ a = 7) ∧ ¬ (y = 8 ∧ b = 7) → classAfter k a b x y = .f100)
    ∧ (¬ (x = 8 ∧ a = 7) ∧ (y = 8 ∧ b = 7) → classAfter k a b x y = .f120)
    ∧ (¬ (x = 8 ∧ a = 7) ∧ ¬ (y = 8 ∧ b = 7) → classAfter k a b x y = k) := by
  have reaches (p q : Nat) : (p == 8 && q == 7) = decide (p = 8 ∧ q = 7) := by simp [Bool.beq_eq_decide_eq]
  unfold classAfter
  rw [reaches x a, reaches y b]
  refine ⟨fun ⟨h100, h120⟩ => ?_, fun ⟨h100, h120⟩ => ?_, fun ⟨h100, h120⟩ => ?_⟩ <;>
    simp only [h100, h120, decide_false] <;> rfl

/-- Settles O44. -/
theorem flickerDetection : Obligations.FlickerDetection := by
  unfold Obligations.FlickerDetection
  intro time s hpart
  refine ⟨fun hnone => ?_, fun t hedge => ?_⟩
  · refine ⟨_, exec_of_commit (d := { s.chip with
      now := max s.chip.now time, flicker := { s.chip.flicker with lastEdge := some time } }) rfl ?_, rfl⟩
    show flkEdge time s.chip = _
    unfold flkEdge
    rw [if_neg hpart]
    simp only [hnone]
  · intro b p n100 n120
    have hflk : flkEdge time s.chip = setFlickerClass
        (classAfter s.chip.flicker.cls s.chip.flicker.run100 s.chip.flicker.run120 n100 n120)
        { s.chip with now := max s.chip.now time, flicker := { s.chip.flicker with
            lastEdge := some time, run100 := n100, run120 := n120 } } := by
      unfold flkEdge
      rw [if_neg hpart]
      simp only [hedge]
      rfl
    have htimeout : flickerTimeout s.chip = setFlickerClass .none
        { s.chip with flicker := { s.chip.flicker with lastEdge := none, run100 := 0, run120 := 0 } } := by
      simp only [flickerTimeout, hedge]
    refine ⟨⟨_, exec_of_commit rfl hflk, ?_⟩, _, exec_of_commit rfl htimeout, setFlickerClass_flicker _ _⟩
    rw [setFlickerClass_flicker]
    exact ⟨rfl, rfl, rfl, classAfter_cases _ _ _ _ _⟩

end Sys2Proof.Proofs.SensorWrites
end

section
/-! PROOFS. The Lens Table Memory (Chapter 3): block checks, loads and refetches. -/

namespace Sys2Proof.Proofs.TableLoads

-- One elaboration thread at a time: each waiting thread reserves a stack, and the text is long.
set_option Elab.async false

open Sys2Proof Sys2Proof.Machine Sys2Proof.Proofs.Part Sys2Proof.Proofs.SensorLimits Sys2Proof.Proofs.Requests
open Sys2Proof.Proofs.StoreRequests Sys2Proof.Proofs.ExposureRequests Sys2Proof.Proofs.FocusRequests
open Sys2Proof.Proofs.SettingsRequests Sys2Proof.Proofs.SearchRequests

/-! ### Block checks (R38) -/

theorem firstBad_none (bad : Nat → Bool) (i n : Nat) : firstBad bad i n = none ↔ ∀ k < n, bad (i + k) = false := by
  induction n generalizing i with
  | zero => simp [firstBad]
  | succ n ih =>
    unfold firstBad
    split
    next h => exact iff_of_false (by simp) fun hall => by simpa [h] using hall 0 n.succ_pos
    next h =>
      rw [ih (i + 1)]
      refine ⟨fun hrest k hk => ?_, fun hall k hk => ?_⟩
      · cases k with
        | zero => simpa using h
        | succ k =>
          have hbad := hrest k (by omega)
          rwa [Nat.add_assoc, Nat.add_comm 1 k] at hbad
      · rw [Nat.add_assoc, Nat.add_comm 1 k]
        exact hall (k + 1) (by omega)

theorem rowDecreases_eq_false (ws : List Word) (r : Nat) :
    rowDecreases ws r = false ↔ ∀ k < 7, trackCell ws r k ≤ trackCell ws r (k + 1) := by
  simp [rowDecreases]

theorem rowAbove_eq_false (ws : List Word) (limit r : Nat) :
    rowAbove ws limit r = false ↔ ∀ k < 8, trackCell ws r k ≤ limit := by
  simp [rowAbove]

/-- The checks of a tracking block after those of its tag, edition and sum. -/
theorem rowChecks (b : TableBlock) (limit : Nat) (ws : List Word) :
    (match firstBad (rowDecreases ws) 0 (rowCount b) with
      | some r => (LoadResult.trackingOrder, firstRow b + r)
      | none => match firstBad (rowAbove ws limit) 0 (rowCount b) with
        | some r => (.trackingRange, firstRow b + r)
        | none => (.passed, 0)).1 = .passed
    ↔ ∀ r < rowCount b, (∀ k < 7, trackCell ws r k ≤ trackCell ws r (k + 1)) ∧ ∀ k < 8, trackCell ws r k ≤ limit := by
  have hrows := firstBad_none (rowDecreases ws) 0 (rowCount b)
  have hcells := firstBad_none (rowAbove ws limit) 0 (rowCount b)
  simp only [Nat.zero_add, rowDecreases_eq_false] at hrows
  simp only [Nat.zero_add, rowAbove_eq_false] at hcells
  cases horder : firstBad (rowDecreases ws) 0 (rowCount b) with
  | some r =>
    refine iff_of_false (by simp) fun hall => ?_
    rw [hrows.mpr fun k hk => (hall k hk).1] at horder
    simp at horder
  | none =>
    cases hrange : firstBad (rowAbove ws limit) 0 (rowCount b) with
    | some r =>
      refine iff_of_false (by simp) fun hall => ?_
      rw [hcells.mpr fun k hk => (hall k hk).2] at hrange
      simp at hrange
    | none => exact iff_of_true rfl fun r hr => ⟨hrows.mp horder r hr, hcells.mp hrange r hr⟩

/-- Settles O45. -/
theorem trackingBlockCheck : Obligations.TrackingBlockCheck := by
  unfold Obligations.TrackingBlockCheck
  intro b edition limit prior ws hb
  have htag : wordAt ws 0 = (if b = .tr0 then 2 else 3) ↔ wordAt ws 0 = blockIndex b + 1 := by
    cases b <;> simp_all [blockIndex]
  have hcount : (if b = .tr0 then 17 else 16) = rowCount b := by
    cases b <;> simp_all [rowCount]
  rw [htag, hcount, ← rowChecks b limit ws]
  unfold checkBlock
  split
  next h => exact iff_of_false (by simp) fun hall => h hall.1
  next h =>
    split
    next h' => exact iff_of_false (by simp) fun hall => h' hall.2.1
    next h' =>
      split
      next h'' => exact iff_of_false (by simp) fun hall => h'' hall.2.2.1
      next h'' =>
        rw [and_iff_right (Classical.not_not.mp h), and_iff_right (Classical.not_not.mp h'), and_iff_right (Classical.not_not.mp h'')]
        cases b with
        | zp => exact absurd rfl hb
        | tr0 => rfl
        | tr1 => rfl

/-! ### The settings that come with a load leave its tables -/

@[simp] theorem besideMetering_mark (a : AnswerId) (c : Chip) : besideMetering (mark a c) = besideMetering c := rfl
@[simp] theorem besideMetering_setWriteDue (c : Chip) : besideMetering (setWriteDue c) = besideMetering c := rfl

@[simp] theorem besideMetering_resplit (c : Chip) : besideMetering (resplit c).2 = besideMetering c := by
  unfold resplit
  split <;> simp

@[simp] theorem besideMetering_applyBound (c : Chip) : besideMetering (applyBound c) = besideMetering c := by
  unfold applyBound
  dsimp only
  (repeat' split) <;> simp

@[simp] theorem besideMetering_limitChange (c : Chip) : besideMetering (limitChange c) = besideMetering c := by
  unfold limitChange
  split
  · rfl
  · split
    · split
      · exact besideMetering_resplit c
      · rfl
    · exact besideMetering_applyBound c
    · exact besideMetering_applyBound c

@[simp] theorem besideMetering_exposureStartState (c : Chip) : besideMetering (exposureStartState c) = besideMetering c := by
  unfold exposureStartState
  split <;> simp

@[simp] theorem besideMetering_exposureTimingChanged (c : Chip) :
    besideMetering (exposureTimingChanged c) = besideMetering c := by
  unfold exposureTimingChanged
  dsimp only
  (repeat' split) <;> simp

@[simp] theorem besideMetering_exposureSettingsDone (old new : Settings) (c : Chip) :
    besideMetering (exposureSettingsDone old new c) = besideMetering c := by
  unfold exposureSettingsDone
  extract_lets e c1 c2
  have h1 : besideMetering c1 = besideMetering c := by
    simp only [c1]
    split <;> rfl
  have h2 : besideMetering c2 = besideMetering c1 := by
    simp only [c2]
    (repeat' split) <;> simp
  split
  · rw [besideMetering_limitChange, h2, h1]
  · rw [h2, h1]

@[simp] theorem besideMetering_sensorSettingsChanged (old new : SensorSettings) (c : Chip) :
    besideMetering (sensorSettingsChanged old new c) = besideMetering c := by
  unfold sensorSettingsChanged
  (repeat' split) <;> rfl

theorem tables_of_besideMetering {c d : Chip} (h : besideMetering c = besideMetering d) : c.tables = d.tables :=
  (congrArg Chip.tables h :)

@[simp] theorem tables_setStab (f : Stab → Stab) (c : Chip) : (setStab f c).tables = c.tables :=
  tables_of_blocks (blocks_setStab f c)

@[simp] theorem tables_setFollowing (f : Following → Following) (c : Chip) : (setFollowing f c).tables = c.tables :=
  tables_of_blocks (blocks_setFollowing f c)

@[simp] theorem tables_setMode (m : StabMode) (c : Chip) : (setMode m c).tables = c.tables :=
  tables_of_blocks (blocks_setMode m c)

@[simp] theorem tables_handCredit (c : Chip) : (handCredit c).tables = c.tables := tables_of_blocks (blocks_handCredit c)

theorem tables_followWanted (c : Chip) : (followWanted c).tables = c.tables := by
  unfold followWanted
  dsimp only
  split
  · split <;> simp
  · simp
  · simp
  · split <;> simp
  · rfl
  · rfl

theorem tables_stabSettingsDone (old new : StabSettings) (c : Chip) : (stabSettingsDone old new c).tables = c.tables := by
  unfold stabSettingsDone
  extract_lets m c1 c2
  have h1 : c1.tables = c.tables := by
    simp only [c1]
    split <;> simp
  have h2 : c2.tables = c1.tables := by
    simp only [c2]
    split
    · rfl
    · exact tables_followWanted c1
  split
  · rw [tables_handCredit, h2, h1]
  · rw [h2, h1]

theorem tables_thresholdChange (old new : Settings) (k : CounterId) (c : Chip) :
    (thresholdChange old new k c).tables = c.tables := by
  unfold thresholdChange
  dsimp only
  (repeat' split) <;> rfl

theorem tables_thresholdsSettingsDone (old new : Settings) (c : Chip) :
    (thresholdsSettingsDone old new c).tables = c.tables := by
  simp only [thresholdsSettingsDone, tables_thresholdChange]

theorem tables_takeFallback (c : Chip) : (takeFallback c).tables = c.tables := by
  unfold takeFallback
  split
  · exact tables_of_blocks (blocks_setControl _ c)
  · rfl

theorem tables_flickerSettingsDone (old new : FlickerSettings) (c : Chip) :
    (flickerSettingsDone old new c).tables = c.tables := by
  unfold flickerSettingsDone
  split <;> rfl

theorem tables_markFreeSlots (before c : Chip) : (markFreeSlots before c).tables = c.tables := by
  unfold markFreeSlots
  split <;> rfl

theorem tables_searchSettingsChanged {c : Chip} (h : c.search.phase = .none) : (searchSettingsChanged c).tables = c.tables := by
  unfold searchSettingsChanged watchKeepingStep
  rw [endEarly_noSearch _ _ c h]
  dsimp only
  split <;> simp

/-- With no search to end, settings that take effect leave the tables. -/
theorem tables_settingsPlaced (new : Settings) {c : Chip} (h : c.search.phase = .none) : (settingsPlaced new c).tables = c.tables := by
  unfold settingsPlaced
  extract_lets old taken
  have htaken : taken.tables = c.tables := by
    simp only [taken]
    rw [tables_of_besideMetering (besideMetering_sensorSettingsChanged _ _ _),
      tables_of_besideMetering (besideMetering_exposureSettingsDone _ _ _), tables_stabSettingsDone, tables_takeFallback,
      tables_flickerSettingsDone, tables_thresholdsSettingsDone, tables_markFreeSlots]
  have hview : requestView taken = (c.records, some new, c.search) := by
    simp only [taken, requestView_sensorSettingsChanged, requestView_exposureSettingsDone, requestView_stabSettingsDone,
      requestView_takeFallback, requestView_flickerSettingsDone, requestView_thresholdsSettingsDone,
      requestView_markFreeSlots]
    rfl
  split
  · have hsearch : taken.search = c.search := congrArg (·.2.2) hview
    rw [tables_searchSettingsChanged (by rw [hsearch]; exact h), htaken]
  · exact htaken

theorem tables_settingsDone (new : Settings) {c : Chip} (h : c.search.phase = .none) : (settingsDone new c).tables = c.tables := by
  have hfinish : (finish .settings .done .none (settingsPlaced new c)).tables = c.tables :=
    (tables_of_blocks (blocks_finish _ _ _ _)).trans (tables_settingsPlaced new h)
  rw [settingsDone_eq]
  split <;> exact hfinish

/-! ### Loads (R42 to R44) -/

theorem drivesIdle_iff (c : Chip) : drivesIdle c = true ↔ Said.DrivesIdle c := by
  unfold drivesIdle zoomIdleForPlacing Said.DrivesIdle
  rw [Bool.and_eq_true, Bool.or_eq_true, zoomIdleForSettings_iff, focusIdle_iff, beq_iff_eq]
  simp only [or_assoc]

/-- A load that fails keeps the tables in force, and SETTINGS is refused. -/
theorem failLoad_facts (r : LoadResult) (b : TableBlock) (i : Nat) (c : Chip) : let d := failLoad r b i c
    d.tables.load = none ∧ d.tables.lastResult = r ∧ d.tables.lastIndex = i ∧ d.tables.state = c.tables.state
      ∧ d.settings = c.settings
      ∧ (c.records.length = 9 → (record c .settings).earlierActive = false → (record c .settings).outcome = .active →
          (record d .settings).outcome = .refused ∧ (record d .settings).detail = .tableInvalid) := by
  intro d
  have hd : ∃ t : Tables, t.load = none ∧ t.lastResult = r ∧ t.lastIndex = i ∧ t.state = c.tables.state
      ∧ d = raise .handHeld (refuse .settings .tableInvalid (mark .lens { c with tables := t })) := by
    unfold d failLoad
    extract_lets u t t2
    refine ⟨t2, ?_, ?_, ?_, ?_, rfl⟩ <;> (unfold t2; split <;> rfl)
  obtain ⟨t, hload, hresult, hindex, hstate, hd⟩ := hd
  have htables : d.tables = t := by
    rw [hd]
    exact tables_of_blocks (blocks_refuse .settings .tableInvalid (mark .lens { c with tables := t }))
  rw [htables]
  refine ⟨hload, hresult, hindex, hstate, ?_, fun hlen hearlier hactive => ?_⟩
  · rw [hd]
    exact settings_of_blocks (blocks_refuse .settings .tableInvalid (mark .lens { c with tables := t }))
  · have hentry := record_refuse_active .settings .tableInvalid (mark .lens { c with tables := t }) hearlier hactive hlen
    rw [hd, record_raise, hentry]
    exact ⟨rfl, rfl⟩

theorem loadBlock_fails {ws : List Word} {l : LoadWork} {c : Chip}
    (h : (checkBlock l.block l.settings.pool.tableEdition (wordAt l.zp 2) none ws).1 ≠ .passed) :
    loadBlock ws l c = failLoad (checkBlock l.block l.settings.pool.tableEdition (wordAt l.zp 2) none ws).1 l.block
      (checkBlock l.block l.settings.pool.tableEdition (wordAt l.zp 2) none ws).2 c := if_pos h

/-- The load with its passed block staged. -/
def staged (ws : List Word) (l : LoadWork) : LoadWork :=
  match l.block with
  | .zp => { l with zp := ws, block := .tr0, retried := false }
  | .tr0 => { l with tr0 := ws, block := .tr1, retried := false }
  | .tr1 => { l with tr1 := ws, passed := true, retried := false }

theorem loadBlock_passes {ws : List Word} {l : LoadWork} {c : Chip}
    (h : (checkBlock l.block l.settings.pool.tableEdition (wordAt l.zp 2) none ws).1 = .passed) :
    loadBlock ws l c = { c with tables := { c.tables with load := some (staged ws l) } } := if_neg (not_not_intro h)

theorem loadRead_fails {ws : List Word} {l : LoadWork} {c : Chip} (hload : c.tables.load = some l) (hpassed : l.passed = false)
    (hwait : l.waitRefetch = false)
    (h : (checkBlock l.block l.settings.pool.tableEdition (wordAt l.zp 2) none ws).1 ≠ .passed) :
    loadRead ws c = failLoad (checkBlock l.block l.settings.pool.tableEdition (wordAt l.zp 2) none ws).1 l.block
      (checkBlock l.block l.settings.pool.tableEdition (wordAt l.zp 2) none ws).2 c := by
  obtain ⟨hnone, -⟩ := failLoad_facts (checkBlock l.block l.settings.pool.tableEdition (wordAt l.zp 2) none ws).1 l.block
      (checkBlock l.block l.settings.pool.tableEdition (wordAt l.zp 2) none ws).2 c
  unfold loadRead
  simp only [hload, hpassed, hwait, Bool.or_self, Bool.false_eq_true, if_false, loadBlock_fails h, hnone]

theorem loadRead_stages {ws : List Word} {l : LoadWork} {c : Chip} (hload : c.tables.load = some l) (hpassed : l.passed = false)
    (hwait : l.waitRefetch = false)
    (h : (checkBlock l.block l.settings.pool.tableEdition (wordAt l.zp 2) none ws).1 = .passed) :
    loadRead ws c = if (staged ws l).passed && drivesIdle c then
        placeTables (staged ws l) { c with tables := { c.tables with load := some (staged ws l) } }
      else { c with tables := { c.tables with load := some (staged ws l) } } := by
  unfold loadRead
  simp only [hload, hpassed, hwait, Bool.or_self, Bool.false_eq_true, if_false, loadBlock_passes h]
  rfl

/-- A passed load puts its blocks in force, and its settings. -/
theorem placeTables_placed (l : LoadWork) {c : Chip} (h : c.search.phase = .none) : Said.Placed l l.tr1 (placeTables l c) := by
  have htables : (placeTables l c).tables = (placeBlocks l c).tables :=
    tables_settingsDone l.settings (c := raise .tablesReplaced (placeBlocks l c)) h
  have hsettings : (placeTables l c).settings = some l.settings :=
    settingsDone_settings l.settings (raise .tablesReplaced (placeBlocks l c)) h
  unfold Said.Placed
  rw [htables, hsettings]
  exact ⟨rfl, rfl, rfl, rfl, rfl, rfl, rfl, rfl⟩

theorem loadReadError_eq {l : LoadWork} {c : Chip} (hload : c.tables.load = some l) (hpassed : l.passed = false)
    (hwait : l.waitRefetch = false) : loadReadError c = loadBusError l c := by
  unfold loadReadError
  simp only [hload, hpassed, hwait, Bool.or_self, Bool.false_eq_true, if_false]

/-- Settles O46. -/
theorem tableLoad : Obligations.TableLoad := by
  unfold Obligations.TableLoad
  intro l block s hload ws
  refine ⟨fun hpassed hwait => ⟨fun r hr hfails => ?_, fun hpasses => ?_, fun hfirst => ?_, fun hsecond => ?_⟩,
    fun hpassed hidle hsearch => ?_⟩
  · subst hr
    exact ⟨_, exec_of_commit rfl (loadRead_fails hload hpassed hwait hfails), failLoad_facts _ _ _ _⟩
  · have hread := loadRead_stages hload hpassed hwait hpasses
    have goesOn (hnot : (staged ws l).passed = false ∨ ¬ Said.DrivesIdle s.chip) :
        loadRead ws s.chip = { s.chip with tables := { s.chip.tables with load := some (staged ws l) } } := by
      rw [hread, if_neg]
      rw [Bool.and_eq_true, drivesIdle_iff]
      rintro ⟨hpass, hidle⟩
      rcases hnot with hnot | hnot
      · simp [hpass] at hnot
      · exact hnot hidle
    have hstaged : ∀ b, l.block = b → staged ws l = staged ws { l with block := b } := fun b hb => by rw [← hb]
    refine ⟨fun hb => exec_of_commit rfl ?_, fun hb => exec_of_commit rfl ?_, fun hb hbusy => exec_of_commit rfl ?_,
      fun hb hidle hsearch => ?_⟩
    · rw [hstaged _ hb] at goesOn
      exact goesOn (.inl hpassed)
    · rw [hstaged _ hb] at goesOn
      exact goesOn (.inl hpassed)
    · rw [hstaged _ hb] at goesOn
      refine (goesOn (.inr hbusy)).trans ?_
      simp only [staged, hb]
    · rw [if_pos (by rw [hstaged _ hb, Bool.and_eq_true, drivesIdle_iff]; exact ⟨rfl, hidle⟩)] at hread
      refine ⟨_, exec_of_commit rfl hread, ?_⟩
      have hplaced := placeTables_placed (staged ws l) (c := { s.chip with
        tables := { s.chip.tables with load := some (staged ws l) } }) hsearch
      rw [hstaged _ hb] at hplaced ⊢
      exact hplaced
  · refine exec_of_commit rfl ((loadReadError_eq hload hpassed hwait).trans ?_)
    exact if_neg (by simp [hfirst])
  · refine ⟨_, exec_of_commit rfl ((loadReadError_eq hload hpassed hwait).trans (if_pos hsecond)), ?_⟩
    obtain ⟨hnone, hresult, -⟩ := failLoad_facts .busError l.block 0 s.chip
    exact ⟨hnone, hresult⟩
  · refine ⟨_, exec_of_commit (d := placeTables l s.chip) rfl ?_, placeTables_placed l hsearch⟩
    show tablesPlace s.chip = _
    simp only [tablesPlace, hload]
    exact if_pos (by rw [hpassed, Bool.true_and, drivesIdle_iff]; exact hidle)

/-! ### Refetches (R47, R49) -/

theorem blockOf_setBlock (b : TableBlock) (k : Block) (t : Tables) : blockOf (setBlock b k t) b = k := by
  cases b <;> rfl

/-- What a refetch sets beside the blocks leaves the blocks. -/
theorem blockOf_congr {t u : Tables} (hzp : t.zp = u.zp) (htr0 : t.tr0 = u.tr0) (htr1 : t.tr1 = u.tr1) (b : TableBlock) :
    blockOf t b = blockOf u b := by
  cases b
  · exact hzp
  · exact htr0
  · exact htr1

theorem nextRefetch_eq {t : Tables} {b : TableBlock} (hmem : b ∈ t.queued) (hzp : b ≠ .zp → .zp ∉ t.queued)
    (htr0 : b = .tr1 → .tr0 ∉ t.queued) : nextRefetch t = some b := by
  unfold nextRefetch
  cases b with
  | zp => simp [hmem]
  | tr0 => simp [hmem, hzp]
  | tr1 => simp [hmem, hzp, htr0]

theorem startRefetch_begins {c : Chip} {b : TableBlock} (hpart : c.port.partState ≠ .halted) (hload : c.tables.load = none)
    (hstate : c.tables.state = .valid) (hrefetch : c.tables.refetch = none) (hnext : nextRefetch c.tables = some b) :
    startRefetch c = beginRefetch b c := by
  unfold startRefetch
  rw [if_pos (by simp [canRefetch, hpart, hload, hstate, hrefetch]), hnext]

theorem beginRefetch_facts (b : TableBlock) (c : Chip) : (beginRefetch b c).tables.refetch = some ⟨b, false⟩
    ∧ (blockOf (beginRefetch b c).tables b).state = .refetching ∧ b ∉ (beginRefetch b c).tables.queued := by
  refine ⟨rfl, ?_, by simp [beginRefetch]⟩
  have hblock : blockOf (beginRefetch b c).tables b = { blockOf c.tables b with state := .refetching } :=
    (blockOf_congr rfl rfl rfl b).trans (blockOf_setBlock b _ c.tables)
  rw [hblock]

/-- A refetch that fails is a lens table fault. -/
theorem lensTableFault_facts (r : LoadResult) (b : TableBlock) (i : Nat) (c : Chip) : let d := lensTableFault r b i c
    (blockOf d.tables b).state = .invalid ∧ d.tables.state = .fault ∧ d.tables.refetch = none ∧ d.tables.lastResult = r
      ∧ .lensTableFault ∈ d.events ∧ d.notices.counts = c.notices.counts.modify 8 (· + 1) := by
  intro d
  have hblock : blockOf d.tables b = { blockOf c.tables b with state := .invalid } :=
    (blockOf_congr rfl rfl rfl b).trans (blockOf_setBlock b _ c.tables)
  rw [hblock]
  exact ⟨rfl, rfl, rfl, rfl, by simp [d, lensTableFault, raise], rfl⟩

/-- A refetch that passes restores its block. -/
theorem finishRefetch_restores {ws : List Word} {w : RefetchWork} {c : Chip}
    (h : (checkBlock w.block c.tables.summary.edition c.tables.summary.fMax (some c.tables.summary) ws).1 = .passed) :
    let d := finishRefetch ws w c
    blockOf d.tables w.block = ⟨.valid, ws⟩ ∧ d.tables.refetch = none ∧ .blockRestored w.block ∈ d.events
      ∧ d.tables.state = c.tables.state := by
  intro d
  let t := releaseLoad (setBlock w.block ⟨.valid, ws⟩ c.tables)
  let restored := raise (.blockRestored w.block) (mark .lens { c with tables := t })
  have hd : d = if allBlocksValid t then raise .zoomResume restored else restored := by
    show finishRefetch ws w c = _
    unfold finishRefetch
    exact if_neg (not_not_intro h)
  have htables : d.tables = t := by
    rw [hd]
    split <;> rfl
  have hevents : restored.events <+: d.events := by
    rw [hd]
    split
    · exact CaptureRequests.prefix_raise .zoomResume restored
    · exact List.prefix_rfl
  rw [htables]
  refine ⟨(blockOf_congr rfl rfl rfl _).trans (blockOf_setBlock _ _ _), rfl, hevents.mem (by simp [restored, raise]), ?_⟩
  obtain ⟨hstate, -⟩ := setBlock_rest w.block ⟨.valid, ws⟩ c.tables
  exact hstate

/-- Settles O47. -/
theorem tableRefetch : Obligations.TableRefetch := by
  unfold Obligations.TableRefetch
  refine fun s => ⟨fun b hpart hload hstate hrefetch hmem hzp htr0 => ?_, fun w block hrefetch => ?_⟩
  · exact ⟨_, exec_of_commit rfl (startRefetch_begins hpart hload hstate hrefetch (nextRefetch_eq hmem hzp htr0)),
      beginRefetch_facts b s.chip⟩
  · intro ws
    have hread : refetchRead ws s.chip = finishRefetch ws w s.chip := by simp only [refetchRead, hrefetch]
    have herror : refetchReadError s.chip = refetchBusFault w s.chip := by simp only [refetchReadError, hrefetch]
    refine ⟨fun hpasses => ⟨_, exec_of_commit rfl hread, finishRefetch_restores hpasses⟩, fun hfails => ?_,
      fun hfirst => exec_of_commit rfl (herror.trans (if_neg (by simp [hfirst]))), fun hsecond => ?_⟩
    · obtain ⟨hblock, hstate, hnone, -, hraised, hcounts⟩ := lensTableFault_facts (checkBlock w.block
        s.chip.tables.summary.edition s.chip.tables.summary.fMax (some s.chip.tables.summary) ws).1 w.block
        (checkBlock w.block s.chip.tables.summary.edition s.chip.tables.summary.fMax (some s.chip.tables.summary) ws).2 s.chip
      exact ⟨_, exec_of_commit rfl (hread.trans (if_pos hfails)), hblock, hstate, hnone, hraised, hcounts⟩
    · obtain ⟨-, hstate, -, hresult, -, hcounts⟩ := lensTableFault_facts .busError w.block 0 s.chip
      exact ⟨_, exec_of_commit rfl (herror.trans (if_pos hsecond)), hstate, hresult, hcounts⟩

end Sys2Proof.Proofs.TableLoads
end

section
/-! PROOFS. The Zoom Drive (Chapter 4): its counts, its reference edge, its timers, and its ends in LOST and FAULT. -/

namespace Sys2Proof.Proofs.ZoomEvents

-- One elaboration thread at a time: each waiting thread reserves a stack, and the text is long.
set_option Elab.async false

open Sys2Proof Sys2Proof.Machine Sys2Proof.Proofs.Part Sys2Proof.Proofs.SensorLimits Sys2Proof.Proofs.Requests
open Sys2Proof.Proofs.StoreRequests Sys2Proof.Proofs.ExposureRequests Sys2Proof.Proofs.ZoomRequests

/-! ### FAULT and LOST (R53, R65) -/

theorem zoom_finish (r : RecordId) (o : ReqOutcome) (d : Detail) (c : Chip) : (finish r o d c).zoom = c.zoom :=
  zoom_of_blocks (blocks_finish r o d c)

theorem zoom_finishService (o : ReqOutcome) (d : Detail) (c : Chip) : (finishService o d c).zoom = c.zoom := by
  unfold finishService
  split
  · rfl
  · exact zoom_finish _ _ _ { c with service := none }

theorem record_finishService_other {r : RecordId} (o : ReqOutcome) (d : Detail) (c : Chip) (h : r ≠ .service) :
    record (finishService o d c) r = record c r := by
  unfold finishService
  split
  · rfl
  · exact record_finish_other o d _ h

/-- The drive in FAULT with detail `d`. -/
def faulted (d : Detail) (z : Zoom) : Zoom := { z with
  state := .fault, phase := .none, motor := .brake, after := .none, fault := d, holdMark := false, drift := false,
  homingStep := .none, afterHoming := false, faultStop := false }

/-- The part as the drive enters FAULT, with its notice and before the requests end. -/
def faultShown (d : Detail) (c : Chip) : Chip :=
  notice .fault (markZoomPart (enterZoom .fault (fun z => { z with
    phase := .none, motor := .brake, after := .none, fault := d, holdMark := false, drift := false,
    homingStep := .none, afterHoming := false, faultStop := false }) c))

theorem zoomFault_eq (d : Detail) (c : Chip) : zoomFault d c = raise .handHeld
    (if serviceInZoom (finish .zoom .failed d (faultShown d c)) || serviceInFocus (finish .zoom .failed d (faultShown d c))
      then finishService .failed d (finish .zoom .failed d (faultShown d c)) else finish .zoom .failed d (faultShown d c)) := rfl

theorem faultShown_zoom (d : Detail) (c : Chip) : (faultShown d c).zoom = faulted d c.zoom :=
  (enterZoom_zoom .fault _ c).trans rfl

theorem faultShown_records (d : Detail) (c : Chip) : (faultShown d c).records = c.records := enterZoom_records _ _ c

theorem zoomFault_zoom (d : Detail) (c : Chip) : (zoomFault d c).zoom = faulted d c.zoom := by
  have hfinish : (finish .zoom .failed d (faultShown d c)).zoom = faulted d c.zoom :=
    (zoom_finish _ _ _ _).trans (faultShown_zoom d c)
  rw [zoomFault_eq]
  show (ite _ _ _ : Chip).zoom = _
  split
  · rw [zoom_finishService, hfinish]
  · exact hfinish

/-- A zoom request that is active fails with the drive. -/
theorem zoomFault_record {d : Detail} {c : Chip} (hlen : c.records.length = 9)
    (hearlier : (record c .zoom).earlierActive = false) (hactive : (record c .zoom).outcome = .active) :
    record (zoomFault d c) .zoom = { record c .zoom with outcome := .failed, detail := d } := by
  have hshown : record (faultShown d c) .zoom = record c .zoom := record_of_records (faultShown_records d c) _
  have hfinish : record (finish .zoom .failed d (faultShown d c)) .zoom
      = { record c .zoom with outcome := .failed, detail := d } := by
    rw [record_finish_active .zoom .failed d _ (by rw [hshown]; exact hearlier) (by rw [hshown]; exact hactive)
      (by rw [faultShown_records]; exact hlen), hshown]
  rw [zoomFault_eq, record_raise]
  split
  · rw [record_finishService_other _ _ _ (by decide), hfinish]
  · exact hfinish

/-- The drive in LOST. -/
def lostZoom (z : Zoom) : Zoom := { z with
  state := .lost, phase := .none, motor := .brake, after := .none, known := false, holdMark := false, drift := false,
  afterHoming := false }

/-- The part as the drive enters LOST, with its notice and before the requests end. -/
def lostShown (c : Chip) : Chip :=
  notice .fault (enterZoom .lost (fun z => { z with
    phase := .none, motor := .brake, after := .none, known := false, holdMark := false, drift := false,
    afterHoming := false }) c)

/-- The requests that end with the known position. -/
def lostEnded (c : Chip) : Chip :=
  let d := finish .zoom .failed .zoomLost (lostShown c)
  if serviceInZoom d then finishService .failed .zoomLost d else d

theorem enterLost_eq (c : Chip) : enterLost c = raise .handHeld
    (if (lostEnded c).port.partState = .stopping then beginHoming .park (lostEnded c) else lostEnded c) := rfl

theorem lostShown_zoom (c : Chip) : (lostShown c).zoom = lostZoom c.zoom := (enterZoom_zoom .lost _ c).trans rfl
theorem lostShown_records (c : Chip) : (lostShown c).records = c.records := enterZoom_records _ _ c

theorem lostShown_notices (c : Chip) : (lostShown c).notices.counts = c.notices.counts.modify 8 (· + 1) := by
  have hnotices : ∀ k f, (enterZoom k f c).notices = c.notices := fun k f => by
    unfold enterZoom
    dsimp only
    split <;> rfl
  exact congrArg (fun n => n.counts.modify 8 (· + 1)) (hnotices _ _)

theorem lostEnded_zoom (c : Chip) : (lostEnded c).zoom = lostZoom c.zoom := by
  have hfinish : (finish .zoom .failed .zoomLost (lostShown c)).zoom = lostZoom c.zoom :=
    (zoom_finish _ _ _ _).trans (lostShown_zoom c)
  unfold lostEnded
  dsimp only
  split
  · rw [zoom_finishService, hfinish]
  · exact hfinish

theorem port_finishService (o : ReqOutcome) (d : Detail) (c : Chip) : (finishService o d c).port = c.port := by
  unfold finishService
  split
  · rfl
  · exact port_of_blocks (blocks_finish .service o d { c with service := none })

theorem lostEnded_port (c : Chip) : (lostEnded c).port = c.port := by
  have hfinish : (finish .zoom .failed .zoomLost (lostShown c)).port = c.port :=
    (port_of_blocks (blocks_finish _ _ _ _)).trans (port_of_blocks (blocks_enterZoom _ _ _))
  unfold lostEnded
  dsimp only
  split
  · rw [port_finishService, hfinish]
  · exact hfinish

theorem enterLost_rests {c : Chip} (h : c.port.partState ≠ .stopping) : enterLost c = raise .handHeld (lostEnded c) := by
  rw [enterLost_eq, if_neg (by rw [lostEnded_port]; exact h)]

/-- With no SERVICE in its zoom part, the end of the known position ends an active ZOOM request alone. -/
theorem lostEnded_noService {c : Chip} (h : c.service = none) :
    lostEnded c = finish .zoom .failed .zoomLost (lostShown c) := by
  have hservice : (finish .zoom .failed .zoomLost (lostShown c)).service = none :=
    (service_of_blocks (blocks_finish _ _ _ _)).trans ((enterZoom_service _ _ c).trans h)
  exact if_neg (by simp [serviceInZoom, hservice])

theorem lostEnded_requests {c : Chip} (hservice : c.service = none) (hearlier : (record c .zoom).earlierActive = false) :
    ((record c .zoom).outcome ≠ .active → (lostEnded c).notices.counts = c.notices.counts.modify 8 (· + 1))
    ∧ ((record c .zoom).outcome = .active → c.records.length = 9 →
      (lostEnded c).notices.counts = (c.notices.counts.modify 8 (· + 1)).modify 1 (· + 1)
        ∧ (record (lostEnded c) .zoom).outcome = .failed ∧ (record (lostEnded c) .zoom).detail = .zoomLost) := by
  have hshown : record (lostShown c) .zoom = record c .zoom := record_of_records (lostShown_records c) _
  rw [lostEnded_noService hservice]
  refine ⟨fun hidle => ?_, fun hactive hlen => ⟨?_, ?_⟩⟩
  · rw [finish_none _ _ _ _ (by rw [hshown]; exact hearlier) (by rw [hshown]; exact hidle), lostShown_notices]
  · rw [finish_superseding _ _ _ _ (by rw [hshown]; exact hearlier) (by rw [hshown]; exact hactive) rfl]
    exact congrArg (List.modify · 1 (· + 1)) (lostShown_notices c)
  · rw [record_finish_active .zoom .failed .zoomLost _ (by rw [hshown]; exact hearlier) (by rw [hshown]; exact hactive)
      (by rw [lostShown_records]; exact hlen)]
    exact ⟨rfl, rfl⟩

/-- At a stop homing to park follows LOST; the counter stays. -/
theorem enterLost_zoom (c : Chip) : (enterLost c).zoom.known = false ∧ (enterLost c).zoom.counter = c.zoom.counter := by
  rw [enterLost_eq]
  show (ite _ _ _ : Chip).zoom.known = false ∧ (ite _ _ _ : Chip).zoom.counter = _
  split
  · have hhoming : (beginHoming .park (lostEnded c)).zoom = _ := enterZoom_zoom _ _ _
    rw [hhoming, lostEnded_zoom]
    dsimp only
    split <;> exact ⟨rfl, rfl⟩
  · rw [lostEnded_zoom]
    exact ⟨rfl, rfl⟩

/-! ### Counts (R52, R54) -/

theorem zoomCounts_iff (z : Zoom) : zoomCounts z = true ↔ z.state ≠ .lost ∧ (z.state = .fault → z.known = true) := by
  unfold zoomCounts
  split <;> simp [*]

theorem outOfRange_iff (c : Chip) : outOfRange c = true ↔ ¬ (-1024 ≤ c.zoom.counter ∧ c.zoom.counter ≤ zMax c + 256) := by
  unfold outOfRange
  rw [Bool.or_eq_true, decide_eq_true_eq, decide_eq_true_eq]
  omega

/-- What a count in range does after its zone check keeps all but phase, motor, retries and what follows. -/
theorem advanceDrive_keeps (z : Zoom) : let d := advanceDrive (clearRetries z)
    d.counter = z.counter ∧ d.known = z.known ∧ d.state = z.state ∧ d.zone = z.zone := by
  have hclear : (clearRetries z).counter = z.counter ∧ (clearRetries z).known = z.known
      ∧ (clearRetries z).state = z.state ∧ (clearRetries z).zone = z.zone := by
    unfold clearRetries
    (repeat' split) <;> exact ⟨rfl, rfl, rfl, rfl⟩
  obtain ⟨hcounter, hknown, hstate, hzone⟩ := hclear
  rw [← hcounter, ← hknown, ← hstate, ← hzone]
  unfold advanceDrive
  (repeat' split) <;> exact ⟨rfl, rfl, rfl, rfl⟩

/-- The zone check follows the counter, and raises a crossing where the zone changes. -/
theorem zoneCheck_facts (c : Chip) : (zoneCheck c).zoom.counter = c.zoom.counter ∧ (zoneCheck c).zoom.known = c.zoom.known
    ∧ (zoneCheck c).zoom.state = c.zoom.state ∧ (zoneCheck c).answers = c.answers
    ∧ (c.zoom.known = true → c.zoom.points ≠ [] →
      (zoneCheck c).zoom.zone = zoneOf c.zoom.points c.zoom.counter
        ∧ (zoneOf c.zoom.points c.zoom.counter ≠ c.zoom.zone →
          .zoneCrossing (zoneOf c.zoom.points c.zoom.counter)
            (if c.zoom.zone < zoneOf c.zoom.points c.zoom.counter then .tele else .wide) ∈ (zoneCheck c).events)) := by
  unfold zoneCheck
  split
  next h =>
    refine ⟨rfl, rfl, rfl, rfl, fun hknown hpoints => ?_⟩
    rcases h with h | h
    · simp [hknown] at h
    · exact absurd h hpoints
  next =>
    extract_lets n d
    split
    next hsame => exact ⟨rfl, rfl, rfl, rfl, fun _ _ => ⟨hsame.symm, fun hdiffers => absurd hsame hdiffers⟩⟩
    next => exact ⟨rfl, rfl, rfl, rfl, fun _ _ => ⟨rfl, fun _ => by simp [raise, d, n]⟩⟩

theorem openDrift_facts (c : Chip) : (openDrift c).zoom.counter = c.zoom.counter ∧ (openDrift c).zoom.known = c.zoom.known
    ∧ (openDrift c).zoom.state = c.zoom.state ∧ (openDrift c).answers = c.answers
    ∧ (openDrift c).zoom.points = c.zoom.points ∧ (openDrift c).zoom.zone = c.zoom.zone := by
  unfold openDrift
  split <;> exact ⟨rfl, rfl, rfl, rfl, rfl, rfl⟩

/-- The part with its zoom counter moved by `step`. -/
def counted (step : Int) (c : Chip) : Chip := setZoom (fun z => { z with counter := z.counter + step }) c

theorem zoomCount_eq {step : Int} {c : Chip} (h : zoomCounts c.zoom = true) : zoomCount step c
    = if (counted step c).zoom.known && outOfRange (counted step c) then losePosition (counted step c)
      else setZoom (fun z => advanceDrive (clearRetries z)) (zoneCheck (openDrift (counted step c))) := if_pos h

/-- A legal count within the range. -/
theorem zoomCount_within {step : Int} {c : Chip} (hcounts : zoomCounts c.zoom = true)
    (hrange : c.zoom.known = true → outOfRange (counted step c) = false) : let d := zoomCount step c
    d.zoom.counter = c.zoom.counter + step ∧ d.zoom.known = c.zoom.known ∧ d.zoom.state = c.zoom.state
      ∧ d.answers = c.answers ∧ (c.zoom.known = true → c.zoom.points ≠ [] →
        d.zoom.zone = zoneOf c.zoom.points (c.zoom.counter + step)
          ∧ (zoneOf c.zoom.points (c.zoom.counter + step) ≠ c.zoom.zone →
            .zoneCrossing (zoneOf c.zoom.points (c.zoom.counter + step))
              (if c.zoom.zone < zoneOf c.zoom.points (c.zoom.counter + step) then .tele else .wide) ∈ d.events)) := by
  have hstays : ((counted step c).zoom.known && outOfRange (counted step c)) = false := by
    cases hknown : c.zoom.known with
    | false => exact congrArg (· && _) hknown
    | true => rw [hrange hknown, Bool.and_false]
  dsimp only
  rw [zoomCount_eq hcounts, hstays]
  obtain ⟨hcounter, hknown, hstate, hanswers, hpoints, hzone⟩ := openDrift_facts (counted step c)
  obtain ⟨hcounter', hknown', hstate', hanswers', hcrossing⟩ := zoneCheck_facts (openDrift (counted step c))
  obtain ⟨hcounter'', hknown'', hstate'', hzone''⟩ := advanceDrive_keeps (zoneCheck (openDrift (counted step c))).zoom
  refine ⟨hcounter''.trans (hcounter'.trans hcounter), hknown''.trans (hknown'.trans hknown),
    hstate''.trans (hstate'.trans hstate), hanswers'.trans hanswers, fun h hp => ?_⟩
  rw [hpoints, hcounter, hzone, hknown] at hcrossing
  obtain ⟨hset, hraised⟩ := hcrossing h hp
  exact ⟨hzone''.trans hset, hraised⟩

/-! ### The end of the known position (R52, R65) -/

theorem losePosition_rests {c : Chip} (hstate : c.zoom.state = .idle ∨ c.zoom.state = .moving ∨ c.zoom.state = .held
    ∨ c.zoom.state = .parked) (hafter : c.zoom.after ≠ .tableFault) : losePosition c = enterLost c := by
  refine (if_neg hafter).trans ?_
  rcases hstate with h | h | h | h <;> simp only [endPosition, h]

theorem losePosition_fault {c : Chip} (hstate : c.zoom.state = .fault) (hafter : c.zoom.after ≠ .tableFault) :
    losePosition c = markZoomPart (setZoom (fun z => { z with known := false }) c) := by
  refine (if_neg hafter).trans ?_
  simp only [endPosition, hstate]

theorem losePosition_tableFault {c : Chip} (hstate : c.zoom.state = .moving) (hafter : c.zoom.after = .tableFault) :
    losePosition c = zoomFault .lensTableFault (enterLost c) := by
  refine (if_pos hafter).trans ?_
  simp only [endPosition, hstate]

/-- A transition that ends the known position, as `Obligations.ZoomCounting` has it. -/
theorem encoderStep_ends {i j : EncoderStep} {step n : Int} {c : Chip} (hi : (i = .tele ∧ step = 1) ∨ (i = .wide ∧ step = -1))
    (hknown : c.zoom.known = true) (hstate : c.zoom.state ≠ .lost)
    (hj : (j = .illegal ∧ n = c.zoom.counter) ∨ (j = i
      ∧ ¬ (-1024 ≤ c.zoom.counter + step ∧ c.zoom.counter + step ≤ zMax c + 256) ∧ n = c.zoom.counter + step)) :
    encoderStep j c = losePosition (setZoom (fun z => { z with counter := n }) c) := by
  rcases hj with ⟨rfl, rfl⟩ | ⟨rfl, hrange, rfl⟩
  · exact if_pos hknown
  · have hcount : encoderStep j c = zoomCount step c := by
      rcases hi with ⟨rfl, rfl⟩ | ⟨rfl, rfl⟩ <;> rfl
    rw [hcount, zoomCount_eq ((zoomCounts_iff _).mpr ⟨hstate, fun _ => hknown⟩)]
    refine if_pos ?_
    rw [Bool.and_eq_true, outOfRange_iff]
    exact ⟨hknown, hrange⟩

/-- Settles O48. -/
theorem zoomCounting : Obligations.ZoomCounting := by
  unfold Obligations.ZoomCounting
  intro i step s hi z counts inRange
  have hcount : encoderStep i s.chip = zoomCount step s.chip := by
    rcases hi with ⟨rfl, rfl⟩ | ⟨rfl, rfl⟩ <;> rfl
  refine ⟨fun hcounts hrange => ?_, fun hlost => ?_, fun hunknown => ?_, fun hknown j n hj => ⟨?_, ?_, ?_⟩⟩
  · refine ⟨_, exec_of_commit rfl hcount, zoomCount_within ((zoomCounts_iff _).mpr hcounts) fun hknown => ?_⟩
    exact Bool.eq_false_iff.mpr fun hout => (outOfRange_iff _).mp hout (hrange hknown)
  · refine exec_of_commit rfl (hcount.trans (if_neg fun h => ?_))
    exact ((zoomCounts_iff _).mp h).1 hlost
  · exact exec_of_commit rfl (if_neg (Bool.eq_false_iff.mp hunknown))
  · intro hstate hafter hpart
    have hends := encoderStep_ends hi hknown 
      (fun hlost : z.state = .lost => by rcases hstate with h | h | h | h <;> simp [hlost] at h) hj
    have hlost := losePosition_rests (c := setZoom (fun z => { z with counter := n }) s.chip) hstate hafter
    have hrests := enterLost_rests (c := setZoom (fun z => { z with counter := n }) s.chip) hpart
    refine ⟨_, exec_of_commit rfl (hends.trans (hlost.trans hrests)), ?_⟩
    have hzoom : (raise .handHeld (lostEnded (setZoom (fun z => { z with counter := n }) s.chip))).zoom
        = lostZoom { z with counter := n } := lostEnded_zoom _
    rw [hzoom]
    exact ⟨rfl, rfl, rfl, rfl, fun hservice hearlier =>
      lostEnded_requests (c := setZoom (fun z => { z with counter := n }) s.chip) hservice hearlier⟩
  · intro hstate hafter
    have hends := encoderStep_ends hi hknown (by simp [show s.chip.zoom.state = .moving from hstate]) hj
    have hfault := losePosition_tableFault (c := setZoom (fun z => { z with counter := n }) s.chip) hstate hafter
    obtain ⟨hknown', hcounter⟩ := enterLost_zoom (setZoom (fun z => { z with counter := n }) s.chip)
    refine ⟨_, exec_of_commit rfl (hends.trans hfault), ?_⟩
    rw [zoomFault_zoom]
    exact ⟨rfl, rfl, hknown', hcounter⟩
  · intro hstate hafter
    have hends := encoderStep_ends hi hknown (by simp [show s.chip.zoom.state = .fault from hstate]) hj
    exact exec_of_commit rfl (hends.trans
      (losePosition_fault (c := setZoom (fun z => { z with counter := n }) s.chip) hstate hafter))

/-! ### The reference edge (R63) -/

theorem referenceChange_idle {c : Chip} (level : SensorLevel) (h : c.zoom.state ≠ .homing) :
    referenceChange level c = setZoom (fun z => { z with reference := level }) c := by
  unfold referenceChange
  split
  · exact absurd ‹c.zoom.state = .homing› h
  · exact absurd ‹c.zoom.state = .homing› h
  · rfl

theorem referenceChange_out {c : Chip} {d : ZoomDir} (hstate : c.zoom.state = .homing) (hmotor : c.zoom.motor = .drive d)
    (hstep : c.zoom.homingStep = .seekOut) : referenceChange .out c
      = { c with zoom := { c.zoom with reference := .out, motor := .pause } } := by
  have hpause : referenceChange .out c
      = setZoom (fun z => { z with motor := .pause }) (setZoom (fun z => { z with reference := .out }) c) := by
    simp only [referenceChange, hstate, hstep, hmotor]
  exact hpause

/-- The part at the reference edge, before the zone check. -/
def atReference (c : Chip) : Chip :=
  setZoom (fun z => { z with reference := .inside, counter := z.kept.zRef, known := true }) c

theorem referenceChange_edge {c : Chip} (hstate : c.zoom.state = .homing) (hstep : c.zoom.homingStep = .seekIn)
    (hwide : movesWide c.zoom = true) :
    referenceChange .inside c = beginPark c.zoom.homingGoal true (zoneCheck (atReference c)) := by
  simp only [referenceChange, hstate, hstep]
  exact if_pos hwide

/-- A park move that begins leaves the counter, its known mark and the sensor level. -/
theorem beginPark_keeps (goal : HomingGoal) (b : Bool) (c : Chip) : let d := beginPark goal b c
    d.zoom.counter = c.zoom.counter ∧ d.zoom.known = c.zoom.known ∧ d.zoom.reference = c.zoom.reference
      ∧ d.zoom.state = (match goal with | .park => .parking | .unpark => .unparking) := by
  have hdrive : ∀ z : Zoom, (drivePark z).counter = z.counter ∧ (drivePark z).known = z.known
      ∧ (drivePark z).reference = z.reference ∧ (drivePark z).state = z.state := by
    intro z
    unfold drivePark
    split <;> exact ⟨rfl, rfl, rfl, rfl⟩
  cases goal with
  | park =>
    dsimp only
    rw [show (beginPark .park b c).zoom = drivePark _ from congrArg drivePark (enterZoom_zoom _ _ c)]
    exact hdrive _
  | unpark =>
    dsimp only
    rw [show (beginPark .unpark b c).zoom = drivePark _ from congrArg drivePark (enterZoom_zoom _ _ c)]
    exact hdrive _

theorem zoneCheck_reference (c : Chip) : (zoneCheck c).zoom.reference = c.zoom.reference := by
  unfold zoneCheck
  dsimp only
  (repeat' split) <;> rfl

/-- Settles O49. -/
theorem referenceEdge : Obligations.ReferenceEdge := by
  unfold Obligations.ReferenceEdge
  refine fun level s => ⟨fun hstate => exec_of_commit rfl (referenceChange_idle level hstate),
    fun d hstate hmotor hstep hlevel => ?_, fun hstate hmoves hstep hlevel => ?_⟩
  · subst hlevel
    exact exec_of_commit rfl (referenceChange_out hstate hmotor hstep)
  · subst hlevel
    have hwide : movesWide s.chip.zoom = true := by
      rcases hmoves with ⟨d, h⟩ | h | ⟨h, hlast⟩
      · simp [movesWide, h]
      · simp [movesWide, h]
      · simp [movesWide, h, hlast]
    obtain ⟨hcounter, hknown, -, -, -⟩ := zoneCheck_facts (atReference s.chip)
    obtain ⟨hcounter', hknown', hreference', hstate'⟩ :=
      beginPark_keeps s.chip.zoom.homingGoal true (zoneCheck (atReference s.chip))
    exact ⟨_, exec_of_commit rfl (referenceChange_edge hstate hstep hwide), hcounter'.trans hcounter,
      hknown'.trans hknown, hreference'.trans (zoneCheck_reference _), hstate'⟩

/-! ### Timers (R56, R57, R61, R63, R68) -/

theorem brakeTimer_settles {c : Chip} (hstate : c.zoom.state = .moving) (hmotor : c.zoom.motor = .brake)
    (hafter : c.zoom.after ≠ .tableFault) :
    brakeTimer c = { c with zoom := { c.zoom with phase := .settling, motor := .settle } } := by
  simp only [brakeTimer, hmotor, hstate, if_neg hafter, setZoom, if_true]

theorem brakeTimer_faults {c : Chip} (hstate : c.zoom.state = .moving) (hmotor : c.zoom.motor = .brake)
    (hafter : c.zoom.after = .tableFault) : brakeTimer c = zoomFault .lensTableFault c := by
  simp only [brakeTimer, hmotor, hstate, if_pos hafter]

theorem settleTimer_checks {c : Chip} (hmotor : c.zoom.motor = .settle) (hafter : c.zoom.after = .finalCheck) :
    settleTimer c = finalCheck c := by
  simp only [settleTimer, hmotor, hafter, if_true]

theorem onTarget_iff (z : Zoom) : onTarget z = true
    ↔ (z.target - z.counter).natAbs ≤ z.kept.tolerance ∧ z.lastDrive = .tele := by
  rw [onTarget, Bool.and_eq_true, decide_eq_true_eq, beq_iff_eq]
  rfl

theorem finalCheck_arrives {c : Chip} (h : onTarget c.zoom = true) :
    finalCheck c = finish .zoom .done .none (enterIdle c) := if_pos h

theorem finalCheck_misses {c : Chip} (h : onTarget c.zoom ≠ true) (hcorrected : 2 ≤ c.zoom.corrections) :
    finalCheck c = finish .zoom .done .offTarget (enterIdle c) :=
  (if_neg h).trans (if_neg (Nat.not_lt.mpr hcorrected))

theorem finalCheck_corrects {c : Chip} (h : onTarget c.zoom ≠ true) (hcorrects : c.zoom.corrections < 2) :
    finalCheck c = setZoom (fun z => startCorrection { z with corrections := z.corrections + 1, after := .none }) c :=
  (if_neg h).trans (if_pos hcorrects)

/-- The read of the focal length code changes the code alone in the drive. -/
theorem readFocalCode_zoom (c : Chip) : ∃ w, (readFocalCode c).zoom = { c.zoom with focalCode := w } := by
  have hread := (readWord_readFrom .zp (132 + c.zoom.zone) c).1
  have hzoom : (readWord .zp (132 + c.zoom.zone) c).2.zoom = c.zoom := (congrArg Chip.zoom hread :)
  unfold readFocalCode
  dsimp only
  split
  next w _ => exact ⟨w, congrArg (fun z : Zoom => { z with focalCode := w }) hzoom⟩
  next => exact ⟨c.zoom.focalCode, hzoom⟩

/-- An entry to IDLE leaves the motor at rest and the counter. -/
theorem enterIdle_rests (c : Chip) : (enterIdle c).zoom.motor = .rest ∧ (enterIdle c).zoom.counter = c.zoom.counter := by
  obtain ⟨w, hw⟩ := readFocalCode_zoom (enterZoom .idle (fun z => { z with
    phase := .none, motor := .rest, after := .none, holdMark := false, drift := false, afterHoming := false }) c)
  rw [enterZoom_zoom] at hw
  exact ⟨(congrArg Zoom.motor hw :), (congrArg Zoom.counter hw :)⟩

/-- A move that ends: IDLE at rest, and the ZOOM request DONE with detail `d`. -/
theorem moveEnd_facts (d : Detail) {c : Chip} (hlen : c.records.length = 9) (hearlier : (record c .zoom).earlierActive = false)
    (hactive : (record c .zoom).outcome = .active) : let e := finish .zoom .done d (enterIdle c)
    e.zoom.state = .idle ∧ e.zoom.motor = .rest ∧ e.zoom.counter = c.zoom.counter ∧ .zoomSettled ∈ e.events
      ∧ (record e .zoom).outcome = .done ∧ (record e .zoom).detail = d := by
  obtain ⟨hstate, hsettled, hrecords⟩ := enterIdle_sets c
  obtain ⟨hmotor, hcounter⟩ := enterIdle_rests c
  have hrecord : record (enterIdle c) .zoom = record c .zoom := record_of_records hrecords _
  dsimp only
  rw [zoom_finish, record_finish_active .zoom .done d _ (by rw [hrecord]; exact hearlier) (by rw [hrecord]; exact hactive)
    (by rw [hrecords]; exact hlen)]
  exact ⟨hstate, hmotor, hcounter, (CaptureRequests.prefix_finish _ _ _ _).mem hsettled, rfl, rfl⟩

theorem startCorrection_facts (z : Zoom) : (startCorrection z).phase = .correcting
    ∧ (startCorrection z).corrections = z.corrections
    ∧ (startCorrection z).motor = .drive (if z.counter ≤ z.target - z.kept.backlash then .tele else .wide) := by
  unfold startCorrection
  split <;> exact ⟨rfl, rfl, rfl⟩

/-- A counter of wear goes up by 1, to 65535 at most (R170). -/
theorem count_counts (k : CounterId) (c : Chip) (h : c.wear.counts.getD k.ctorIdx 0 ≤ 65535) :
    (count k c).wear.counts = c.wear.counts.set k.ctorIdx (min (c.wear.counts.getD k.ctorIdx 0 + 1) 65535) := by
  have hmax : Config.counterMax = 65535 := rfl
  unfold count
  extract_lets v c1
  split
  next hfull =>
    have hv : c.wear.counts.getD k.ctorIdx 0 = 65535 := Nat.le_antisymm h hfull
    rw [hv]
    refine (List.ext_getElem (by simp) fun i hi hi' => ?_).symm
    rw [List.getElem_set]
    split
    next heq =>
      subst heq
      rw [← List.getElem_eq_getD (h := hi') 0] at hv
      exact hv.symm
    next => rfl
  next hnot =>
    have hv : min (c.wear.counts.getD k.ctorIdx 0 + 1) 65535 = v + 1 := by
      show min (v + 1) 65535 = v + 1
      omega
    rw [hv]
    split <;> rfl

theorem count_zoom (k : CounterId) (c : Chip) : (count k c).zoom = c.zoom := by
  unfold count
  dsimp only
  (repeat' split) <;> rfl

theorem stallTimer_reverses {c : Chip} {d : ZoomDir} (hmotor : c.zoom.motor = .drive d)
    (hretries : c.zoom.retries < c.zoom.kept.retryLimit) : stallTimer c = setZoom (fun z => { z with
      retries := z.retries + 1, stallAt := some (z.counter, z.goalDir), reversalFrom := z.counter,
      motor := .reverse (opposite d), lastDrive := opposite d }) (count .zoomStall c) := by
  simp only [stallTimer, hmotor, poweredDir]
  exact if_neg (by rw [count_zoom]; exact Nat.not_le.mpr hretries)

theorem stallTimer_faults {c : Chip} {d : ZoomDir} (hmotor : c.zoom.motor = .drive d)
    (hretries : c.zoom.kept.retryLimit ≤ c.zoom.retries) : stallTimer c = zoomFault .stall (count .zoomStall c) := by
  simp only [stallTimer, hmotor, poweredDir]
  exact if_pos (by rw [count_zoom]; exact hretries)

/-- Settles O50. -/
theorem zoomTimers : Obligations.ZoomTimers := by
  unfold Obligations.ZoomTimers
  intro s z
  refine ⟨fun hstate hmotor hafter => exec_of_commit rfl (brakeTimer_settles hstate hmotor hafter),
    fun hstate hmotor hafter => ?_, fun hmotor hafter => ?_, fun d hmotor => ⟨fun hretries hcount => ?_, fun hretries => ?_⟩,
    fun hstate => ?_, fun hstate hdrift => exec_of_commit rfl (if_pos ⟨hstate, hdrift⟩)⟩
  · refine ⟨_, exec_of_commit rfl (brakeTimer_faults hstate hmotor hafter), ?_⟩
    rw [zoomFault_zoom]
    refine ⟨rfl, rfl, rfl, rfl, fun hlen hearlier hactive => ?_⟩
    rw [zoomFault_record hlen hearlier hactive]
    exact ⟨rfl, rfl⟩
  · intro reached
    have hreached : onTarget z = true ↔ reached := onTarget_iff z
    have hcheck := settleTimer_checks hmotor hafter
    refine ⟨fun hends hlen hearlier hactive => ?_, fun hmisses hcorrects => ?_⟩
    · by_cases htarget : reached
      · obtain ⟨hidle, hrest, hcounter, hsettled, hdone, hdetail⟩ := moveEnd_facts .none hlen hearlier hactive
        exact ⟨_, exec_of_commit rfl (hcheck.trans (finalCheck_arrives (hreached.mpr htarget))), hidle, hrest, hcounter,
          hsettled, hdone, fun _ => hdetail, fun hnot => absurd htarget hnot⟩
      · obtain ⟨hidle, hrest, hcounter, hsettled, hdone, hdetail⟩ := moveEnd_facts .offTarget hlen hearlier hactive
        exact ⟨_, exec_of_commit rfl (hcheck.trans (finalCheck_misses (mt hreached.mp htarget)
          (hends.resolve_left htarget))), hidle, hrest, hcounter, hsettled, hdone, fun h => absurd h htarget, fun _ => hdetail⟩
    · obtain ⟨hphase, hcorrections, hdrive⟩ := startCorrection_facts { z with corrections := z.corrections + 1, after := .none }
      exact ⟨_, exec_of_commit rfl (hcheck.trans (finalCheck_corrects (mt hreached.mp hmisses) hcorrects)), hphase,
        hcorrections, hdrive⟩
  · refine ⟨_, exec_of_commit rfl (stallTimer_reverses hmotor hretries), ?_⟩
    have hzoom := count_zoom .zoomStall s.chip
    refine ⟨?_, ?_, ?_, ?_, count_counts .zoomStall s.chip hcount⟩
    · exact (congrArg (fun x : Zoom => x.retries + 1) hzoom :)
    · cases d <;> rfl
    · exact (congrArg Zoom.counter hzoom :)
    · exact (congrArg Zoom.state hzoom :)
  · refine ⟨_, exec_of_commit rfl (stallTimer_faults hmotor hretries), ?_⟩
    rw [zoomFault_zoom]
    exact ⟨rfl, rfl, rfl⟩
  · refine ⟨_, exec_of_commit rfl (if_pos hstate), ?_⟩
    rw [zoomFault_zoom]
    exact ⟨rfl, rfl, rfl⟩

end Sys2Proof.Proofs.ZoomEvents
end

section
/-! PROOFS. The Focus Drive (Chapter 5): its pulses, the end of its dwell, its home edge, and its entry to FAULT. -/

namespace Sys2Proof.Proofs.FocusEvents

-- One elaboration thread at a time: each waiting thread reserves a stack, and the text is long.
set_option Elab.async false

open Sys2Proof Sys2Proof.Machine Sys2Proof.Proofs.Part Sys2Proof.Proofs.SensorLimits Sys2Proof.Proofs.Requests
open Sys2Proof.Proofs.StoreRequests Sys2Proof.Proofs.ExposureRequests Sys2Proof.Proofs.FocusRequests

/-! ### The drive's states (R74, R80) -/

@[simp] theorem enterFocus_focus (k : FocusState) (f : Focus → Focus) (c : Chip) :
    (enterFocus k f c).focus = { f c.focus with state := k } := by
  unfold enterFocus
  dsimp only
  split <;> rfl

@[simp] theorem enterFocus_notices (k : FocusState) (f : Focus → Focus) (c : Chip) : (enterFocus k f c).notices = c.notices := by
  unfold enterFocus
  dsimp only
  split <;> rfl

theorem records_enterFocus (k : FocusState) (f : Focus → Focus) (c : Chip) : (enterFocus k f c).records = c.records :=
  records_of_besideFocus (besideFocus_enterFocus k f c)

theorem enterFocusIdle_focus (c : Chip) : (enterFocusIdle c).focus = { c.focus with
    state := .idle, train := .none, homing := .none, afterRamp := .none } := (enterFocus_focus .idle _ c).trans rfl

theorem enterFocusIdle_raises (c : Chip) : .focusIdle (c.focus.state == .homing) ∈ (enterFocusIdle c).events := by
  simp [enterFocusIdle, raise]

/-- The drive in FAULT with detail `d`. -/
def faulted (d : Detail) (f : Focus) : Focus :=
  { f with state := .fault, train := .none, homing := .none, afterRamp := .none, fault := d }

/-- The part as the drive enters FAULT, with its notice and before the requests end. -/
def faultShown (d : Detail) (c : Chip) : Chip :=
  notice .fault (markFocusPart (enterFocus .fault (fun f => { f with
    train := .none, homing := .none, afterRamp := .none, fault := d }) c))

/-- The requests that end with the drive. -/
def faultEnded (d : Detail) (c : Chip) : Chip :=
  let e := finish .focus .failed d (faultShown d c)
  if serviceInFocus e then finishService .failed d e else e

theorem focusFault_eq (d : Detail) (c : Chip) : focusFault d c
    = if c.focus.state = .fault ∧ c.focus.train = .none then faultEnded d c else raise .focusStopped (faultEnded d c) := rfl

theorem focus_finish (r : RecordId) (o : ReqOutcome) (d : Detail) (c : Chip) : (finish r o d c).focus = c.focus :=
  focus_of_blocks (blocks_finish r o d c)

theorem focus_finishService (o : ReqOutcome) (d : Detail) (c : Chip) : (finishService o d c).focus = c.focus := by
  unfold finishService
  split
  · rfl
  · exact focus_finish _ _ _ { c with service := none }

theorem faultShown_focus (d : Detail) (c : Chip) : (faultShown d c).focus = faulted d c.focus :=
  (enterFocus_focus .fault _ c).trans rfl

theorem faultEnded_focus (d : Detail) (c : Chip) : (faultEnded d c).focus = faulted d c.focus := by
  have hfinish : (finish .focus .failed d (faultShown d c)).focus = faulted d c.focus :=
    (focus_finish _ _ _ _).trans (faultShown_focus d c)
  unfold faultEnded
  dsimp only
  split
  · rw [focus_finishService, hfinish]
  · exact hfinish

theorem focusFault_focus (d : Detail) (c : Chip) : (focusFault d c).focus = faulted d c.focus := by
  rw [focusFault_eq]
  split <;> exact faultEnded_focus d c

/-- An entry to FAULT is one for the rules that wait on it. -/
theorem focusFault_raises {d : Detail} {c : Chip} (h : ¬ (c.focus.state = .fault ∧ c.focus.train = .none)) :
    .focusStopped ∈ (focusFault d c).events := by
  rw [focusFault_eq, if_neg h]
  simp [raise]

/-- With no request and no SERVICE to end, the notice of FAULT is the only one. -/
theorem focusFault_notices {d : Detail} {c : Chip} (hservice : c.service = none)
    (hearlier : (record c .focus).earlierActive = false) (hidle : (record c .focus).outcome ≠ .active) :
    (focusFault d c).notices.counts = c.notices.counts.modify 8 (· + 1) := by
  have hshown : record (faultShown d c) .focus = record c .focus := record_of_records (records_enterFocus _ _ c) _
  have hfinish : finish .focus .failed d (faultShown d c) = faultShown d c :=
    finish_none _ _ _ _ (by rw [hshown]; exact hearlier) (by rw [hshown]; exact hidle)
  have hnoService : (faultShown d c).service = none := by
    have hkept : (enterFocus .fault (fun f => { f with
        train := .none, homing := .none, afterRamp := .none, fault := d }) c).service = c.service :=
      (congrArg Chip.service (besideFocus_enterFocus .fault _ c) :)
    exact hkept.trans hservice
  have hended : faultEnded d c = faultShown d c := by
    unfold faultEnded
    dsimp only
    rw [hfinish]
    exact if_neg (by simp [serviceInFocus, hnoService])
  have hcounts : (faultShown d c).notices.counts = c.notices.counts.modify 8 (· + 1) := by
    exact congrArg (fun n : Notices => n.counts.modify 8 (· + 1)) (enterFocus_notices .fault _ c)
  rw [focusFault_eq, hended]
  split <;> exact hcounts

/-! ### Moves (R74) -/

theorem planMove_arrived {c : Chip} (h : c.focus.target = c.focus.counter) : planMove c = enterFocusIdle c := by
  unfold planMove planLeg
  rw [if_pos h]

/-- A leg that may begin at once. -/
theorem planMove_begins {c : Chip} (h : c.focus.target ≠ c.focus.counter) (hpassed : ∀ d, dwellPassed c d = true) :
    planMove c = beginTrain (if c.focus.counter < c.focus.target then .near else .far)
      (if c.focus.counter < c.focus.target then c.focus.target
        else max (c.focus.target - ((cfg c).focus.overshoot : Int)) 0) c := by
  unfold planMove planLeg
  rw [if_neg h]
  by_cases hnear : c.focus.counter < c.focus.target
  · simp only [if_pos hnear, hpassed]
    rfl
  · simp only [if_neg hnear, hpassed]
    rfl

theorem beginTrain_focus {d : FocusDir} {leg : Int} {c : Chip} (h : c.focus.state ≠ .homing) : (beginTrain d leg c).focus
    = { c.focus with
        state := .moving, train := .counted, direction := d, legTarget := leg, remaining := (leg - c.focus.counter).natAbs,
        entry := 0, atEntry := 0, kept := (cfg c).focus } := by
  unfold beginTrain
  dsimp only
  rw [if_neg h]
  exact (enterFocus_focus .moving _ c).trans rfl

/-- A plan from rest moves no step. -/
theorem planMove_keeps (c : Chip) : (planMove c).focus.counter = c.focus.counter ∧ (planMove c).focus.homed = c.focus.homed
    ∧ (planMove c).focus.home = c.focus.home := by
  unfold planMove enterFocusIdle beginTrain
  dsimp only
  (repeat' split) <;> simp [markFocusPart, raise, setFocus]

theorem planTargeted_keeps (t : Int) {c d : Chip} (h : d.focus = c.focus) :
    let e := planMove (setFocus (fun f => { f with target := t }) d)
    e.focus.counter = c.focus.counter ∧ e.focus.homed = c.focus.homed ∧ e.focus.home = c.focus.home := by
  rw [← h]
  exact planMove_keeps (setFocus (fun f => { f with target := t }) d)

/-! ### Pulses (R73) -/

/-- The step of a pulse in direction `d`. -/
def pulseStep : FocusDir → Int
  | .near => 1
  | .far => -1

theorem stepFrom_one (d : FocusDir) (p : Int) : stepFrom d p 1 = p + pulseStep d := by
  cases d
  · rfl
  · exact Int.sub_eq_add_neg

/-- The part as a counted train has issued its pulse. -/
def pulsed (time : Nat) (c : Chip) : Chip :=
  { c with now := max c.now time, focus := { c.focus with
      counter := stepFrom c.focus.direction c.focus.counter 1, remaining := c.focus.remaining - 1, entry := pulseEntry c.focus,
      atEntry := if pulseEntry c.focus = c.focus.entry then c.focus.atEntry + 1 else 1,
      lastPulse := some (max c.now time, c.focus.direction), motion := c.focus.motion || c.pixel.frame.isSome } }

theorem focusPulse_counted {time : Nat} {c : Chip} (h : c.focus.train = .counted) : focusPulse time c
    = if c.focus.remaining - 1 = 0 then endTrain (pulsed time c) else pulsed time c := by
  unfold focusPulse
  simp only [h]
  rfl

/-- The part as a homing train has issued its pulse. -/
def homingPulsed (time : Nat) (c : Chip) : Chip :=
  { c with now := max c.now time, focus := { c.focus with
      counter := stepFrom c.focus.direction c.focus.counter 1, homingPulses := c.focus.homingPulses + 1,
      lastPulse := some (max c.now time, c.focus.direction), motion := c.focus.motion || c.pixel.frame.isSome } }

theorem focusPulse_continuous {time : Nat} {c : Chip} (h : c.focus.train = .continuous)
    (hpulses : c.focus.homingPulses < (fMax c).toNat + 512) : focusPulse time c = homingPulsed time c := by
  unfold focusPulse
  simp only [h]
  exact if_neg (Nat.not_le.mpr hpulses)

/-- Settles O51. -/
theorem focusPulses : Obligations.FocusPulses := by
  unfold Obligations.FocusPulses
  intro time s f step now candidate e
  have hstep : stepFrom f.direction f.counter 1 = f.counter + step := by
    show stepFrom s.chip.focus.direction s.chip.focus.counter 1 = _
    rw [stepFrom_one]
    rfl
  refine ⟨fun htrain hremaining => ?_, fun htrain hpulses => ?_, fun htrain hremaining hafter htarget => ?_,
    fun hstate htrain hremaining hafter hservice hearlier hidle => ?_⟩
  · refine exec_of_commit rfl ((focusPulse_counted htrain).trans ?_)
    rw [if_neg (by show s.chip.focus.remaining - 1 ≠ 0; have : 2 ≤ s.chip.focus.remaining := hremaining; omega), ← hstep]
    rfl
  · refine exec_of_commit rfl ((focusPulse_continuous htrain hpulses).trans ?_)
    rw [← hstep]
    rfl
  · have hend : focusPulse time s.chip = enterFocusIdle (setFocus (fun f => { f with train := .none, remaining := 0 })
        (pulsed time s.chip)) := by
      rw [focusPulse_counted htrain, if_pos (Nat.sub_eq_zero_of_le hremaining)]
      have hramp : (pulsed time s.chip).focus.afterRamp = .none := hafter
      unfold endTrain
      rw [hramp]
      exact planMove_arrived (htarget.trans hstep.symm)
    refine ⟨_, exec_of_commit rfl hend, ?_⟩
    rw [enterFocusIdle_focus]
    exact ⟨rfl, rfl, hstep.trans htarget.symm, rfl, rfl, enterFocusIdle_raises _⟩
  · have hend : focusPulse time s.chip = focusFault .lensTableFault (setFocus (fun f => { f with
        train := .none, remaining := 0 }) (pulsed time s.chip)) := by
      rw [focusPulse_counted htrain, if_pos (Nat.sub_eq_zero_of_le hremaining)]
      have hramp : (pulsed time s.chip).focus.afterRamp = .fault := hafter
      unfold endTrain
      rw [hramp]
    refine ⟨_, exec_of_commit rfl hend, ?_⟩
    rw [focusFault_focus]
    refine ⟨rfl, rfl, hstep, rfl, rfl, focusFault_raises ?_, ?_⟩
    · rintro ⟨hfault, -⟩
      have hfault' : s.chip.focus.state = .fault := hfault
      rcases hstate with h | h <;> exact absurd (hfault'.symm.trans h) (by decide)
    · exact focusFault_notices (c := setFocus (fun f => { f with train := .none, remaining := 0 }) (pulsed time s.chip))
        hservice hearlier hidle

/-! ### The dwell and the home sensor (R74, R79) -/

/-- The part as the time of the dwell's end is known. -/
def dwelled (c : Chip) : Chip :=
  match c.focus.lastPulse with
  | some (t, _) => { c with now := max c.now (dwellEnds c t) }
  | none => c

theorem dwelled_eq (c : Chip) : ∃ t, dwelled c = { c with now := t } := by
  unfold dwelled
  split
  · exact ⟨_, rfl⟩
  · exact ⟨_, rfl⟩

/-- After the dwell a leg in either direction may begin. -/
theorem dwellPassed_dwelled (d : FocusDir) (c : Chip) : dwellPassed (dwelled c) d = true := by
  unfold dwelled
  cases h : c.focus.lastPulse with
  | none => simp [dwellPassed, h]
  | some p =>
    obtain ⟨t, last⟩ := p
    have hpassed : dwellEnds c t ≤ max c.now (dwellEnds c t) := Nat.le_max_right _ _
    simp only [dwellPassed, h, Bool.or_eq_true, decide_eq_true_eq]
    exact .inr hpassed

theorem dwellEnd_eq (c : Chip) (h : c.focus.train = .dwell) : dwellEnd c
    = if c.focus.homing = .turn then
        setFocus (fun f => { f with homing := .seekIn, train := .continuous, direction := .far, homingPulses := 0 }) (dwelled c)
      else planMove (setFocus (fun f => { f with train := .none }) (dwelled c)) := by
  obtain ⟨t, ht⟩ := dwelled_eq c
  have hend : dwellEnd c = if (dwelled c).focus.train = .dwell then
      if (dwelled c).focus.homing = .turn then
        setFocus (fun f => { f with homing := .seekIn, train := .continuous, direction := .far, homingPulses := 0 }) (dwelled c)
      else planMove (setFocus (fun f => { f with train := .none }) (dwelled c))
    else dwelled c := rfl
  rw [hend, ht, if_pos (by exact h)]

/-- The goal move of homing leaves the counter, the home sensor and the homed mark. -/
theorem homingGoalMove_keeps (c : Chip) : (homingGoalMove c).focus.counter = c.focus.counter
    ∧ (homingGoalMove c).focus.homed = c.focus.homed ∧ (homingGoalMove c).focus.home = c.focus.home := by
  have hread := (readTrack_readFrom c.zoom.counter c).1
  have hfocus : (readTrack c.zoom.counter c).2.focus = c.focus := (congrArg Chip.focus hread :)
  have hcontrol : ∀ f, (setControl f (readTrack c.zoom.counter c).2).focus = c.focus := fun f =>
    (focus_of_blocks (blocks_setControl f _)).trans hfocus
  unfold homingGoalMove
  split
  · exact planMove_keeps _
  · dsimp only
    split
    · rw [enterFocusIdle_focus, hcontrol]
      exact ⟨rfl, rfl, rfl⟩
    · exact planTargeted_keeps _ (hcontrol _)

/-- The part homed at the home reference, before the goal move. -/
def homedAt (p : Int) (c : Chip) : Chip :=
  markFocusPart (setFocus (fun f => { f with
    home := .inside, train := .none, homing := .goal, homed := true, counter := p }) c)

theorem homeChange_edge {c : Chip} (htrain : c.focus.train = .continuous) (hhoming : c.focus.homing = .seekIn) :
    homeChange .inside c = homingGoalMove (homedAt (limitFocusPosition c (cfg c).focus.fRef) c) := by
  unfold homeChange
  simp only [htrain, hhoming]
  rfl

/-- Settles O52. -/
theorem focusHoming : Obligations.FocusHoming := by
  unfold Obligations.FocusHoming
  intro s f
  obtain ⟨t, ht⟩ := dwelled_eq s.chip
  refine ⟨fun htrain hturn => ?_, fun htrain hhoming hstate htarget => ?_, fun htrain hseek => ?_, fun htrain hpulses => ?_⟩
  · refine ⟨_, exec_of_commit rfl ((dwellEnd_eq s.chip htrain).trans (if_pos hturn)), ?_⟩
    rw [ht]
    exact ⟨rfl, rfl, rfl, rfl, rfl⟩
  · have hnot : s.chip.focus.homing ≠ .turn := fun h => absurd (h.symm.trans hhoming) (by decide)
    have hplan : planMove (setFocus (fun f => { f with train := .none }) (dwelled s.chip)) = _ :=
      planMove_begins (by rw [ht]; exact htarget) fun d => dwellPassed_dwelled d s.chip
    refine ⟨_, exec_of_commit rfl ((dwellEnd_eq s.chip htrain).trans ((if_neg hnot).trans hplan)), ?_⟩
    rw [beginTrain_focus (by rw [ht]; exact fun h => absurd (h.symm.trans hstate) (by decide)), ht]
    exact ⟨rfl, rfl, rfl, rfl, rfl⟩
  · obtain ⟨hcounter, hhomed, hhome⟩ := homingGoalMove_keeps (homedAt (limitFocusPosition s.chip (cfg s.chip).focus.fRef) s.chip)
    exact ⟨_, exec_of_commit rfl (homeChange_edge htrain hseek), hhomed, hhome, hcounter⟩
  · refine ⟨_, exec_of_commit rfl (if_pos ⟨htrain, hpulses⟩), ?_⟩
    rw [focusFault_focus]
    refine ⟨rfl, rfl, rfl, rfl, focusFault_raises ?_⟩
    rintro ⟨-, hnone⟩
    exact absurd (hnone.symm.trans htrain) (by decide)

end Sys2Proof.Proofs.FocusEvents
end

section
/-! PROOFS. The Image Stabilizer (Chapter 8): its gyro link, its timers and its sample. -/

namespace Sys2Proof.Proofs.Stabilizer

-- One elaboration thread at a time: each waiting thread reserves a stack, and the text is long.
set_option Elab.async false

open Sys2Proof Sys2Proof.Machine Sys2Proof.Proofs.Part Sys2Proof.Proofs.SensorLimits Sys2Proof.Proofs.Requests
open Sys2Proof.Proofs.StoreRequests Sys2Proof.Proofs.ExposureRequests

/-! ### What the setters leave -/

/-- Where no shown and no gathered field changes, setting fields marks nothing. -/
theorem setStab_quiet {f : Stab → Stab} {c : Chip} (hshown : stabNow (f c.stab) = stabNow c.stab)
    (hgathered : stabGathered (f c.stab) = stabGathered c.stab) (hmark : (f c.stab).gathered = c.stab.gathered) :
    setStab f c = { c with stab := f c.stab } := by
  have hset : setStab f c = { c with stab := { f c.stab with
      gathered := c.stab.gathered || stabGathered (f c.stab) != stabGathered c.stab } } := if_pos hshown
  rw [hset, hgathered, bne_self_eq_false, Bool.or_false, ← hmark]

@[simp] theorem setStab_notices (f : Stab → Stab) (c : Chip) : (setStab f c).notices = c.notices := by
  unfold setStab
  dsimp only
  split <;> rfl

theorem setMode_notices (m : StabMode) (c : Chip) : (setMode m c).notices = c.notices := by
  unfold setMode handCredit
  dsimp only
  (repeat' split) <;> simp [raise]

/-- The gyro link, the window and the marks: what a mode change leaves. -/
def linkPart (s : Stab) : Stab :=
  { s with mode := .off, x := {}, y := {}, panRun := 0, exitRun := 0, credit := 0, gathered := false }

theorem linkPart_setStab (f : Stab → Stab) (c : Chip) : linkPart (setStab f c).stab = linkPart (f c.stab) := by
  obtain ⟨g, hg⟩ := setStab_stab f c
  rw [hg]
  rfl

theorem handCredit_link (c : Chip) : (handCredit c).stab.mode = c.stab.mode
    ∧ linkPart (handCredit c).stab = linkPart c.stab := by
  obtain ⟨v, g, hg⟩ := handCredit_stab c
  rw [hg]
  exact ⟨rfl, rfl⟩

/-- What a change to mode `m` sets, before the credit is handed over. -/
def modeSet (m : StabMode) (s : Stab) : Stab :=
  let s1 := { s with mode := m, panRun := 0, exitRun := 0 }
  match m with
  | .off => axes (fun a => { a with angle := 0, target := 0 }) s1
  | .standby | .fault => axes (fun a => { a with target := 0 }) s1
  | .starting => axes (fun a => { a with angle := 0, target := 0, residual := 0 }) s1
  | .active | .panning => s1

theorem setMode_eq {m : StabMode} {c : Chip} (h : c.stab.mode ≠ m) : setMode m c = handCredit (setStab (modeSet m) c) :=
  if_neg h

theorem modeSet_link (m : StabMode) (s : Stab) : (modeSet m s).mode = m ∧ linkPart (modeSet m s) = linkPart s := by
  cases m <;> exact ⟨rfl, rfl⟩

/-- A mode change sets the mode and leaves the link. -/
theorem setMode_link (m : StabMode) (c : Chip) : (setMode m c).stab.mode = m
    ∧ linkPart (setMode m c).stab = linkPart c.stab := by
  by_cases h : c.stab.mode = m
  · rw [show setMode m c = c from if_pos h]
    exact ⟨h, rfl⟩
  · obtain ⟨hmode, hlink⟩ := handCredit_link (setStab (modeSet m) c)
    obtain ⟨g, hg⟩ := setStab_stab (modeSet m) c
    obtain ⟨hmode', hlink'⟩ := modeSet_link m c.stab
    rw [setMode_eq h]
    rw [linkPart_setStab] at hlink
    exact ⟨hmode.trans ((congrArg Stab.mode hg :).trans hmode'), hlink.trans hlink'⟩

/-! ### The gyro link (R126, R127) -/

/-- The drive of a lost gyro, before its mode changes. -/
def gyroCut (s : Stab) : Stab := { s with
  linkRunning := false, marked := false, discard := s.reading, fault := .gyroLost,
  window := s.window.map (fun w => { w with shakeHigh := true }) }

theorem gyroLost_eq {c : Chip} (hlink : c.stab.linkRunning = true) (hservice : c.service = none) :
    gyroLost c = markStab (notice .fault (setMode .fault (setStab gyroCut c))) := by
  have hnone : ∀ f, (markStab (notice .fault (setMode .fault (setStab f c)))).service = none := fun f =>
    have hset : (setStab f c).service = none := (service_of_blocks (blocks_setStab f c)).trans hservice
    (service_of_blocks (blocks_setMode .fault (setStab f c))).trans hset
  unfold gyroLost
  rw [if_pos hlink]
  dsimp only
  rw [hnone]
  rfl

theorem learnTimer_eq {c : Chip} (hmode : c.stab.mode = .starting) (hservice : c.service = none) :
    learnTimer c = notice .stabilizer (setMode (wantedMode (cfg c).stab c.stab.engaged) c) := by
  have hnone : (notice .stabilizer (setMode (wantedMode (cfg c).stab c.stab.engaged) c)).service = none :=
    (service_of_blocks (blocks_setMode _ _)).trans hservice
  unfold learnTimer
  rw [if_pos hmode]
  dsimp only
  rw [hnone]

/-- The data-ready edge begins a read, or marks one. -/
def readAsked (s : Stab) : Stab := if s.reading then { s with marked := true } else { s with reading := true }

theorem readAsked_facts (s : Stab) : (readAsked s).reading = true ∧ (readAsked s).marked = (s.reading || s.marked)
    ∧ (readAsked s).stopWrite = s.stopWrite ∧ (readAsked s).rateAddress = s.rateAddress := by
  unfold readAsked
  split <;> simp_all

/-- The read that a sample ends, with no sample taken. -/
def readDropped (s : Stab) : Stab := { s with reading := s.marked, marked := false, discard := false }

theorem gyroSample_stops (rx ry : Int) {c : Chip} (hreading : c.stab.reading = true) (hstop : c.stab.stopping = .waitRead) :
    gyroSample rx ry c = { c with stab := beginStopWrite (cfg c).stab c.stab } := by
  unfold gyroSample
  rw [if_pos hreading, if_pos hstop]
  exact setStab_quiet rfl rfl rfl

theorem gyroSample_drops (rx ry : Int) {c : Chip} (hreading : c.stab.reading = true) (hstop : c.stab.stopping ≠ .waitRead)
    (hdrop : c.stab.discard = true ∨ c.stab.mode = .fault) : gyroSample rx ry c = { c with stab := readDropped c.stab } := by
  unfold gyroSample
  rw [if_pos hreading, if_neg hstop, if_pos (by rcases hdrop with h | h <;> simp [h])]
  exact setStab_quiet rfl rfl rfl

/-- Settles O56. -/
theorem gyroLink : Obligations.GyroLink := by
  unfold Obligations.GyroLink
  intro s g
  refine ⟨fun w hstarting hleft => ?_, fun w v ws hstarting hleft => ?_, fun hlink hstop => ?_, fun hlink hmode hservice => ?_,
    fun rx ry hreading => ⟨fun hstop => exec_of_commit rfl (gyroSample_stops _ _ hreading hstop),
      fun hstop hdrop => exec_of_commit rfl (gyroSample_drops _ _ hreading hstop hdrop)⟩,
    fun hstop => ?_, fun hmode hservice => ?_, fun hlink => ?_⟩
  · have hdone : gyroConfigWriteDone s.chip = gyroRunning s.chip := by
      have hleft' : s.chip.stab.configLeft = [w] := hleft
      unfold gyroConfigWriteDone
      rw [if_pos hstarting, hleft']
    obtain ⟨hmode, hlink⟩ := setMode_link .starting (setStab linkedStab s.chip)
    rw [linkPart_setStab] at hlink
    exact ⟨_, exec_of_commit rfl hdone, (congrArg Stab.linkRunning hlink :), hmode, (congrArg Stab.starting hlink :),
      (congrArg Stab.fault hlink :), (congrArg Stab.reading hlink :), (congrArg Stab.discard hlink :)⟩
  · have hdone : gyroConfigWriteDone s.chip = setStab (fun s => { s with configLeft := v :: ws }) s.chip := by
      have hleft' : s.chip.stab.configLeft = w :: v :: ws := hleft
      unfold gyroConfigWriteDone
      rw [if_pos hstarting, hleft']
    have hlink := linkPart_setStab (fun s => { s with configLeft := v :: ws }) s.chip
    exact ⟨_, exec_of_commit rfl hdone, (congrArg Stab.configLeft hlink :), (congrArg Stab.starting hlink :).trans hstarting,
      (congrArg Stab.linkRunning hlink :)⟩
  · have hasked : gyroDataReady s.chip = setStab readAsked s.chip :=
      if_pos (by simp [show s.chip.stab.linkRunning = true from hlink, gyroStopping,
        show s.chip.stab.stopping = .none from hstop])
    have hpart := linkPart_setStab readAsked s.chip
    obtain ⟨hreading, hmarked, hwrite, haddress⟩ := readAsked_facts s.chip.stab
    have hreading' : (setStab readAsked s.chip).stab.reading = true := (congrArg Stab.reading hpart :).trans hreading
    refine ⟨_, exec_of_commit rfl hasked, hreading', (congrArg Stab.marked hpart :).trans hmarked, fun hnone => ?_⟩
    have hwrite' : (setStab readAsked s.chip).stab.stopWrite = none := ((congrArg Stab.stopWrite hpart :).trans hwrite).trans hnone
    have haddress' : (setStab readAsked s.chip).stab.rateAddress = g.rateAddress :=
      (congrArg Stab.rateAddress hpart :).trans haddress
    simp only [spiTransaction, hwrite', hreading', haddress', if_true]
  · obtain ⟨hmode', hpart⟩ := setMode_link .fault (setStab gyroCut s.chip)
    rw [linkPart_setStab] at hpart
    refine ⟨_, exec_of_commit rfl (gyroLost_eq hlink hservice), hmode', (congrArg Stab.fault hpart :),
      (congrArg Stab.linkRunning hpart :), (congrArg Stab.marked hpart :), (congrArg Stab.reading hpart :),
      (congrArg Stab.discard hpart :), (congrArg Stab.stopping hpart :), ?_⟩
    have hnotices : (setMode .fault (setStab gyroCut s.chip)).notices = s.chip.notices := by
      rw [setMode_notices, setStab_notices]
    exact (congrArg (fun n : Notices => n.counts.modify 8 (· + 1)) hnotices :)
  · have hdone : gyroStopWriteDone s.chip = setMode .off (setStab (fun s => { s with
        linkRunning := false, stopping := .done, stopWrite := none }) s.chip) := if_pos hstop
    obtain ⟨hmode, hpart⟩ := setMode_link .off (setStab (fun s => { s with
        linkRunning := false, stopping := .done, stopWrite := none }) s.chip)
    rw [linkPart_setStab] at hpart
    exact ⟨_, exec_of_commit rfl hdone, hmode, (congrArg Stab.linkRunning hpart :), (congrArg Stab.stopping hpart :),
      (congrArg Stab.stopWrite hpart :)⟩
  · obtain ⟨hmode', -⟩ := setMode_link (wantedMode (cfg s.chip).stab s.chip.stab.engaged) s.chip
    refine ⟨_, exec_of_commit rfl (learnTimer_eq hmode hservice), hmode', ?_⟩
    exact (congrArg (fun n : Notices => n.counts.modify 4 (· + 1)) (setMode_notices _ s.chip) :)
  · have hramp : rampTimer s.chip = setStab (axes (fun a => { a with
        output := slewToward (cfg s.chip).stab.slew a.output 0 })) s.chip := if_neg (Bool.eq_false_iff.mp hlink)
    obtain ⟨k, hk⟩ := setStab_stab (axes (fun a => { a with
        output := slewToward (cfg s.chip).stab.slew a.output 0 })) s.chip
    have hslew : ∀ (n : Nat) (a : Int), slewToward n a 0
        = if a.natAbs ≤ n then 0 else if a < 0 then a + n else a - n := fun n a => by
      unfold slewToward
      rw [Int.zero_sub, Int.natAbs_neg]
    refine ⟨_, exec_of_commit rfl hramp, ?_, ?_⟩
    · exact (congrArg (fun z : Stab => z.x.output) hk :).trans (hslew _ _)
    · exact (congrArg (fun z : Stab => z.y.output) hk :).trans (hslew _ _)

/-! ### The sample in ACTIVE (R131 to R135) -/

theorem cfg_setStab (f : Stab → Stab) (c : Chip) : cfg (setStab f c) = cfg c :=
  cfg_of_settings (settings_of_blocks (blocks_setStab f c))

/-- What the shake marks leave: all but the window and the shake seen mark. -/
def besideShake (s : Stab) : Stab := { s with window := none, shakeSeen := false, gathered := false }

theorem besideShake_setStab (f : Stab → Stab) (c : Chip) : besideShake (setStab f c).stab = besideShake (f c.stab) := by
  obtain ⟨g, hg⟩ := setStab_stab f c
  rw [hg]
  rfl

theorem besideShake_shakeCheck (c : Chip) : besideShake (shakeCheck c).stab = besideShake c.stab := by
  unfold shakeCheck
  extract_lets q high c1
  have h1 : besideShake c1.stab = besideShake c.stab := besideShake_setStab _ c
  split
  · exact (besideShake_setStab _ c1).trans h1
  · exact h1

/-- The bias of an axis after a sample of rate `r` in ACTIVE. -/
def biased (t : StabSettings) (r : Int) (a : Axis) : Int :=
  if (r * 256 - a.bias).natAbs < t.stillQ then a.bias + (r * 256 - a.bias) / 4096 else a.bias

/-- The Stabilizer once a sample of the rates `x` and `y` is counted and its biases are known. -/
def sampleBiased (t : StabSettings) (x y : Int) (s : Stab) : Stab := { s with
  samples := s.samples + 1,
  x := { s.x with bias := biasStep s.mode t.stillQ x s.x.bias }, y := { s.y with bias := biasStep s.mode t.stillQ y s.y.bias } }

/-- The Stabilizer as steps 4 to 6 of a sample leave it. -/
def sampleShifted (t : StabSettings) (x y : Int) (s : Stab) : Stab := { s with
  x := shiftStep s.mode t s.kx { s.x with angle := angleStep s t x s.x.angle },
  y := shiftStep s.mode t s.ky { s.y with angle := angleStep s t y s.y.angle } }

theorem takeSample_eq (x y : Int) (c : Chip) : takeSample x y c
    = (let t := (cfg c).stab
      let b := setStab (sampleBiased t x y) c
      let p := panTest b.stab t (correctedRate x b.stab.x.bias) (correctedRate y b.stab.y.bias)
      shakeCheck (setStab (sampleShifted t (correctedRate x b.stab.x.bias) (correctedRate y b.stab.y.bias))
        (panChange p.2 (setStab (fun _ => p.1) b)))) := rfl

/-- A pan test below the pan rate in ACTIVE sets the run count to 0. -/
theorem panTest_below {s : Stab} {t : StabSettings} {x y : Int} (hwindow : s.window = none) (hmode : s.mode = .active)
    (hx : x.natAbs ≤ t.panRate) (hy : y.natAbs ≤ t.panRate) : panTest s t x y = ({ s with panRun := 0 }, none) := by
  unfold panTest
  simp only [hwindow, Option.isSome_none, Bool.false_eq_true, if_false]
  rw [hmode]
  simp only [if_neg (show ¬ (t.panRate < x.natAbs ∨ t.panRate < y.natAbs) by omega), Nat.lt_irrefl, false_and, if_false]

theorem biasStep_active (t : StabSettings) (r : Int) (a : Axis) : biasStep .active t.stillQ r a.bias = biased t r a := rfl

/-- Steps 4 to 6 for an axis in ACTIVE with no window open. -/
theorem shiftStep_active {s : Stab} (t : StabSettings) (k : Nat) (r : Int) (a : Axis) (hwindow : s.window = none)
    (hmode : s.mode = .active) :
    shiftStep s.mode t k { a with bias := biased t r a, angle := angleStep s t (correctedRate r (biased t r a)) a.angle }
      = Said.sampledAxis t k r a := by
  have hleak : leakShift s t = t.leak := by simp [leakShift, hwindow, hmode]
  simp only [hmode, shiftStep, angleStep, hleak]
  rfl

/-- A sample in ACTIVE outside a window, with both rates at most the pan rate. -/
theorem takeSample_active {c : Chip} {x y : Int} (hmode : c.stab.mode = .active) (hwindow : c.stab.window = none)
    (hx : (correctedRate x (biased (cfg c).stab x c.stab.x)).natAbs ≤ (cfg c).stab.panRate)
    (hy : (correctedRate y (biased (cfg c).stab y c.stab.y)).natAbs ≤ (cfg c).stab.panRate) : let d := (takeSample x y c).stab
    d.x = Said.sampledAxis (cfg c).stab c.stab.kx x c.stab.x ∧ d.y = Said.sampledAxis (cfg c).stab c.stab.ky y c.stab.y
      ∧ d.samples = c.stab.samples + 1 ∧ d.panRun = 0 ∧ d.mode = .active ∧ d.reading = c.stab.reading
      ∧ d.marked = c.stab.marked := by
  intro d
  obtain ⟨g1, hbiased⟩ := setStab_stab (sampleBiased (cfg c).stab x y) c
  have hbiasX : (setStab (sampleBiased (cfg c).stab x y) c).stab.x = { c.stab.x with bias := biased (cfg c).stab x c.stab.x } := by
    rw [hbiased, ← biasStep_active, ← hmode]
    rfl
  have hbiasY : (setStab (sampleBiased (cfg c).stab x y) c).stab.y = { c.stab.y with bias := biased (cfg c).stab y c.stab.y } := by
    rw [hbiased, ← biasStep_active, ← hmode]
    rfl
  have hpan := panTest_below (s := (setStab (sampleBiased (cfg c).stab x y) c).stab) (t := (cfg c).stab)
    (x := correctedRate x (biased (cfg c).stab x c.stab.x)) (y := correctedRate y (biased (cfg c).stab y c.stab.y))
    (by rw [hbiased]; exact hwindow) (by rw [hbiased]; exact hmode) hx hy
  have hsample := takeSample_eq x y c
  dsimp only at hsample
  rw [hbiasX, hbiasY] at hsample
  dsimp only at hsample
  rw [hpan] at hsample
  obtain ⟨g2, hpanned⟩ := setStab_stab (fun _ => { (setStab (sampleBiased (cfg c).stab x y) c).stab with panRun := 0 })
    (setStab (sampleBiased (cfg c).stab x y) c)
  have hd : besideShake d = besideShake (sampleShifted (cfg c).stab (correctedRate x (biased (cfg c).stab x c.stab.x))
      (correctedRate y (biased (cfg c).stab y c.stab.y))
      { (setStab (sampleBiased (cfg c).stab x y) c).stab with panRun := 0, gathered := g2 }) := by
    show besideShake (takeSample x y c).stab = _
    rw [hsample, besideShake_shakeCheck, besideShake_setStab]
    exact congrArg (fun s => besideShake (sampleShifted (cfg c).stab _ _ s)) hpanned
  rw [hbiased] at hd
  have hshiftX := shiftStep_active (s := { sampleBiased (cfg c).stab x y c.stab with panRun := 0, gathered := g2 }) (cfg c).stab
    c.stab.kx x c.stab.x hwindow hmode
  have hshiftY := shiftStep_active (s := { sampleBiased (cfg c).stab x y c.stab with panRun := 0, gathered := g2 }) (cfg c).stab
    c.stab.ky y c.stab.y hwindow hmode
  refine ⟨(congrArg Stab.x hd :).trans ?_, (congrArg Stab.y hd :).trans ?_, (congrArg Stab.samples hd :),
    (congrArg Stab.panRun hd :), (congrArg Stab.mode hd :).trans hmode, (congrArg Stab.reading hd :), (congrArg Stab.marked hd :)⟩
  · rw [← hshiftX, ← biasStep_active (cfg c).stab x c.stab.x, ← hmode]
    rfl
  · rw [← hshiftY, ← biasStep_active (cfg c).stab y c.stab.y, ← hmode]
    rfl

/-- The read that a sample ends, its pair being one. -/
def readTaken (s : Stab) : Stab := { s with reading := s.marked, marked := false }

theorem gyroSample_takes (x y : Int) {c : Chip} (hreading : c.stab.reading = true) (hdiscard : c.stab.discard = false)
    (hstop : c.stab.stopping = .none) (hmode : c.stab.mode = .active) :
    gyroSample x y c = takeSample x y { c with stab := readTaken c.stab } := by
  unfold gyroSample
  rw [if_pos hreading, if_neg (by simp [hstop]), if_neg (by simp [hdiscard, hmode])]
  exact congrArg (takeSample x y) (setStab_quiet rfl rfl rfl)

/-- Settles O57. -/
theorem gyroSample : Obligations.GyroSample := by
  unfold Obligations.GyroSample
  intro rx ry s hreading hdiscard hstop hmode hwindow t corrected hx hy
  obtain ⟨hX, hY, hsamples, hpan, hmode', hread, hmarked⟩ := takeSample_active (x := Said.rate rx) (y := Said.rate ry)
    (c := { s.chip with stab := readTaken s.chip.stab }) hmode hwindow hx hy
  exact ⟨_, exec_of_commit rfl (gyroSample_takes _ _ hreading hdiscard hstop hmode), hX, hY, hsamples, hpan, hmode', hread, hmarked⟩

end Sys2Proof.Proofs.Stabilizer
end

section
/-! PROOFS. The arithmetic of the Exposure Unit (Chapter 7): metering, the program line walk, the flicker snap and the bound. -/

namespace Sys2Proof.Proofs.MeteringArithmetic

-- One elaboration thread at a time: each waiting thread reserves a stack, and the text is long.
set_option Elab.async false

open Sys2Proof Sys2Proof.Machine

/-! ### The program line walk (R115) -/

/-- A component that takes no more than its headroom adds to the index what it takes. -/
theorem indexOf_applyTake {n : Nat} {t : Triple} {l : Limits} {k : Component} (h : n ≤ headroom l t k) :
    indexOf (applyTake n t k) = indexOf t + n := by
  cases k with
  | shutter | gain =>
    simp only [indexOf, applyTake]
    omega
  | aperture =>
    have hroom : n ≤ t.xa - l.xaMin := h
    simp only [indexOf, applyTake]
    omega

theorem applyTake_flags (n : Nat) (t : Triple) (k : Component) : (applyTake n t k).limited = t.limited
    ∧ (applyTake n t k).exactTime = t.exactTime := by
  cases k <;> exact ⟨rfl, rfl⟩

/-- The walk spends what it does not leave, and keeps the flags. -/
theorem walkEntries_spends (l : Limits) (t : Triple) (n : Nat) (es : List ProgramEntry) : let w := walkEntries l t n es
    indexOf w.1 + w.2 = indexOf t + n ∧ w.1.limited = t.limited ∧ w.1.exactTime = t.exactTime := by
  induction es generalizing t n with
  | nil => exact ⟨rfl, rfl, rfl⟩
  | cons e es ih =>
    have htake : min (min e.span (headroom l t e.component)) n ≤ headroom l t e.component :=
      Nat.le_trans (Nat.min_le_left _ _) (Nat.min_le_right _ _)
    have hleft : min (min e.span (headroom l t e.component)) n ≤ n := Nat.min_le_right _ _
    have hindex := indexOf_applyTake htake
    obtain ⟨hlimited, hexact⟩ := applyTake_flags (min (min e.span (headroom l t e.component)) n) t e.component
    obtain ⟨hspent, hlimited', hexact'⟩ := ih (applyTake (min (min e.span (headroom l t e.component)) n) t e.component)
      (n - min (min e.span (headroom l t e.component)) n)
    refine ⟨?_, hlimited'.trans hlimited, hexact'.trans hexact⟩
    rw [hindex] at hspent
    show indexOf (walkEntries l (applyTake _ t e.component) _ es).1 + ((walkEntries l (applyTake _ t e.component) _ es).2 : Int) = _
    rw [hspent]
    omega

theorem programLineWalk : Said.ProgramLineWalk := by
  unfold Said.ProgramLineWalk
  intro l program wanted base index r
  have hbelow : wanted < index base → r = ({ base with limited := true }, .brightLimit) := fun h => if_pos h
  have habove : index base ≤ wanted → r = if (walkEntries l base (wanted - index base).toNat program).2 = 0
      then ((walkEntries l base (wanted - index base).toNat program).1, .none)
      else ({ (walkEntries l base (wanted - index base).toNat program).1 with limited := true }, .darkLimit) :=
    fun h => if_neg (Int.not_lt.mpr h)
  obtain ⟨hspent, hlimited, hexact⟩ := walkEntries_spends l base (wanted - index base).toNat program
  have hindex : ∀ t, indexOf t = index t := fun _ => rfl
  rw [hindex, hindex] at hspent
  refine ⟨hbelow, habove, fun t n => ⟨rfl, fun e es => ?_⟩, ?_⟩
  · cases hk : e.component <;> simp only [walkEntries, hk] <;> rfl
  rcases Int.lt_or_le wanted (index base) with h | h
  · rw [hbelow h]
    exact ⟨fun hnone => absurd hnone (by simp), fun hdark => absurd hdark (by simp), rfl⟩
  · rw [habove h]
    split
    next hall =>
      refine ⟨fun _ => ⟨?_, hlimited⟩, fun hdark => absurd hdark (by simp), hexact⟩
      show index (walkEntries l base (wanted - index base).toNat program).1 = wanted
      omega
    next hsome =>
      refine ⟨fun hnone => absurd hnone (by simp), fun _ => ?_, hexact⟩
      show index (walkEntries l base (wanted - index base).toNat program).1 < wanted
      omega

/-! ### The flicker snap (R116) -/

/-- The largest Xt of the entries that is at most `xt`. -/
theorem largestAtMost_spec {xt best : Nat} (es : List SafeEntry) (hbest : best ≤ xt) : let x := largestAtMost xt best es
    best ≤ x ∧ x ≤ xt ∧ (x = best ∨ ∃ e ∈ es, e.xt = x) ∧ ∀ e ∈ es, e.xt ≤ xt → e.xt ≤ x := by
  induction es generalizing best with
  | nil => exact ⟨Nat.le_refl _, hbest, .inl rfl, by simp⟩
  | cons e es ih =>
    have hnext : (if e.xt ≤ xt ∧ best ≤ e.xt then e.xt else best) ≤ xt := by
      split
      next h => exact h.1
      next => exact hbest
    obtain ⟨hle, hxt, hfound, hgreatest⟩ := ih hnext
    have hstep : best ≤ (if e.xt ≤ xt ∧ best ≤ e.xt then e.xt else best)
        ∧ (e.xt ≤ xt → e.xt ≤ (if e.xt ≤ xt ∧ best ≤ e.xt then e.xt else best)) := by
      split <;> omega
    refine ⟨Nat.le_trans hstep.1 hle, hxt, ?_, fun y hy hyt => ?_⟩
    · rcases hfound with heq | ⟨y, hy, heq⟩
      · have hx : largestAtMost xt best (e :: es) = if e.xt ≤ xt ∧ best ≤ e.xt then e.xt else best := heq
        by_cases htakes : e.xt ≤ xt ∧ best ≤ e.xt
        · exact .inr ⟨e, by simp, (hx.trans (if_pos htakes)).symm⟩
        · exact .inl (hx.trans (if_neg htakes))
      · exact .inr ⟨y, List.mem_cons_of_mem _ hy, heq⟩
    · rcases List.mem_cons.mp hy with rfl | hy
      · exact Nat.le_trans (hstep.2 hyt) hle
      · exact hgreatest y hy hyt

theorem flickerSnap : Said.FlickerSnap := by
  unfold Said.FlickerSnap
  intro l safe t usable
  refine ⟨fun hnone => ?_, fun first rest husable => ⟨fun hbelow => ?_, fun habove => ?_⟩⟩
  · have hnone' : safe.filter (fun e => l.xtLo ≤ e.xt) = [] := hnone
    simp only [snap, hnone']
  · have husable' : safe.filter (fun e => l.xtLo ≤ e.xt) = first :: rest := husable
    simp only [snap, husable', if_pos hbelow]
  · have husable' : safe.filter (fun e => l.xtLo ≤ e.xt) = first :: rest := husable
    obtain ⟨-, hle, hfound, hgreatest⟩ := largestAtMost_spec (first :: rest) habove
    have hmem : ∃ e ∈ first :: rest, e.xt = largestAtMost t.xt first.xt (first :: rest) := by
      rcases hfound with heq | hmem
      · exact ⟨first, by simp, heq.symm⟩
      · exact hmem
    have hfind : ∃ e, (first :: rest).find? (fun e => e.xt == largestAtMost t.xt first.xt (first :: rest)) = some e := by
      obtain ⟨e, he, heq⟩ := hmem
      exact Option.isSome_iff_exists.mp (List.find?_isSome.mpr ⟨e, he, by simpa using heq⟩)
    obtain ⟨e, he⟩ := hfind
    obtain ⟨hxt, before, after, hsplit, hbefore⟩ := List.find?_eq_some_iff_append.mp he
    have hxt' : e.xt = largestAtMost t.xt first.xt (first :: rest) := by simpa using hxt
    refine ⟨before, e, after, husable.trans hsplit, by rw [hxt']; exact hle, fun x hx heq => ?_, fun x hx hxle => ?_, ?_⟩
    · have hnot := hbefore x hx
      rw [heq, hxt'] at hnot
      simp at hnot
    · rw [hxt']
      exact hgreatest x (husable ▸ hx) hxle
    · rw [hxt']
      simp only [snap, husable', if_neg (Nat.not_lt.mpr habove), he]
      rfl

/-! ### The bound (R118) -/

/-- Xa is raised to its limit, and the gain makes it up. -/
def boundRaised (l : Limits) (t : Triple) : Triple :=
  let up := l.xaMin - t.xa
  { t with xa := t.xa + up, xg := if up = 0 then t.xg else min l.xgMax (t.xg + up),
           shortfall := t.shortfall || (0 < up && l.xgMax < t.xg + up) }

/-- In AUTO Xt is lowered to its limit, and the gain makes it up. -/
def boundLowered (l : Limits) (auto : Bool) (t : Triple) : Triple :=
  let down := t.xt - l.xtMax
  if auto && 0 < down then
    { t with xt := l.xtMax, exactTime := none, xg := min l.xgMax (t.xg + down), shortfall := t.shortfall || l.xgMax < t.xg + down }
  else t

/-- The components are held to what the limits allow in any mode. -/
def boundHeld (l : Limits) (t : Triple) : Triple :=
  { t with xt := clampNat t.xt l.xtLo l.xtFrame, xg := min t.xg l.xgMax, xa := min t.xa l.xaHi }

theorem boundTriple_eq (l : Limits) (auto : Bool) (t : Triple) :
    boundTriple l auto t = boundHeld l (boundLowered l auto (boundRaised l t)) := rfl

theorem boundRaised_same {l : Limits} {t : Triple} (h : l.xaMin ≤ t.xa) : boundRaised l t = t := by
  simp [boundRaised, Nat.sub_eq_zero_of_le h]

theorem boundRaised_up {l : Limits} {t : Triple} (h : t.xa < l.xaMin) : boundRaised l t = { t with
    xa := l.xaMin, xg := min l.xgMax (t.xg + (l.xaMin - t.xa)),
    shortfall := t.shortfall || l.xgMax < t.xg + (l.xaMin - t.xa) } := by
  have hup : 0 < l.xaMin - t.xa := Nat.sub_pos_of_lt h
  have hraised : t.xa + (l.xaMin - t.xa) = l.xaMin := Nat.add_sub_cancel' (Nat.le_of_lt h)
  simp only [boundRaised, if_neg (Nat.ne_of_gt hup), hraised, decide_eq_true hup, Bool.true_and]

theorem boundLowered_same {l : Limits} {auto : Bool} {t : Triple} (h : auto = true → t.xt ≤ l.xtMax) :
    boundLowered l auto t = t := by
  refine if_neg ?_
  rw [Bool.and_eq_true, decide_eq_true_eq]
  rintro ⟨hauto, hdown⟩
  have := h hauto
  omega

theorem boundLowered_down {l : Limits} {t : Triple} (h : l.xtMax < t.xt) : boundLowered l true t = { t with
    xt := l.xtMax, exactTime := none, xg := min l.xgMax (t.xg + (t.xt - l.xtMax)),
    shortfall := t.shortfall || l.xgMax < t.xg + (t.xt - l.xtMax) } :=
  if_pos (decide_eq_true (Nat.sub_pos_of_lt h))

theorem boundHeld_same {l : Limits} {t : Triple} (hlo : l.xtLo ≤ t.xt) (hframe : t.xt ≤ l.xtFrame) (hxg : t.xg ≤ l.xgMax)
    (hxa : t.xa ≤ l.xaHi) : boundHeld l t = t := by
  have hclamp : clampNat t.xt l.xtLo l.xtFrame = t.xt := by
    rw [clampNat, Nat.min_eq_left hframe, Nat.max_eq_right hlo]
  simp only [boundHeld, hclamp, Nat.min_eq_left hxg, Nat.min_eq_left hxa]

theorem boundLowered_within (l : Limits) (auto : Bool) (t : Triple) : let r := boundLowered l auto t
    (auto = true → r.xt ≤ l.xtMax) ∧ r.xa = t.xa ∧ r.limited = t.limited ∧ r.deficit = t.deficit := by
  dsimp only
  by_cases h : auto = true ∧ l.xtMax < t.xt
  · obtain ⟨rfl, hdown⟩ := h
    rw [boundLowered_down hdown]
    exact ⟨fun _ => Nat.le_refl _, rfl, rfl, rfl⟩
  · rw [boundLowered_same fun hauto => Nat.not_lt.mp fun hdown => h ⟨hauto, hdown⟩]
    exact ⟨fun hauto => Nat.not_lt.mp fun hdown => h ⟨hauto, hdown⟩, rfl, rfl, rfl⟩

theorem bound : Said.Bound := by
  unfold Said.Bound
  intro l auto t hlo hframe hxa r inside
  refine ⟨fun ⟨hxt, hxt', hxa'⟩ hxg hmin hauto => ?_, fun ⟨hxt, hxt', hxa'⟩ hmin hauto => ?_,
    fun ⟨hxt, hxt', hxa'⟩ hmin hauto hmax => ?_, ?_⟩
  · show boundTriple l auto t = t
    rw [boundTriple_eq, boundRaised_same hmin, boundLowered_same hauto, boundHeld_same hxt hxt' hxg hxa']
  · show boundTriple l auto t = _
    rw [boundTriple_eq, boundRaised_up hmin, boundLowered_same (by exact hauto)]
    exact boundHeld_same hxt hxt' (Nat.min_le_left _ _) hxa
  · show boundTriple l auto t = _
    rw [boundTriple_eq, boundRaised_same hmin, hauto, boundLowered_down hmax]
    exact boundHeld_same hlo hframe (Nat.min_le_left _ _) hxa'
  · obtain ⟨hmax, hkept, hlimited, hdeficit⟩ := boundLowered_within l auto (boundRaised l t)
    have hraised : l.xaMin ≤ (boundRaised l t).xa := by
      show l.xaMin ≤ t.xa + (l.xaMin - t.xa)
      omega
    rw [← hkept] at hraised
    refine ⟨Nat.le_max_left _ _, ?_, Nat.min_le_right _ _, Nat.le_min.mpr ⟨hraised, hxa⟩, Nat.min_le_right _ _, fun hauto => ?_,
      hlimited, hdeficit⟩
    · exact Nat.max_le.mpr ⟨Nat.le_trans hlo hframe, Nat.min_le_right _ _⟩
    · exact Nat.max_le.mpr ⟨hlo, Nat.le_trans (Nat.min_le_left _ _) (hmax hauto)⟩

/-! ### Metering (R112, R113) -/

/-- In a list in order, the entries up to a value come first. -/
theorem filter_le_sorted {l : List Nat} (hsorted : l.Pairwise (· ≤ ·)) (m : Nat) {i : Nat} (hi : i < l.length) :
    l.getD i 0 ≤ m ↔ i < (l.filter (· ≤ m)).length := by
  induction l generalizing i with
  | nil => simp at hi
  | cons a as ih =>
    obtain ⟨hfirst, hrest⟩ := List.pairwise_cons.mp hsorted
    by_cases ha : a ≤ m
    · rw [List.filter_cons_of_pos (by simpa using ha)]
      cases i with
      | zero => simp [ha]
      | succ i =>
        simp only [List.getD_cons_succ, List.length_cons, Nat.add_lt_add_iff_right]
        exact ih hrest (by simpa using hi)
    · have hnone : (a :: as).filter (· ≤ m) = [] := by
        rw [List.filter_eq_nil_iff]
        intro b hb
        rcases List.mem_cons.mp hb with rfl | hb
        · simpa using ha
        · have := hfirst b hb
          simp only [decide_eq_true_eq]
          omega
      rw [hnone]
      refine iff_of_false (fun hle => ha ?_) (by simp)
      cases i with
      | zero => exact hle
      | succ i =>
        have hi' : i < as.length := by simpa using hi
        have hmem : as.getD i 0 ∈ as := by
          rw [← List.getElem_eq_getD (h := hi') 0]
          exact List.getElem_mem hi'
        exact Nat.le_trans (hfirst _ hmem) hle

theorem fracTable_sorted : fracTable.Pairwise (· ≤ ·) := by decide

/-- The index of a value of at least 65536 is the largest with an entry up to it. -/
theorem fracIndex_spec {m : Nat} (h : 65536 ≤ m) : fracIndex m < 16 ∧ frac (fracIndex m) ≤ m
    ∧ ∀ i < 16, frac i ≤ m → i ≤ fracIndex m := by
  have hlength : fracTable.length = 16 := rfl
  have hcount := fun i (hi : i < 16) => filter_le_sorted fracTable_sorted m (i := i) (by rw [hlength]; exact hi)
  have hpos : 0 < (fracTable.filter (· ≤ m)).length := (hcount 0 (by decide)).mp h
  have hmost : (fracTable.filter (· ≤ m)).length ≤ 16 := List.length_filter_le _ _
  have hindex : fracIndex m = (fracTable.filter (· ≤ m)).length - 1 := rfl
  have hlt : fracIndex m < 16 := by omega
  refine ⟨hlt, (hcount _ hlt).mpr (by omega), fun i hi hle => ?_⟩
  have := (hcount i hi).mp hle
  omega

/-- Stage 1 for a mean between 2ⁿ and 2ⁿ⁺¹. -/
theorem logValue_spec {y n : Nat} (hy : y < 4096) (hlt : max y 1 < 2 ^ (n + 1)) (hle : 2 ^ n ≤ max y 1) :
    let m := max y 1 * 2 ^ (16 - n)
    65536 ≤ m ∧ m < 131072 ∧ n ≤ 11 ∧ logValue y ≤ 191
      ∧ ∃ j < 16, frac j ≤ m ∧ (∀ i < 16, frac i ≤ m → i ≤ j) ∧ logValue y = 16 * n + j := by
  intro m
  have hn : n ≤ 11 := by
    refine Nat.le_of_not_lt fun hbig => ?_
    have hpow : 2 ^ 12 ≤ 2 ^ n := Nat.pow_le_pow_right (by decide) (by omega)
    have : max y 1 < 4096 := by omega
    omega
  have hsplit : 2 ^ n * 2 ^ (16 - n) = 65536 := by
    rw [← Nat.pow_add, Nat.add_sub_cancel' (by omega : n ≤ 16)]
  have hlow : 65536 ≤ m := by
    rw [← hsplit]
    exact Nat.mul_le_mul_right _ hle
  have hhigh : m < 131072 := by
    have hdouble : 2 ^ (n + 1) * 2 ^ (16 - n) = 131072 := by
      rw [Nat.pow_succ, Nat.mul_right_comm, hsplit]
    rw [← hdouble]
    exact Nat.mul_lt_mul_of_pos_right hlt (Nat.pow_pos (by decide))
  have hlog : Nat.log2 (max y 1) = n := (Nat.log2_eq_iff (by omega)).mpr ⟨hle, hlt⟩
  have hvalue : logValue y = 16 * n + fracIndex m := by
    show 16 * Nat.log2 (max y 1) + fracIndex (max y 1 * 2 ^ (16 - Nat.log2 (max y 1))) = _
    rw [hlog]
  obtain ⟨hj, hfrac, hgreatest⟩ := fracIndex_spec hlow
  exact ⟨hlow, hhigh, hn, by omega, fracIndex m, hj, hfrac, hgreatest, hvalue⟩

theorem logValue_le {y : Nat} (hy : y < 4096) : logValue y ≤ 191 := by
  have hpos : max y 1 ≠ 0 := by omega
  obtain ⟨hle, hlt⟩ := (Nat.log2_eq_iff hpos).mp rfl
  obtain ⟨-, -, -, hvalue, -⟩ := logValue_spec hy hlt hle
  exact hvalue

theorem sumOf_eq (l : List Nat) : sumOf l = l.sum := by
  induction l with
  | nil => rfl
  | cons x xs ih => simp [sumOf, ih]

/-- A weighted sum of log values is at most 191 times the weights. -/
theorem weightedSum_le {weights means : List Nat} (h : ∀ y ∈ means, y < 4096) :
    (List.zipWith (fun w y => w * logValue y) weights means).sum ≤ weights.sum * 191 := by
  induction weights generalizing means with
  | nil => simp
  | cons w ws ih =>
    cases means with
    | nil => simp
    | cons y ys =>
      have hrest := ih fun z hz => h z (List.mem_cons_of_mem _ hz)
      have hfirst : w * logValue y ≤ w * 191 := Nat.mul_le_mul_left _ (logValue_le (h y (by simp)))
      simp only [List.zipWith_cons_cons, List.sum_cons, Nat.add_mul]
      omega

theorem meter_spec (s : MeterSettings) (c x : Int) (frame : Word) (means : List Nat) : let g := meter s c x frame means
    g.m = ((List.zipWith (fun w y => w * logValue y) s.weights means).sum + s.weights.sum / 2) / s.weights.sum
      ∧ ((∀ y ∈ means, y < 4096) → 0 < s.weights.sum → g.m ≤ 191)
      ∧ g.k = ((List.zip s.weights means).filter (fun p => 0 < p.1 && 4032 ≤ p.2)).length
      ∧ g.mEff = g.m + min (max ((g.k : Int) - s.clip) 0).toNat 32
      ∧ g.e = max (-192) (min (((s.target : Int) + c) - g.mEff) 192)
      ∧ g.b = (g.m : Int) - x + s.k0 := by
  intro g
  have hm : g.m = ((List.zipWith (fun w y => w * logValue y) s.weights means).sum + s.weights.sum / 2) / s.weights.sum := by
    show weightedMean s.weights means = _
    simp only [weightedMean, sumOf_eq]
  refine ⟨hm, fun hmeans hweights => ?_, rfl, ?_, rfl, rfl⟩
  · have hsum := weightedSum_le (weights := s.weights) hmeans
    have hhalf : s.weights.sum / 2 < s.weights.sum := Nat.div_lt_self hweights (by decide)
    rw [hm]
    refine Nat.le_of_lt_succ ((Nat.div_lt_iff_lt_mul hweights).mpr ?_)
    rw [Nat.mul_comm] at hsum
    omega
  · show g.m + min (g.k - s.clip) 32 = _
    omega

/-- Settles O53. -/
theorem meteringStages : Obligations.MeteringStages :=
  ⟨programLineWalk, flickerSnap, bound, rfl, fun _ _ hy hlt hle => logValue_spec hy hlt hle, meter_spec⟩

end Sys2Proof.Proofs.MeteringArithmetic
end

section
/-! PROOFS. The button lines and the focus wait (R143, R147). -/

namespace Sys2Proof.Proofs.Buttons

-- One elaboration thread at a time: each waiting thread reserves a stack, and the text is long.
set_option Elab.async false

open Sys2Proof Sys2Proof.Machine Sys2Proof.Proofs.Part Sys2Proof.Proofs.SensorLimits Sys2Proof.Proofs.Requests
open Sys2Proof.Proofs.StoreRequests Sys2Proof.Proofs.CaptureRequests Sys2Proof.Proofs.SearchRequests

/-! ### The lines -/

/-- Where nothing shown changes, setting fields of Capture Control marks nothing. -/
theorem setCapture_quiet {f : Capture → Capture} {c : Chip} (h : captureShown (f c.capture) = captureShown c.capture) :
    setCapture f c = { c with capture := f c.capture } := if_pos h

/-- The two lines. -/
def lines (k : Capture) : Line × Line := (k.s1, k.s2)

/-- A press that is acted on leaves the lines. -/
theorem evalPress_lines (h f : Bool) (c : Chip) : lines (evalPress h f c).capture = lines c.capture := by
  have hburst : (beginBurst c).capture.s1 = c.capture.s1 ∧ (beginBurst c).capture.s2 = c.capture.s2 := by
    rw [beginBurst_capture, burstTaken, setCapture_capture]
    exact ⟨rfl, rfl⟩
  have hleave : (leaveBurst c).capture.s1 = c.capture.s1 ∧ (leaveBurst c).capture.s2 = c.capture.s2 := by
    rw [leaveBurst_capture]
    exact ⟨rfl, rfl⟩
  unfold evalPress lines
  dsimp only
  (repeat' split) <;> simp [hburst, hleave, setBurst]

/-- The line as its raw level becomes its qualified level. -/
def qualified (l : Line) : Line := { l with timing := false, pressed := l.raw }

/-- A level that is taken is that of its line alone. -/
theorem takeLevel_lines (b : Button) (c : Chip) : lines (takeLevel b c).capture
    = lines (setLine b (qualified (lineOf b c.capture)) c.capture) := by
  unfold takeLevel changePress
  rw [evalPress_lines, setCapture_capture]
  dsimp only
  split <;> rfl

theorem buttonChange_starts {b : Button} {pressed : Bool} {c : Chip} (hraw : (lineOf b c.capture).raw ≠ pressed)
    (hpressed : pressed ≠ (lineOf b c.capture).pressed) (hqualification : (cfg c).capture.qualification ≠ 0) :
    buttonChange b pressed c
      = setCapture (setLine b { lineOf b c.capture with raw := pressed, timing := true }) c := by
  unfold buttonChange
  dsimp only
  rw [if_neg hraw, if_neg hpressed, if_neg hqualification]

theorem buttonChange_stops {b : Button} {pressed : Bool} {c : Chip} (hraw : (lineOf b c.capture).raw ≠ pressed)
    (hpressed : pressed = (lineOf b c.capture).pressed) : buttonChange b pressed c
      = setCapture (setLine b { lineOf b c.capture with raw := pressed, timing := false }) c := by
  unfold buttonChange
  dsimp only
  rw [if_neg hraw, if_pos hpressed]

theorem buttonChange_qualifies {b : Button} {pressed : Bool} {c : Chip} (hraw : (lineOf b c.capture).raw ≠ pressed)
    (hpressed : pressed ≠ (lineOf b c.capture).pressed) (hqualification : (cfg c).capture.qualification = 0) :
    lines (buttonChange b pressed c).capture
      = lines (setLine b { raw := pressed, timing := false, pressed := pressed } c.capture) := by
  unfold buttonChange
  dsimp only
  rw [if_neg hraw, if_neg hpressed, if_pos hqualification, takeLevel_lines, setCapture_capture]
  cases b <;> rfl

theorem qualificationTimer_qualifies {b : Button} {c : Chip} (h : (lineOf b c.capture).timing = true) :
    lines (qualificationTimer b c).capture = lines (setLine b (qualified (lineOf b c.capture)) c.capture) := by
  unfold qualificationTimer
  rw [if_pos h]
  exact takeLevel_lines b c

/-! ### The end of a search for a capture (R147) -/

/-- A search that ends early is over. -/
theorem endEarly_over (o : ReqOutcome) (d : Detail) (c : Chip) : (endEarly o d c).search.phase = .none := by
  unfold endEarly
  split
  · obtain ⟨hview, -, -⟩ := endSearchRequest_closed o d false (leaveSearchMode false c)
    obtain ⟨due, last, hretarget⟩ := searchView_retarget (endSearchRequest o d (closeSearch false (leaveSearchMode false c)))
    have hsearch := congrArg (fun v => v.1.phase) hretarget
    have hphase := congrArg (fun v => v.1.phase) hview
    exact hsearch.trans hphase
  next h => simpa [searching] using h

theorem enterWaitFrame_facts (u : Bool) (c : Chip) : (enterWaitFrame u c).capture.state = .waitFrame
    ∧ (enterWaitFrame u c).capture.burst.unconfirmed = (c.capture.burst.unconfirmed || u)
    ∧ (enterWaitFrame u c).capture.burst.rate.isSome = true ∧ (enterWaitFrame u c).search = c.search := by
  unfold enterWaitFrame
  extract_lets need
  rw [setCapture_capture]
  exact ⟨rfl, rfl, rfl, search_of_blocks (blocks_setCapture _ c)⟩

/-- Settles O58. -/
theorem buttonsAndFocusWait : Obligations.ButtonsAndFocusWait := by
  unfold Obligations.ButtonsAndFocusWait
  refine fun pressed s => ⟨fun hraw hpressed hq => ?_, fun hraw hpressed hq => ?_, fun hraw hpressed => ?_,
    fun hraw hpressed => ?_, fun hraw hpressed hq => ?_, fun hraw hpressed hq => ?_, fun htiming => ?_, fun htiming => ?_,
    fun hwait => ?_⟩
  · exact exec_of_commit rfl ((buttonChange_starts (b := .s1) hraw hpressed hq).trans (setCapture_quiet rfl))
  · exact exec_of_commit rfl ((buttonChange_starts (b := .s2) hraw hpressed hq).trans (setCapture_quiet rfl))
  · exact exec_of_commit rfl ((buttonChange_stops (b := .s1) hraw hpressed).trans (setCapture_quiet rfl))
  · exact exec_of_commit rfl ((buttonChange_stops (b := .s2) hraw hpressed).trans (setCapture_quiet rfl))
  · have hlines := buttonChange_qualifies (b := .s1) hraw hpressed hq
    exact ⟨_, exec_of_commit rfl rfl, congrArg Prod.fst hlines, congrArg Prod.snd hlines⟩
  · have hlines := buttonChange_qualifies (b := .s2) hraw hpressed hq
    exact ⟨_, exec_of_commit rfl rfl, congrArg Prod.snd hlines, congrArg Prod.fst hlines⟩
  · have hlines := qualificationTimer_qualifies (b := .s1) htiming
    exact ⟨_, exec_of_commit rfl rfl, congrArg (fun p => p.1.timing) hlines, congrArg (fun p => p.1.pressed) hlines⟩
  · have hlines := qualificationTimer_qualifies (b := .s2) htiming
    exact ⟨_, exec_of_commit rfl rfl, congrArg (fun p => p.2.timing) hlines, congrArg (fun p => p.2.pressed) hlines⟩
  · obtain ⟨hstate, hunconfirmed, hrate, hsearch⟩ := enterWaitFrame_facts true (endEarly .abandoned .cutByCapture s.chip)
    refine ⟨_, exec_of_commit rfl (if_pos hwait), hstate, ?_, hrate, ?_⟩
    · exact hunconfirmed.trans (Bool.or_true _)
    · exact (congrArg Search.phase hsearch).trans (endEarly_over _ _ _)

end Sys2Proof.Proofs.Buttons
end

section
/-! PROOFS. The card link (R162 to R166): detection, initialisation, and the end of a run. -/

namespace Sys2Proof.Proofs.CardLink

-- One elaboration thread at a time: each waiting thread reserves a stack, and the text is long.
set_option Elab.async false

open Sys2Proof Sys2Proof.Machine Sys2Proof.Proofs.Part Sys2Proof.Proofs.SensorLimits Sys2Proof.Proofs.Requests
open Sys2Proof.Proofs.StoreRequests Sys2Proof.Proofs.ZoomEvents

/-! ### What the card's operations set and leave -/

/-- A change of the card that no field of the record STORE shows. -/
theorem setCard_unshown {f : Card → Card} {c : Chip} (hstate : (f c.card).state = c.card.state)
    (hfault : (f c.card).fault = c.card.fault) (hcapacity : (f c.card).capacity = c.card.capacity) :
    setCard f c = { c with card := f c.card } := by
  refine if_pos ?_
  simp [storeShown, hstate, hfault, hcapacity]

theorem enterCard_card (k : CardState) (f : Card → Card) (c : Chip) : (enterCard k f c).card = { f c.card with state := k } :=
  card_of_blocks (blocks_enterCard k f c)
theorem enterCard_store (k : CardState) (f : Card → Card) (c : Chip) : (enterCard k f c).store = c.store :=
  store_of_blocks (blocks_enterCard k f c)
theorem enterCard_slots (k : CardState) (f : Card → Card) (c : Chip) : (enterCard k f c).slots = c.slots :=
  slots_of_blocks (blocks_enterCard k f c)

theorem setCard_notices (f : Card → Card) (c : Chip) : (setCard f c).notices = c.notices := by
  unfold setCard markStore
  split <;> rfl

theorem setStore_notices (f : Store → Store) (c : Chip) : (setStore f c).notices = c.notices := by
  unfold setStore markStore
  split <;> rfl

theorem enterCard_notices {k : CardState} (f : Card → Card) {c : Chip} (h : c.card.state ≠ k) :
    (enterCard k f c).notices.counts = c.notices.counts.modify 6 (· + 1) := by
  have hset : (setCard (fun x => { f x with state := k }) c).notices = c.notices := setCard_notices _ c
  unfold enterCard
  simp only [if_neg h]
  exact congrArg (fun n => n.counts.modify 6 (· + 1)) hset

theorem count_rest (k : CounterId) (c : Chip) : (count k c).store = c.store ∧ (count k c).card = c.card
    ∧ (count k c).slots = c.slots := by
  unfold count
  extract_lets v c1
  (repeat' split) <;> exact ⟨rfl, rfl, rfl⟩

theorem setSlot_notices (n : Nat) (p : PictureRecord) (c : Chip) : (setSlot n p c).notices = c.notices := by
  unfold setSlot
  extract_lets c1
  split <;> rfl

theorem setSlot_wear (n : Nat) (p : PictureRecord) (c : Chip) : (setSlot n p c).wear = c.wear :=
  wear_of_blocks (blocks_setSlot n p c)

theorem setStore_wear (f : Store → Store) (c : Chip) : (setStore f c).wear = c.wear :=
  wear_of_blocks (blocks_setStore f c)

theorem applyFreeing_keeps (n : Nat) (c : Chip) : (applyFreeing n c).store = c.store ∧ (applyFreeing n c).card = c.card
    ∧ (applyFreeing n c).notices = c.notices ∧ (applyFreeing n c).wear = c.wear := by
  unfold applyFreeing
  split
  · exact ⟨setSlot_store _ _ c, setSlot_card _ _ c, setSlot_notices _ _ c, setSlot_wear _ _ c⟩
  · exact ⟨rfl, rfl, rfl, rfl⟩

/-! ### The end of a picture in progress -/

theorem clearPicture_store (c : Chip) : (clearPicture c).store = { c.store with picture := none } := by
  unfold clearPicture
  split
  next h => rw [← h]
  next => split <;> exact setStore_store (fun s => { s with picture := none }) c

theorem clearPicture_rest (c : Chip) : (clearPicture c).card = c.card ∧ (clearPicture c).slots = c.slots
    ∧ (clearPicture c).notices = c.notices ∧ (clearPicture c).wear = c.wear := by
  unfold clearPicture
  split
  next => exact ⟨rfl, rfl, rfl, rfl⟩
  next =>
    have hset : ∀ f, (setStore f c).card = c.card ∧ (setStore f c).slots = c.slots
        ∧ (setStore f c).notices = c.notices ∧ (setStore f c).wear = c.wear := fun f =>
      ⟨setStore_card f c, setStore_slots f c, setStore_notices f c, setStore_wear f c⟩
    split <;> exact hset fun s => { s with picture := none }

/-- What the end of a picture leaves of store, card, notices and wear. -/
theorem endPicture_rest (n : Nat) (f : PictureRecord → PictureRecord) (c : Chip) :
    (endPicture n f c).store = { c.store with picture := none } ∧ (endPicture n f c).card = c.card
      ∧ (endPicture n f c).notices.counts = c.notices.counts.modify 6 (· + 1) ∧ (endPicture n f c).wear = c.wear := by
  obtain ⟨hstore, hcard, hnotices, hwear⟩ := applyFreeing_keeps n (setSlot n (f (slot c n)) c)
  have hclear := clearPicture_rest (notice .store (applyFreeing n (setSlot n (f (slot c n)) c)))
  obtain ⟨hcard', -, hnotices', hwear'⟩ := hclear
  refine ⟨?_, hcard'.trans (hcard.trans (setSlot_card n _ c)), ?_, hwear'.trans (hwear.trans (setSlot_wear n _ c))⟩
  · refine (clearPicture_store _).trans ?_
    show { (applyFreeing n (setSlot n (f (slot c n)) c)).store with picture := none } = _
    rw [hstore, setSlot_store]
  · refine (congrArg (·.counts) hnotices').trans ?_
    exact congrArg (fun x => x.counts.modify 6 (· + 1)) (hnotices.trans (setSlot_notices n _ c))

/-- The slot of a picture that has ended, the freeing rule applied to it. -/
theorem slot_endPicture {n : Nat} (f : PictureRecord → PictureRecord) {c : Chip} (hn : n < c.slots.length) :
    slot (endPicture n f c) n = freedBy (c.capture.releases.getD n 0) (f (slot c n)) := by
  obtain ⟨-, hslots, -, -⟩ := clearPicture_rest (notice .store (applyFreeing n (setSlot n (f (slot c n)) c)))
  refine (slot_of_slots hslots n).trans ((slot_applyFreeing_same n _).trans ?_)
  rw [slot_setSlot_same n _ c hn, (setSlot_capture_scan n _ c).1]

/-- The picture in progress goes back to the head of the queue. -/
theorem requeuePicture_facts {c : Chip} {p : PictureWork} (h : c.store.picture = some p) (hn : p.slot < c.slots.length) :
    (requeuePicture c).store = { c.store with queue := p.slot :: c.store.queue, picture := none }
      ∧ slot (requeuePicture c) p.slot = { slot c p.slot with state := .filled, store := .queued, extents := [] } := by
  unfold requeuePicture
  simp only [h]
  obtain ⟨-, hslots, -, -⟩ := clearPicture_rest (setStore (fun s => { s with queue := p.slot :: s.queue })
    (setSlot p.slot { slot c p.slot with state := .filled, store := .queued, extents := [] } c))
  refine ⟨?_, ?_⟩
  · rw [clearPicture_store, setStore_store, setSlot_store]
  · rw [slot_of_slots hslots, slot_of_slots (setStore_slots _ _), slot_setSlot_same _ _ c hn]

theorem requeuePicture_keeps (c : Chip) : (requeuePicture c).card = c.card ∧ (requeuePicture c).store.picture = none
    ∧ (requeuePicture c).store.lastResult = c.store.lastResult := by
  unfold requeuePicture
  split
  next h => exact ⟨rfl, h, rfl⟩
  next p h =>
    extract_lets old c1
    obtain ⟨hcard, -, -, -⟩ := clearPicture_rest (setStore (fun s => { s with queue := p.slot :: s.queue }) c1)
    refine ⟨hcard.trans ((setStore_card _ c1).trans (setSlot_card _ _ c)), ?_⟩
    rw [clearPicture_store, setStore_store]
    exact ⟨rfl, congrArg (·.lastResult) (setSlot_store _ _ c)⟩

/-! ### The end of an order and of a SERVICE -/

theorem endOrder_facts (o : ReqOutcome) (d : Detail) (c : Chip) : (endOrder o d c).store = { c.store with order := none }
    ∧ (endOrder o d c).card = c.card ∧ (endOrder o d c).slots = c.slots := by
  unfold endOrder
  split
  next h => exact ⟨by rw [← h], rfl, rfl⟩
  next =>
    refine ⟨?_, ?_, ?_⟩
    · rw [finish_store]
      exact setStore_store _ c
    · exact (card_of_blocks (blocks_finish _ _ _ _)).trans (setStore_card _ c)
    · exact (slots_of_blocks (blocks_finish _ _ _ _)).trans (setStore_slots _ c)

theorem finishService_rest (o : ReqOutcome) (d : Detail) (c : Chip) : (finishService o d c).store = c.store
    ∧ (finishService o d c).card = c.card ∧ (finishService o d c).slots = c.slots := by
  unfold finishService
  split
  · exact ⟨rfl, rfl, rfl⟩
  · exact ⟨store_of_blocks (blocks_finish _ _ _ _), card_of_blocks (blocks_finish _ _ _ _),
      slots_of_blocks (blocks_finish _ _ _ _)⟩

/-- A SERVICE of the card ends with the card's state change. -/
def endCardService (o : ReqOutcome) (d : Detail) (c : Chip) : Chip :=
  if serviceInCard c then finishService o d c else c

theorem endCardService_rest (o : ReqOutcome) (d : Detail) (c : Chip) : (endCardService o d c).store = c.store
    ∧ (endCardService o d c).card = c.card ∧ (endCardService o d c).slots = c.slots := by
  unfold endCardService
  split
  · exact finishService_rest o d c
  · exact ⟨rfl, rfl, rfl⟩

/-! ### The card's states (R162, R165, R169) -/

/-- What FAULT sets on the card. -/
def faultedCard (d : Detail) (k : Card) : Card := { k with fault := d, init := .none, run := none }

/-- The part as a card in FAULT leaves its picture and its order. -/
def cardFaultLeft (d : Detail) (c : Chip) : Chip :=
  endOrder .failed .cardFault (requeuePicture (notice .fault (enterCard .fault (faultedCard d) c)))

theorem cardFault_eq (d : Detail) (c : Chip) : cardFault d c = endCardService .failed .cardFault (cardFaultLeft d c) := rfl

theorem cardFault_card (d : Detail) (c : Chip) :
    (cardFault d c).card = { c.card with state := .fault, fault := d, init := .none, run := none } := by
  obtain ⟨-, hservice, -⟩ := endCardService_rest .failed .cardFault (cardFaultLeft d c)
  obtain ⟨-, horder, -⟩ := endOrder_facts .failed .cardFault
    (requeuePicture (notice .fault (enterCard .fault (faultedCard d) c)))
  obtain ⟨hcard, -, -⟩ := requeuePicture_keeps (notice .fault (enterCard .fault (faultedCard d) c))
  rw [cardFault_eq]
  exact hservice.trans (horder.trans (hcard.trans (enterCard_card .fault (faultedCard d) c)))

theorem cardFault_requeues (d : Detail) {c : Chip} {p : PictureWork} (h : c.store.picture = some p)
    (hn : p.slot < c.slots.length) : (cardFault d c).store.picture = none
      ∧ (cardFault d c).store.queue = p.slot :: c.store.queue
      ∧ slot (cardFault d c) p.slot = { slot c p.slot with state := .filled, store := .queued, extents := [] } := by
  have hstore : (notice .fault (enterCard .fault (faultedCard d) c)).store = c.store := enterCard_store _ _ c
  have hslots : (notice .fault (enterCard .fault (faultedCard d) c)).slots = c.slots := enterCard_slots _ _ c
  obtain ⟨hservice, -, hserviceSlots⟩ := endCardService_rest .failed .cardFault (cardFaultLeft d c)
  rw [cardFault_eq, hservice, slot_of_slots hserviceSlots]
  unfold cardFaultLeft
  generalize notice .fault (enterCard .fault (faultedCard d) c) = e at *
  obtain ⟨horder, -, horderSlots⟩ := endOrder_facts .failed .cardFault (requeuePicture e)
  obtain ⟨hqueued, hslot⟩ := requeuePicture_facts (c := e) (p := p) (by rw [hstore]; exact h) (by rw [hslots]; exact hn)
  rw [slot_of_slots horderSlots, horder, hqueued, hslot, hstore, slot_of_slots hslots]
  exact ⟨rfl, rfl, rfl⟩

theorem cardFault_lastResult (d : Detail) (c : Chip) : (cardFault d c).store.lastResult = c.store.lastResult := by
  have hstore : (notice .fault (enterCard .fault (faultedCard d) c)).store = c.store := enterCard_store _ _ c
  obtain ⟨hservice, -, -⟩ := endCardService_rest .failed .cardFault (cardFaultLeft d c)
  rw [cardFault_eq, hservice]
  unfold cardFaultLeft
  generalize notice .fault (enterCard .fault (faultedCard d) c) = e at *
  obtain ⟨horder, -, -⟩ := endOrder_facts .failed .cardFault (requeuePicture e)
  obtain ⟨-, -, hlast⟩ := requeuePicture_keeps e
  rw [horder, ← hstore]
  exact hlast

/-- What removal sets on the card. -/
def removedCard (k : Card) : Card := { k with fault := .none, init := .none, run := none, capacity := none }

/-- The part as a removed card leaves its picture and its order. -/
def cardRemovedLeft (c : Chip) : Chip := endOrder .failed .noCard (requeuePicture (enterCard .absent removedCard c))

/-- The part with both grants gone. -/
def grantsGone (c : Chip) : Chip := setStore (fun s => { s with space := {}, spare := {} }) c

theorem cardRemoved_eq (c : Chip) : cardRemoved c = endCardService .failed .noCard (grantsGone (cardRemovedLeft c)) := rfl

theorem cardRemoved_card (c : Chip) : (cardRemoved c).card
    = { c.card with state := .absent, fault := .none, init := .none, run := none, capacity := none } := by
  obtain ⟨-, hservice, -⟩ := endCardService_rest .failed .noCard (grantsGone (cardRemovedLeft c))
  obtain ⟨-, horder, -⟩ := endOrder_facts .failed .noCard (requeuePicture (enterCard .absent removedCard c))
  obtain ⟨hcard, -, -⟩ := requeuePicture_keeps (enterCard .absent removedCard c)
  have hgone : (grantsGone (cardRemovedLeft c)).card = (cardRemovedLeft c).card := setStore_card _ _
  rw [cardRemoved_eq, hservice, hgone]
  exact horder.trans (hcard.trans (enterCard_card .absent removedCard c))

theorem cardRemoved_store (c : Chip) : (cardRemoved c).store.space = {} ∧ (cardRemoved c).store.spare = {}
    ∧ (cardRemoved c).store.picture = none := by
  obtain ⟨hservice, -, -⟩ := endCardService_rest .failed .noCard (grantsGone (cardRemovedLeft c))
  obtain ⟨horder, -, -⟩ := endOrder_facts .failed .noCard (requeuePicture (enterCard .absent removedCard c))
  obtain ⟨-, hpicture, -⟩ := requeuePicture_keeps (enterCard .absent removedCard c)
  have hgone : (grantsGone (cardRemovedLeft c)).store = { (cardRemovedLeft c).store with space := {}, spare := {} } :=
    setStore_store _ _
  have hleft : (cardRemovedLeft c).store.picture = none := (congrArg Store.picture horder).trans hpicture
  rw [cardRemoved_eq, hservice, hgone]
  exact ⟨rfl, rfl, hleft⟩

theorem holdOrderToCapacity_card (o : OrderWork) (c : Chip) : (holdOrderToCapacity o c).card = c.card := by
  unfold holdOrderToCapacity
  (repeat' split)
  · exact setStore_card _ c
  · refine (endOrder_facts .done .none _).2.1.trans ?_
    exact (card_of_blocks (blocks_setClamped _ _ _)).trans (setStore_card _ c)
  · exact (setStore_card _ _).trans (card_of_blocks (blocks_setClamped _ _ _))

/-- The part with the card READY and the grants limited to its capacity. -/
def readyLimited (c : Chip) : Chip :=
  setStore (fun s => { s with space := limitGrant c.card.found s.space, spare := limitGrant c.card.found s.spare })
    (enterCard .ready (fun k => { k with init := .none, fault := .none, capacity := some k.found }) c)

/-- An order that waited for the capacity is held against it. -/
def releaseOrder (c : Chip) : Chip :=
  match c.store.order with
  | some o => if o.waiting then holdOrderToCapacity o c else c
  | none => c

theorem cardReady_eq (c : Chip) : cardReady c = endCardService .done .none (releaseOrder (readyLimited c)) := rfl

theorem releaseOrder_card (c : Chip) : (releaseOrder c).card = c.card := by
  unfold releaseOrder
  (repeat' split)
  · exact holdOrderToCapacity_card _ c
  · rfl
  · rfl

theorem cardReady_card (c : Chip) : (cardReady c).card
    = { c.card with state := .ready, init := .none, fault := .none, capacity := some c.card.found } := by
  obtain ⟨-, hservice, -⟩ := endCardService_rest .done .none (releaseOrder (readyLimited c))
  have hready : (readyLimited c).card = _ := (setStore_card _ _).trans (enterCard_card _ _ c)
  rw [cardReady_eq, hservice, releaseOrder_card, hready]

/-! ### Detection and initialisation (R162) -/

/-- The part as the qualification of CARD_DET ends. -/
def qualified (c : Chip) : Chip := setCard (fun k => { k with detectTimer := false, present := k.detect }) c

theorem qualified_card (c : Chip) : (qualified c).card = { c.card with detectTimer := false, present := c.card.detect } :=
  setCard_card _ c

theorem cardDetTimer_present {c : Chip} (htimer : c.card.detectTimer = true) (hdetect : c.card.detect = true)
    (hstate : c.card.state = .absent) : cardDetTimer c = beginInit (qualified c) := by
  refine (if_pos htimer).trans ?_
  show (if (qualified c).card.present then
    (if (qualified c).card.state = .absent then beginInit (qualified c) else qualified c) else cardRemoved (qualified c)) = _
  rw [qualified_card, if_pos hdetect, if_pos hstate]

theorem cardDetTimer_absent {c : Chip} (htimer : c.card.detectTimer = true) (hdetect : c.card.detect = false) :
    cardDetTimer c = cardRemoved (qualified c) := by
  refine (if_pos htimer).trans ?_
  show (if (qualified c).card.present then
    (if (qualified c).card.state = .absent then beginInit (qualified c) else qualified c) else cardRemoved (qualified c)) = _
  rw [qualified_card, if_neg (by simp [hdetect])]

theorem cardResponse_init (capacity : Nat) {c : Chip} (h : c.card.run = none) : cardResponse capacity c = initResponse capacity c := by
  simp only [cardResponse, h]

theorem initResponse_goIdle (capacity : Nat) {c : Chip} (h : c.card.init = .goIdle) :
    initResponse capacity c = setCard (fun k => { k with init := .identify }) c := by
  simp only [initResponse, h]

theorem initResponse_identify {capacity : Nat} {c : Chip} (h : c.card.init = .identify) (hcapacity : capacity ≠ 0) :
    initResponse capacity c = setCard (fun k => { k with init := .setWide, found := capacity }) c := by
  simp only [initResponse, h, if_neg hcapacity]

theorem initResponse_setWide (capacity : Nat) {c : Chip} (h : c.card.init = .setWide) :
    initResponse capacity c = cardReady c := by
  simp only [initResponse, h]

/-- Settles O59, one conjunct per step of the initialisation. -/
theorem cardInitialisation : Obligations.CardInitialisation := by
  unfold Obligations.CardInitialisation
  intro level capacity s
  have hanswer : ∀ {d : Chip}, s.chip.card.run = none → initResponse capacity.toNat s.chip = d →
      exec (.cardResponse capacity) s = .next (concluded d s) := fun hrun hd =>
    exec_of_commit rfl ((cardResponse_init capacity.toNat hrun).trans hd)
  refine ⟨?_, fun htimer hdetect hstate => ?_, fun htimer hdetect => ?_, fun hrun hinit => ⟨?_, ?_⟩,
    fun hrun hinit hcapacity => ⟨?_, ?_⟩, fun hrun hinit => ⟨?_, ?_⟩⟩
  · exact exec_of_commit rfl (setCard_unshown rfl rfl rfl)
  · refine ⟨_, exec_of_commit rfl (cardDetTimer_present htimer hdetect hstate), ?_⟩
    have hcard : (beginInit (qualified s.chip)).card = _ := enterCard_card _ _ (qualified s.chip)
    have hnotices : (qualified s.chip).notices = s.chip.notices := setCard_notices _ _
    have hcounts : (beginInit (qualified s.chip)).notices.counts = _ :=
      enterCard_notices _ (by rw [qualified_card]; simp [hstate])
    rw [hcounts, hnotices, hcard, qualified_card]
    exact ⟨hdetect, rfl, rfl, rfl⟩
  · obtain ⟨hspace, hspare, hpicture⟩ := cardRemoved_store (qualified s.chip)
    refine ⟨_, exec_of_commit rfl (cardDetTimer_absent htimer hdetect), ?_⟩
    rw [hspace, hspare, hpicture, cardRemoved_card, qualified_card]
    exact ⟨hdetect, rfl, rfl, rfl, rfl, rfl, rfl⟩
  · simp only [cardCommand, hrun, hinit]
  · refine ⟨_, hanswer hrun (initResponse_goIdle _ hinit), ?_⟩
    rw [setCard_card]
  · simp only [cardCommand, hrun, hinit]
  · have hzero : capacity.toNat ≠ 0 := fun h => hcapacity (BitVec.eq_of_toNat_eq h)
    refine ⟨_, hanswer hrun (initResponse_identify hinit hzero), ?_⟩
    rw [setCard_card]
    exact ⟨rfl, rfl⟩
  · simp only [cardCommand, hrun, hinit]
  · refine ⟨_, hanswer hrun (initResponse_setWide _ hinit), ?_⟩
    rw [cardReady_card]
    exact ⟨rfl, rfl, rfl⟩

/-! ### The phases of a run (R163) -/

/-- The part with `r` as the run on the card. -/
def withRun (r : Run) (c : Chip) : Chip := { c with card := { c.card with run := some r } }

theorem setRun_eq {c : Chip} {r : Run} (f : Run → Run) (h : c.card.run = some r) : setRun f c = withRun (f r) c := by
  unfold setRun withRun
  rw [h]
  rfl

theorem withRun_endRunEarly {c : Chip} {r : Run} (cause : RunResult) (h : c.card.run = some r) :
    endRunEarly cause c = withRun { r with cause := some cause, phase := .stopResponse } c := setRun_eq _ h

theorem cardResponse_begins (capacity : Nat) {c : Chip} {r : Run} (h : c.card.run = some r) (hp : r.phase = .response) :
    cardResponse capacity c = withRun { r with phase := if r.write then .token else .block } c := by
  simp only [cardResponse, h, hp]
  exact setRun_eq _ h

theorem cardResponse_stops (capacity : Nat) {c : Chip} {r : Run} (h : c.card.run = some r) (hp : r.phase = .stopResponse) :
    cardResponse capacity c = withRun { r with phase := .stopBusy } c := by
  simp only [cardResponse, h, hp]
  exact setRun_eq _ h

theorem cardStatusToken_accepted {c : Chip} {r : Run} (h : c.card.run = some r) (hp : r.phase = .token) :
    cardStatusToken .accepted c = withRun { r with phase := .busy } c := by
  simp only [cardStatusToken, h, if_pos hp]
  exact setRun_eq _ h

theorem cardStatusToken_rejected {t : StatusToken} {cause : RunResult} {c : Chip} {r : Run} (h : c.card.run = some r)
    (hp : r.phase = .token) (ht : (t = .crcRejected ∧ cause = .crcRejected) ∨ (t = .writeRejected ∧ cause = .writeRejected)) :
    cardStatusToken t c = withRun { r with cause := some cause, phase := .stopResponse } c := by
  rcases ht with ⟨rfl, rfl⟩ | ⟨rfl, rfl⟩ <;> simp only [cardStatusToken, h, if_pos hp]
  · exact withRun_endRunEarly _ h
  · exact withRun_endRunEarly _ h

theorem cardBusyEnd_next {c : Chip} {r : Run} (h : c.card.run = some r) (hp : r.phase = .busy) : cardBusyEnd c
    = withRun { r with
        block := r.block + 1, phase := if r.plan.count ≤ r.block + 1 then .stopResponse else .token } c := by
  simp only [cardBusyEnd, h, hp]
  exact setRun_eq _ h

theorem cardBusyEnd_stopped {c : Chip} {r : Run} (h : c.card.run = some r) (hp : r.phase = .stopBusy) :
    cardBusyEnd c = runEnd r c := by
  simp only [cardBusyEnd, h, hp]

theorem cardBusyTimeout_busy {c : Chip} {r : Run} (h : c.card.run = some r) (hp : r.phase = .busy) :
    cardBusyTimeout c = withRun { r with cause := some .busyTimeout, phase := .stopResponse } c := by
  simp only [cardBusyTimeout, h, hp]
  exact withRun_endRunEarly _ h

theorem cardReadBlock_good {data : List Byte} {c : Chip} {r : Run} (h : c.card.run = some r) (hp : r.phase = .block)
    (hdata : data.length = 512) : cardReadBlock true data c
    = withRun { r with
        block := r.block + 1, phase := if r.plan.count ≤ r.block + 1 then .stopResponse else .block }
      (busWrite (r.address + 512 * r.block) data c) := by
  simp only [cardReadBlock, h, if_pos hp, if_true]
  rw [List.take_of_length_le (by omega)]
  exact setRun_eq (c := busWrite _ _ c) _ h

theorem cardReadBlock_bad (data : List Byte) {c : Chip} {r : Run} (h : c.card.run = some r) (hp : r.phase = .block) :
    cardReadBlock false data c = withRun { r with cause := some .readCrc, phase := .stopResponse } c := by
  simp only [cardReadBlock, h, if_pos hp, Bool.false_eq_true, if_false]
  exact withRun_endRunEarly _ h

theorem cardResponseTimeout_early {c : Chip} {r : Run} (h : c.card.run = some r)
    (hp : r.phase = .response ∨ r.phase = .token ∨ r.phase = .block) :
    cardResponseTimeout c = withRun { r with cause := some .responseTimeout, phase := .stopResponse } c := by
  rcases hp with hp | hp | hp <;> simp only [cardResponseTimeout, h, hp] <;> exact withRun_endRunEarly _ h

theorem cardMemoryBusError_early {c : Chip} {r : Run} (h : c.card.run = some r) (hheader : r.plan.isHeader = false)
    (hp : r.phase = .token ∨ r.phase = .block) :
    cardMemoryBusError c = withRun { r with cause := some .memoryBusError, phase := .stopResponse } c := by
  rcases hp with hp | hp <;> simp only [cardMemoryBusError, h, hp, hheader, Bool.false_eq_true, if_false]
    <;> exact withRun_endRunEarly _ h

/-! ### The block on the link -/

theorem bytesFromMemory_order {r : Run} (c : Chip) (h : r.kind = .cardOrder) : bytesFromMemory r c = 512 := by
  simp only [bytesFromMemory, h]

theorem bytesFromMemory_picture {r : Run} {p : PictureWork} {c : Chip} (h : r.kind = .picture)
    (hp : c.store.picture = some p) :
    bytesFromMemory r c = min 512 ((slot c p.slot).byteLength - 512 * (r.plan.firstData + r.block)) := by
  simp only [bytesFromMemory, h, hp]

/-- `n` bytes of memory and 0 after them make a whole block. -/
theorem paddedBlock_bytes {n : Nat} (f : Nat → Byte) (h : n ≤ 512) :
    ((List.range n).map f ++ padding (512 - n)).length = 512
      ∧ (∀ i, i < n → ((List.range n).map f ++ padding (512 - n))[i]? = some (f i))
      ∧ ∀ i, n ≤ i → i < 512 → ((List.range n).map f ++ padding (512 - n))[i]? = some 0 := by
  refine ⟨?_, fun i hi => ?_, fun i hi hlast => ?_⟩
  · simp only [padding, List.length_append, List.length_map, List.length_range, List.length_replicate]
    omega
  · rw [List.getElem?_append_left (by simpa using hi)]
    simp [hi]
  · rw [List.getElem?_append_right (by simpa using hi)]
    simp only [padding, List.length_map, List.length_range, List.getElem?_replicate]
    exact if_pos (by omega)

/-! ### The end of a run -/

/-- The part as run `r` ends, before its owner takes the result. -/
def runShown (r : Run) (c : Chip) : Chip := mark .store { c with
  card := { c.card with run := none }
  store := { c.store with
    lastResult := r.cause.getD .ok, lastBlock := if r.cause.isSome then min r.block (r.plan.count - 1) else 0 } }

theorem runEnd_picture {r : Run} {p : PictureWork} {c : Chip} (hkind : r.kind = .picture)
    (h : c.store.picture = some p) : runEnd r c = raise .cardWork (pictureRunEnd p r (runShown r c)) := by
  have hshown : (runShown r c).store.picture = some p := h
  unfold runShown at hshown ⊢
  simp only [runEnd, hkind, hshown]

theorem pictureRunEnd_ok (p : PictureWork) {r : Run} (c : Chip) (h : r.cause = none) : pictureRunEnd p r c = pictureRunDone p r c := by
  simp only [pictureRunEnd, h]

theorem pictureRunEnd_rejected (p : PictureWork) {r : Run} (c : Chip) (h : r.cause = some .writeRejected) :
    pictureRunEnd p r c = remapRun p r r.block c := by
  simp only [pictureRunEnd, h]

theorem pictureRunEnd_failed (p : PictureWork) {r : Run} {cause : RunResult} (c : Chip) (h : r.cause = some cause)
    (hcause : cause = .crcRejected ∨ cause = .readCrc ∨ cause = .responseTimeout ∨ cause = .busyTimeout) :
    pictureRunEnd p r c = runFailure r (fun plan => setPicture (some { p with next := some plan })) c := by
  rcases hcause with rfl | rfl | rfl | rfl <;> simp only [pictureRunEnd, h]

/-- A stored picture is freed by the rule, whose two cases for it are AUTO_RELEASE and a release count equal to its fill. -/
theorem freedBy_stored (release : Half) {q : PictureRecord} (h : q.state = .stored) : freedBy release q
    = { q with state := if q.flags.autoRelease = true ∨ release = q.fill then .free else .stored } := by
  unfold freedBy
  by_cases hfree : q.flags.autoRelease = true ∨ release = q.fill
  · rw [if_pos (by simpa [freeingRule, h] using hfree), if_pos hfree]
  · rw [if_neg (by simpa [freeingRule, h] using hfree), if_neg hfree, ← h]

/-! ### A remap (R166) -/

/-- The extents without their last `n` sectors, which belong to the last extent. -/
def cutExtents (n : Nat) (es : List Extent) : List Extent :=
  match es.getLast? with
  | none => []
  | some e => if e.count ≤ n then es.dropLast else es.dropLast ++ [{ e with count := e.count - n }]

theorem cutExtents_append (n : Nat) (kept : List Extent) (e : Extent) : cutExtents n (kept ++ [e])
    = if e.count ≤ n then kept else kept ++ [{ e with count := e.count - n }] := by
  simp [cutExtents]

/-- The part with `n` more bad sectors, the remap counted. -/
def remapCounted (n : Nat) (c : Chip) : Chip :=
  count .cardRemap (setStore (fun s => { s with badSectors := min (s.badSectors + n) 4294967295 }) c)

/-- The part with the last extent cut by the `n` sectors to remap. -/
def remapCut (p : PictureWork) (n : Nat) (c : Chip) : Chip :=
  setSlot p.slot { slot (remapCounted n c) p.slot with extents := cutExtents n (slot c p.slot).extents } (remapCounted n c)

/-- The part with `n` sectors taken from the spare grant for the remap run of `r` from block `i` on. -/
def remapTaken (p : PictureWork) (r : Run) (i n : Nat) (cut : List Extent) (c : Chip) : Chip :=
  setStore (fun s => { s with
      spare := { c.store.spare with cursor := c.store.spare.cursor + n }
      picture := some { p with
        written := if r.plan.isHeader then p.written else p.written + i, openSpace := false, remap := true,
        next := some {
          sector := c.store.spare.cursor, count := n, firstData := r.plan.firstData + i, isHeader := r.plan.isHeader } } })
    (setSlot p.slot { slot c p.slot with extents := cut ++ [⟨c.store.spare.cursor, n⟩] } c)

theorem remapRun_eq (p : PictureWork) (r : Run) (i : Nat) (c : Chip) : remapRun p r i c
    = if Config.maxExtents ≤ (cutExtents (r.plan.count - i) (slot c p.slot).extents).length
      then pictureFailed p.slot .extentsExceeded (remapCut p (r.plan.count - i) c)
      else if remainder (remapCut p (r.plan.count - i) c).store.spare < r.plan.count - i
      then pictureFailed p.slot .spareExhausted (remapCut p (r.plan.count - i) c)
      else remapTaken p r i (r.plan.count - i) (cutExtents (r.plan.count - i) (slot c p.slot).extents)
        (remapCut p (r.plan.count - i) c) := rfl

theorem remapCut_facts (p : PictureWork) (n : Nat) {c : Chip} (hn : p.slot < c.slots.length) :
    (remapCut p n c).store = { c.store with badSectors := min (c.store.badSectors + n) 4294967295 }
      ∧ (remapCut p n c).wear = (remapCounted n c).wear ∧ p.slot < (remapCut p n c).slots.length
      ∧ slot (remapCut p n c) p.slot = { slot c p.slot with extents := cutExtents n (slot c p.slot).extents } := by
  obtain ⟨hstore, -, hslots⟩ := count_rest .cardRemap
    (setStore (fun s => { s with badSectors := min (s.badSectors + n) 4294967295 }) c)
  have hslots' : (remapCounted n c).slots = c.slots := hslots.trans (setStore_slots _ c)
  refine ⟨?_, setSlot_wear _ _ _, ?_, ?_⟩
  · exact (setSlot_store _ _ _).trans (hstore.trans (setStore_store _ c))
  · refine lt_of_lt_of_eq hn ?_
    show _ = (setSlot _ _ _).slots.length
    rw [setSlot_slots, List.length_set, hslots']
  · refine (slot_setSlot_same _ _ _ (by rw [hslots']; exact hn)).trans ?_
    rw [slot_of_slots hslots']

theorem remapCounted_wear {n : Nat} {c : Chip} (h : c.wear.counts.getD 5 0 ≤ 65535) :
    (remapCounted n c).wear.counts = c.wear.counts.set 5 (min (c.wear.counts.getD 5 0 + 1) 65535) := by
  have hwear : (setStore (fun s => { s with badSectors := min (s.badSectors + n) 4294967295 }) c).wear = c.wear :=
    setStore_wear _ c
  have hcount := count_counts .cardRemap
    (setStore (fun s => { s with badSectors := min (s.badSectors + n) 4294967295 }) c) (by rw [hwear]; exact h)
  rw [hwear] at hcount
  exact hcount

/-- A picture whose remap has no place ends STORE_FAILED with its cut extents. -/
theorem remap_fails {p : PictureWork} {c : Chip} (d : Detail) (hn : p.slot < c.slots.length) :
    (pictureFailed p.slot d c).store = { c.store with picture := none } ∧ (pictureFailed p.slot d c).wear = c.wear
      ∧ (slot (pictureFailed p.slot d c) p.slot).store = .storeFailed
      ∧ (slot (pictureFailed p.slot d c) p.slot).extents = (slot c p.slot).extents
      ∧ (slot (pictureFailed p.slot d c) p.slot).storeDetail = d := by
  obtain ⟨hstore, -, -, hwear⟩ := endPicture_rest p.slot
    (fun q => { q with state := .storeFailed, store := .storeFailed, storeDetail := d }) c
  have hslot := slot_endPicture (fun q => { q with state := .storeFailed, store := .storeFailed, storeDetail := d }) hn
  refine ⟨hstore, hwear, ?_⟩
  rw [show slot (pictureFailed p.slot d c) p.slot = _ from hslot]
  unfold freedBy
  split <;> exact ⟨rfl, rfl, rfl⟩

/-- A remap that has its place takes it from the spare grant. -/
theorem remap_takes (p : PictureWork) (r : Run) (i n : Nat) (cut : List Extent) {c : Chip} (hn : p.slot < c.slots.length) :
    (remapTaken p r i n cut c).store = { c.store with
        spare := { c.store.spare with cursor := c.store.spare.cursor + n }
        picture := some { p with
          written := if r.plan.isHeader then p.written else p.written + i, openSpace := false, remap := true,
          next := some {
            sector := c.store.spare.cursor, count := n, firstData := r.plan.firstData + i, isHeader := r.plan.isHeader } } }
      ∧ (remapTaken p r i n cut c).wear = c.wear
      ∧ (slot (remapTaken p r i n cut c) p.slot).extents = cut ++ [⟨c.store.spare.cursor, n⟩] := by
  refine ⟨?_, (setStore_wear _ _).trans (setSlot_wear _ _ c), ?_⟩
  · refine (setStore_store _ _).trans ?_
    rw [setSlot_store]
  · unfold remapTaken
    rw [slot_of_slots (setStore_slots _ _), slot_setSlot_same _ _ c hn]

/-- The run is over, and its result `x` is shown. -/
def RunOver (x : RunResult) (c : Chip) : Prop := c.card.run = none ∧ c.store.lastResult = x

theorem RunOver.of_eq {x : RunResult} {c d : Chip} (h : RunOver x c) (hcard : d.card = c.card)
    (hlast : d.store.lastResult = c.store.lastResult) : RunOver x d :=
  ⟨(congrArg (·.run) hcard).trans h.1, hlast.trans h.2⟩

theorem RunOver.setStore {x : RunResult} {c : Chip} (h : RunOver x c) {f : Store → Store}
    
    (hf : ∀ s, (f s).lastResult = s.lastResult := by exact fun _ => rfl) : RunOver x (setStore f c) :=
  h.of_eq (setStore_card f c) ((congrArg (·.lastResult) (setStore_store f c)).trans (hf _))

theorem RunOver.setSlot {x : RunResult} {c : Chip} (h : RunOver x c) (n : Nat) (p : PictureRecord) :
    RunOver x (setSlot n p c) :=
  h.of_eq (setSlot_card n p c) (congrArg (·.lastResult) (setSlot_store n p c))

theorem RunOver.count {x : RunResult} {c : Chip} (h : RunOver x c) (k : CounterId) : RunOver x (count k c) := by
  obtain ⟨hstore, hcard, -⟩ := count_rest k c
  exact h.of_eq hcard (congrArg (·.lastResult) hstore)

theorem RunOver.endPicture {x : RunResult} {c : Chip} (h : RunOver x c) (n : Nat) (f : PictureRecord → PictureRecord) :
    RunOver x (endPicture n f c) := by
  obtain ⟨hstore, hcard, -, -⟩ := endPicture_rest n f c
  exact h.of_eq hcard (congrArg (·.lastResult) hstore)

theorem RunOver.endOrder {x : RunResult} {c : Chip} (h : RunOver x c) (o : ReqOutcome) (d : Detail) :
    RunOver x (endOrder o d c) := by
  obtain ⟨hstore, hcard, -⟩ := endOrder_facts o d c
  exact h.of_eq hcard (congrArg (·.lastResult) hstore)

theorem RunOver.cardFault {x : RunResult} {c : Chip} (h : RunOver x c) (d : Detail) : RunOver x (cardFault d c) :=
  ⟨congrArg (·.run) (cardFault_card d c), (cardFault_lastResult d c).trans h.2⟩

theorem RunOver.runFailure {x : RunResult} {c : Chip} (h : RunOver x c) (r : Run) {again : PlannedRun → Chip → Chip}
    (hagain : ∀ plan d, RunOver x d → RunOver x (again plan d)) : RunOver x (runFailure r again c) := by
  have hcounted : RunOver x (Machine.count .cardRetry (Machine.setStore
      (fun s => { s with failures := r.plan.failures + 1 }) c)) := RunOver.count (h.setStore) _
  unfold Machine.runFailure
  dsimp only
  split
  · exact hagain _ _ hcounted
  · exact hcounted.cardFault _

theorem RunOver.remapRun {x : RunResult} {c : Chip} (h : RunOver x c) (p : PictureWork) (r : Run) (i : Nat) :
    RunOver x (remapRun p r i c) := by
  have hcut : RunOver x (remapCut p (r.plan.count - i) c) :=
    RunOver.setSlot (RunOver.count (h.setStore) .cardRemap) _ _
  rw [remapRun_eq]
  split
  · exact hcut.endPicture _ _
  · split
    · exact hcut.endPicture _ _
    · exact RunOver.setStore (hcut.setSlot _ _)

theorem RunOver.pictureRunEnd {x : RunResult} {c : Chip} (h : RunOver x c) (p : PictureWork) (r : Run) :
    RunOver x (pictureRunEnd p r c) := by
  have hdone : RunOver x (pictureRunDone p r c) := by
    unfold Machine.pictureRunDone
    (repeat' split)
    · exact h.endPicture _ _
    · exact h.setStore
    · exact h.setStore
  have hfails : RunOver x (Machine.runFailure r (fun plan => setPicture (some { p with next := some plan })) c) :=
    h.runFailure r fun _ _ hd => hd.setStore
  unfold Machine.pictureRunEnd
  split
  iterate 3 exact hdone
  iterate 4 exact hfails
  · exact h.remapRun _ _ _
  · exact RunOver.endPicture (c := notice .fault c) h _ _

theorem RunOver.orderRunEnd {x : RunResult} {c : Chip} (h : RunOver x c) (o : OrderWork) (r : Run) :
    RunOver x (orderRunEnd o r c) := by
  have hfails : RunOver x (Machine.runFailure r (fun plan => setOrder (some { o with next := some plan })) c) :=
    h.runFailure r fun _ _ hd => hd.setStore
  have hcounted : RunOver x (Machine.setStore (fun s => { s with
      order := some { o with done := o.done + r.plan.count }, sectorsDone := o.done + r.plan.count }) c) :=
    h.setStore
  have hdone : RunOver x (if o.count ≤ o.done + r.plan.count then Machine.endOrder .done .none (Machine.setStore (fun s => { s with
      order := some { o with done := o.done + r.plan.count }, sectorsDone := o.done + r.plan.count }) c)
      else Machine.setStore (fun s => { s with
      order := some { o with done := o.done + r.plan.count }, sectorsDone := o.done + r.plan.count }) c) := by
    split
    · exact hcounted.endOrder _ _
    · exact hcounted
  unfold Machine.orderRunEnd
  split
  iterate 3 exact hdone
  iterate 4 exact hfails
  · exact RunOver.endOrder (h.setStore) _ _
  · exact h.endOrder _ _

theorem RunOver.orderRunStopped {x : RunResult} {c : Chip} (h : RunOver x c) (o : OrderWork) (r : Run) :
    RunOver x (orderRunStopped o r c) := by
  have hfails : RunOver x (Machine.runFailure r (fun _ => id) (Machine.endOrder .abandoned .stopped c)) :=
    (h.endOrder _ _).runFailure r fun _ _ hd => hd
  unfold Machine.orderRunStopped
  split
  iterate 3 exact RunOver.endOrder (h.setStore) _ _
  iterate 4 exact hfails
  iterate 2 exact h.endOrder _ _

/-- Whatever its owner does with the result, the run is over and its result shown. -/
theorem runEnd_over (r : Run) (c : Chip) : RunOver (r.cause.getD .ok) (runEnd r c) := by
  have hshown : RunOver (r.cause.getD .ok) (runShown r c) := ⟨rfl, rfl⟩
  unfold runEnd
  extract_lets k st c1 c2
  show RunOver _ (raise .cardWork c2)
  have hc2 : RunOver (r.cause.getD .ok) c2 := by
    show RunOver _ (match r.kind with
      | .picture => match c1.store.picture with
        | some p => pictureRunEnd p r c1
        | none => c1
      | .cardOrder => match c1.store.order with
        | some o => if c1.port.partState = .stopping then orderRunStopped o r c1 else orderRunEnd o r c1
        | none => c1 : Chip)
    (repeat' split)
    · exact hshown.pictureRunEnd _ _
    · exact hshown
    · exact hshown.orderRunStopped _ _
    · exact hshown.orderRunEnd _ _
    · exact hshown
  exact hc2

/-! ### The runs of a picture (R161, R164, R166) -/

/-- The end of a run of the picture in progress. -/
theorem exec_pictureRun {r : Run} {p : PictureWork} {s : State} {d : Chip} (hrun : s.chip.card.run = some r)
    (hphase : r.phase = .stopBusy) (hkind : r.kind = .picture) (hpicture : s.chip.store.picture = some p)
    (hd : pictureRunEnd p r (runShown r s.chip) = d) :
    exec .cardBusyEnd s = .next (concluded (raise .cardWork d) s) := by
  refine exec_of_commit rfl ((cardBusyEnd_stopped hrun hphase).trans ?_)
  rw [runEnd_picture hkind hpicture, hd]

/-- The run is over once its result has reached the picture. -/
theorem pictureRunEnd_over (p : PictureWork) (r : Run) (c : Chip) : (pictureRunEnd p r (runShown r c)).card.run = none :=
  have hshown : RunOver (r.cause.getD .ok) (runShown r c) := ⟨rfl, rfl⟩
  (hshown.pictureRunEnd p r).1

theorem pictureRunSucceeds : Said.PictureRunSucceeds := by
  unfold Said.PictureRunSucceeds
  intro r p s hrun hphase hkind hpicture hcause hn
  have hends := exec_pictureRun hrun hphase hkind hpicture (d := _) rfl
  have hover := pictureRunEnd_over p r s.chip
  have hresult := pictureRunEnd_ok p (runShown r s.chip) hcause
  refine ⟨fun hheader => ?_, fun hheader => ?_⟩
  · intro old
    have hdone : pictureRunEnd p r (runShown r s.chip) = pictureStored p.slot (runShown r s.chip) :=
      hresult.trans (if_pos hheader)
    refine ⟨_, hends, hover, ?_⟩
    rw [hdone]
    obtain ⟨hstore, -, hnotices, -⟩ := endPicture_rest p.slot
      (fun q => { q with state := .stored, store := .stored }) (runShown r s.chip)
    have hslot := slot_endPicture (c := runShown r s.chip) (fun q => { q with state := .stored, store := .stored }) hn
    refine ⟨congrArg (·.picture) hstore, hslot.trans ?_, hnotices⟩
    exact freedBy_stored _ rfl
  · have hdone : pictureRunEnd p r (runShown r s.chip) = _ := hresult.trans (if_neg (by simp [hheader]))
    refine ⟨_, hends, hover, ?_⟩
    rw [hdone]
    have hset := fun f => And.intro (setStore_slots f (runShown r s.chip)) (setStore_store f (runShown r s.chip))
    have hslots := (hset fun t => { t with picture := some { p with written := p.written + r.plan.count, remap := false } }).1
    have hstore := (hset fun t => { t with picture := some { p with written := p.written + r.plan.count, remap := false } }).2
    split <;> exact ⟨hslots, congrArg (·.picture) hstore⟩

theorem remap : Said.Remap := by
  unfold Said.Remap
  intro r p s kept e hrun hphase hkind hpicture hcause hn hextents n cut spare left
  have hover := pictureRunEnd_over p r s.chip
  have hcut : cutExtents n (slot (runShown r s.chip) p.slot).extents = cut :=
    (congrArg (cutExtents n) hextents).trans (cutExtents_append n kept e)
  obtain ⟨hstore, hwear, hlen, hslot⟩ := remapCut_facts p n (c := runShown r s.chip) hn
  have hspare : (remapCut p n (runShown r s.chip)).store.spare = spare := congrArg (·.spare) hstore
  have hresult := (pictureRunEnd_rejected p (runShown r s.chip) hcause).trans (remapRun_eq p r r.block _)
  rw [show r.plan.count - r.block = n from rfl, hcut, hspare] at hresult
  refine ⟨_, exec_pictureRun hrun hphase hkind hpicture rfl, hover, ?_⟩
  generalize pictureRunEnd p r (runShown r s.chip) = d at hresult ⊢
  show d.store.badSectors = _ ∧ (_ → d.wear.counts = _)
    ∧ (_ → d.store.picture = none ∧ d.store.spare = _ ∧ (slot d p.slot).store = _ ∧ (slot d p.slot).extents = _
      ∧ (slot d p.slot).storeDetail = _)
    ∧ (_ → _ → d.store.spare = _ ∧ (slot d p.slot).extents = _ ∧ d.store.picture = _)
  have hcounts := fun h => remapCounted_wear (n := n) (c := runShown r s.chip) h
  have hcutSlot : (slot (remapCut p n (runShown r s.chip)) p.slot).extents = cut := (congrArg (·.extents) hslot).trans hcut
  rw [← hwear] at hcounts
  rw [hresult]
  have hleft : remainder spare = left := rfl
  split
  next hmany =>
    obtain ⟨hstore', hwear', hfailed, hextents', hdetail⟩ := remap_fails .extentsExceeded hlen
    rw [hstore', hwear', hfailed, hextents', hdetail, hstore, hcutSlot]
    refine ⟨rfl, hcounts, fun _ => ⟨rfl, rfl, rfl, rfl, (if_pos hmany).symm⟩, fun hfew => ?_⟩
    exact absurd hfew (Nat.not_lt.mpr hmany)
  next hfew =>
    split
    next hshort =>
      obtain ⟨hstore', hwear', hfailed, hextents', hdetail⟩ := remap_fails .spareExhausted hlen
      rw [hstore', hwear', hfailed, hextents', hdetail, hstore, hcutSlot]
      refine ⟨rfl, hcounts, fun _ => ⟨rfl, rfl, rfl, rfl, (if_neg hfew).symm⟩, fun _ henough => ?_⟩
      exact absurd hshort (Nat.not_lt.mpr (hleft ▸ henough))
    next henough =>
      obtain ⟨hstore', hwear', hextents'⟩ := remap_takes p r r.block n cut hlen
      rw [hstore', hwear', hextents', hspare, hstore]
      refine ⟨rfl, hcounts, fun hno => ?_, fun _ _ => ⟨rfl, rfl, rfl⟩⟩
      rcases hno with hmany | hshort
      · exact absurd hmany hfew
      · exact absurd (hleft ▸ hshort) henough

/-- The part with one more failure of run `r`, its retry counted. -/
def failureCounted (r : Run) (c : Chip) : Chip :=
  count .cardRetry (setStore (fun s => { s with failures := r.plan.failures + 1 }) c)

theorem runFailure_again {r : Run} (again : PlannedRun → Chip → Chip) (c : Chip) (h : r.plan.failures + 1 ≤ r.retryLimit) :
    runFailure r again c = again { r.plan with failures := r.plan.failures + 1 } (failureCounted r c) := if_pos h

theorem runFailure_faults {r : Run} (again : PlannedRun → Chip → Chip) (c : Chip) (h : r.retryLimit < r.plan.failures + 1) :
    runFailure r again c = cardFault .runFailed (failureCounted r c) := if_neg (Nat.not_le.mpr h)

theorem failureCounted_facts (r : Run) (c : Chip) : (failureCounted r c).store = { c.store with failures := r.plan.failures + 1 }
    ∧ (failureCounted r c).card = c.card ∧ (failureCounted r c).slots = c.slots := by
  obtain ⟨hstore, hcard, hslots⟩ := count_rest .cardRetry
    (setStore (fun s => { s with failures := r.plan.failures + 1 }) c)
  exact ⟨hstore.trans (setStore_store _ c), hcard.trans (setStore_card _ c), hslots.trans (setStore_slots _ c)⟩

theorem setPicture_facts (p : Option PictureWork) (c : Chip) : (setPicture p c).store.picture = p
    ∧ (setPicture p c).card = c.card ∧ (setPicture p c).slots = c.slots :=
  ⟨congrArg Store.picture (setStore_store _ c), setStore_card _ c, setStore_slots _ c⟩

theorem pictureRunFails : Said.PictureRunFails := by
  unfold Said.PictureRunFails
  intro r p cause s hrun hphase hkind hpicture hcause hwhich hn again
  have hresult := pictureRunEnd_failed p (runShown r s.chip) hcause hwhich
  obtain ⟨hstore, hcard, hslots⟩ := failureCounted_facts r (runShown r s.chip)
  refine ⟨fun hagain => ?_, fun hbeyond => ?_⟩
  · rw [runFailure_again _ _ hagain] at hresult
    obtain ⟨hpicture', hcard', hslots'⟩ :=
      setPicture_facts (some { p with next := some again }) (failureCounted r (runShown r s.chip))
    rw [hcard] at hcard'
    rw [hslots] at hslots'
    have hexec := exec_pictureRun hrun hphase hkind hpicture hresult
    generalize hd : setPicture (some { p with next := some again }) (failureCounted r (runShown r s.chip)) = d
      at hpicture' hcard' hslots'
    have hexec' : exec .cardBusyEnd s = .next (concluded (raise .cardWork d) s) := hd ▸ hexec
    exact ⟨_, hexec', (congrArg Card.run hcard' :), (congrArg Card.state hcard' :), hpicture', hslots'⟩
  · rw [runFailure_faults _ _ hbeyond] at hresult
    obtain ⟨hnone, hqueue, hslot⟩ := cardFault_requeues .runFailed (c := failureCounted r (runShown r s.chip)) (p := p)
      (by rw [hstore]; exact hpicture) (by rw [hslots]; exact hn)
    have hfault := cardFault_card .runFailed (failureCounted r (runShown r s.chip))
    rw [hstore] at hqueue
    rw [slot_of_slots hslots] at hslot
    generalize cardFault .runFailed (failureCounted r (runShown r s.chip)) = d at *
    refine ⟨_, exec_pictureRun hrun hphase hkind hpicture hresult, ?_⟩
    show d.card.run = none ∧ d.card.state = _ ∧ d.card.fault = _ ∧ d.store.picture = _ ∧ d.store.queue = _
      ∧ slot d p.slot = _
    rw [hfault]
    exact ⟨rfl, rfl, rfl, hnone, hqueue, hslot⟩

/-! ### A run on the card -/

theorem withRun_noBus (r : Run) (c : Chip) :
    withRun r c = { c with card := { c.card with run := some r }, busOut := c.busOut ++ [] } := by
  rw [List.append_nil]
  rfl

theorem blockSent_facts {s : State} {r : Run} (hrun : s.chip.card.run = some r) (hphase : r.phase = .token)
    (hwrite : r.write = true) (hheader : r.plan.isHeader = false) : ∃ block n, blockSent s = some block ∧ n ≤ 512
      ∧ block.length = 512 ∧ (∀ i, i < n → block[i]? = some (Memory.read s.memory (r.address + 512 * r.block + i)))
      ∧ (∀ i, n ≤ i → i < 512 → block[i]? = some 0) ∧ (r.kind = .cardOrder → n = 512)
      ∧ (∀ p, r.kind = .picture → s.chip.store.picture = some p →
        n = min 512 ((slot s.chip p.slot).byteLength - 512 * (r.plan.firstData + r.block))) := by
  have hle := bytesFromMemory_le r s.chip
  obtain ⟨hlen, hbytes, hzeros⟩ := paddedBlock_bytes (fun i => Memory.read s.memory (r.address + 512 * r.block + i)) hle
  exact ⟨_, bytesFromMemory r s.chip, blockSent_data s r hrun hwrite hphase hheader, hle, hlen, hbytes, hzeros,
    fun hkind => bytesFromMemory_order s.chip hkind, fun _ hkind hp => bytesFromMemory_picture hkind hp⟩

/-- Settles O60: each phase by its own lemma, the end by the owner's. -/
theorem cardRun : Obligations.CardRun := by
  unfold Obligations.CardRun
  refine ⟨pictureRunSucceeds, remap, pictureRunFails, fun r s hrun => ?_⟩
  intro into early
  have hinto : ∀ q, withRun q s.chip = into q [] := fun q => withRun_noBus q s.chip
  have hexec : ∀ {i : Instr} {f : Chip → Chip} {q : Run}, exec i s = commit f s → f s.chip = withRun q s.chip →
      exec i s = .next (concluded (into q []) s) := fun hi hf => exec_of_commit hi (hf.trans (hinto _))
  refine ⟨cardCommand_response _ r hrun, cardCommand_stop _ r hrun, fun hp hw => ⟨?_, ?_⟩,
    fun capacity => ⟨?_, ?_⟩, fun hp => ⟨?_, ?_, ?_⟩, fun hp => ⟨?_, ?_⟩, fun hp data hdata => ⟨?_, ?_⟩, fun hp => ?_,
    fun hheader hp => ?_, fun hp => ?_⟩
  · exact fun hheader => blockSent_header s r hrun hw hp hheader
  · exact fun hheader => blockSent_facts hrun hp hw hheader
  · exact fun hp => hexec rfl (cardResponse_begins _ hrun hp)
  · exact fun hp => hexec rfl (cardResponse_stops _ hrun hp)
  · exact hexec rfl (cardStatusToken_accepted hrun hp)
  · exact hexec rfl (cardStatusToken_rejected hrun hp (.inl ⟨rfl, rfl⟩))
  · exact hexec rfl (cardStatusToken_rejected hrun hp (.inr ⟨rfl, rfl⟩))
  · exact hexec rfl (cardBusyEnd_next hrun hp)
  · exact hexec rfl (cardBusyTimeout_busy hrun hp)
  · exact exec_of_commit rfl (cardReadBlock_good hrun hp hdata)
  · exact hexec rfl (cardReadBlock_bad data hrun hp)
  · exact hexec rfl (cardResponseTimeout_early hrun hp)
  · exact hexec rfl (cardMemoryBusError_early hrun hheader hp)
  · exact ⟨_, exec_of_commit rfl (cardBusyEnd_stopped hrun hp), runEnd_over r s.chip⟩

end Sys2Proof.Proofs.CardLink

end

section
/-! PROOFS. The end of a frame (R27, R28, R33, R36, R37): truncation, the picture of a capture frame, and the wait for the
last DMA write. -/

namespace Sys2Proof.Proofs.FrameEnds

-- One elaboration thread at a time: each waiting thread reserves a stack, and the text is long.
set_option Elab.async false

open Sys2Proof Sys2Proof.Machine Sys2Proof.Proofs.Part Sys2Proof.Proofs.SensorLimits Sys2Proof.Proofs.Requests
open Sys2Proof.Proofs.StoreRequests Sys2Proof.Proofs.ExposureRequests Sys2Proof.Proofs.FocusRequests
open Sys2Proof.Proofs.CaptureRequests Sys2Proof.Proofs.SearchRequests Sys2Proof.Proofs.SensorWrites
open Sys2Proof.Proofs.FocusEvents Sys2Proof.Proofs.Stabilizer Sys2Proof.Proofs.CardLink

theorem blocks_applyFreeing (n : Nat) (c : Chip) :
    blocks (applyFreeing n c) = { blocks c with slots := (applyFreeing n c).slots } := by
  unfold applyFreeing
  split
  · rw [blocks_setSlot, setSlot_slots]
  · rfl

/-! ### What the end of a picture leaves (R151, R153) -/

theorem setCapture_notices (f : Capture → Capture) (c : Chip) : (setCapture f c).notices = c.notices := by
  unfold setCapture
  extract_lets c1
  split <;> rfl

/-- The part without its bookkeeping and Capture Control. -/
def besideCapture (c : Chip) : Chip := { blocks c with capture := {} }

theorem besideCapture_of_blocks {c d : Chip} (h : blocks c = blocks d) : besideCapture c = besideCapture d :=
  congrArg (fun x => { x with capture := {} }) h

@[simp] theorem besideCapture_raise (e : Event) (c : Chip) : besideCapture (raise e c) = besideCapture c := rfl
@[simp] theorem besideCapture_notice (k : NoticeClass) (c : Chip) : besideCapture (notice k c) = besideCapture c := rfl

@[simp] theorem besideCapture_setCapture (f : Capture → Capture) (c : Chip) :
    besideCapture (setCapture f c) = besideCapture c := by
  unfold besideCapture
  rw [blocks_setCapture]

@[simp] theorem besideCapture_finish (r : RecordId) (o : ReqOutcome) (d : Detail) (c : Chip) :
    besideCapture (finish r o d c) = besideCapture c := besideCapture_of_blocks (blocks_finish r o d c)

@[simp] theorem besideCapture_leaveBurst (c : Chip) : besideCapture (leaveBurst c) = besideCapture c := by
  unfold leaveBurst setBurst
  extract_lets c1
  split <;> simp [c1]

theorem besideCapture_afterPicture (c : Chip) : besideCapture (afterPicture c) = besideCapture c := by
  unfold afterPicture
  extract_lets counted c1
  have h1 : besideCapture c1 = besideCapture c := besideCapture_setCapture _ c
  split
  · simp [endBurstByCount, spendPress, h1]
  · split <;> simp [h1]

theorem afterPicture_rest (c : Chip) : (afterPicture c).pixel = c.pixel ∧ (afterPicture c).slots = c.slots
    ∧ (afterPicture c).store = c.store ∧ (afterPicture c).busOut = c.busOut ∧ (afterPicture c).focus = c.focus
    ∧ (afterPicture c).search = c.search ∧ (afterPicture c).following = c.following := by
  have h := besideCapture_afterPicture c
  exact ⟨(congrArg Chip.pixel h :), (congrArg Chip.slots h :), (congrArg Chip.store h :), (congrArg Chip.busOut h :),
    (congrArg Chip.focus h :), (congrArg Chip.search h :), (congrArg Chip.following h :)⟩

theorem leaveBurst_filling (c : Chip) : (leaveBurst c).capture.filling = c.capture.filling := by
  rw [leaveBurst_capture]

theorem leaveBurst_notices (c : Chip) : (leaveBurst c).notices = c.notices := by
  unfold leaveBurst setBurst
  extract_lets c1
  have h1 : c1.notices = c.notices := setCapture_notices _ c
  have hset : ∀ f, (setCapture f c1).notices = c.notices := fun f => (setCapture_notices f c1).trans h1
  split
  · exact hset fun k => { k with state := .prepared }
  · rw [raise_notices, raise_notices, raise_notices]
    exact hset fun k => { k with state := .idle }

theorem afterPicture_filling (c : Chip) : (afterPicture c).capture.filling = none := by
  unfold afterPicture
  extract_lets counted c1
  have h1 : c1.capture.filling = none := congrArg Capture.filling (setCapture_capture _ c)
  have hspent : (finish .capture .done .none (spendPress c1)).capture.filling = none := by
    rw [capture_of_blocks ((blocks_finish .capture .done .none (spendPress c1)).trans (blocks_setCapture _ c1))]
    exact h1
  split
  · exact (leaveBurst_filling _).trans hspent
  · split
    · exact (leaveBurst_filling _).trans h1
    · rw [setCapture_capture]
      exact h1

/-- With no full press by request the end of a picture adds no notice of its own. -/
theorem afterPicture_notices {c : Chip} (h : c.capture.press ≠ .full) : (afterPicture c).notices = c.notices := by
  unfold afterPicture
  extract_lets counted c1
  have h1 : c1.notices = c.notices := setCapture_notices _ c
  have hcounted : counted = false := by simp [counted, h]
  rw [hcounted, Bool.false_and, if_neg (by decide)]
  split
  · exact (leaveBurst_notices c1).trans h1
  · exact (setCapture_notices _ c1).trans h1

theorem closeWindow_rest (c : Chip) : (closeWindow c).pixel = c.pixel ∧ (closeWindow c).slots = c.slots
    ∧ (closeWindow c).store = c.store ∧ (closeWindow c).busOut = c.busOut ∧ (closeWindow c).focus = c.focus
    ∧ (closeWindow c).capture = c.capture ∧ (closeWindow c).notices = c.notices
    ∧ (closeWindow c).search = c.search ∧ (closeWindow c).following = c.following := by
  have h := blocks_setStab (fun s => { s with window := none }) c
  exact ⟨pixel_of_blocks h, slots_of_blocks h, store_of_blocks h, (congrArg Chip.busOut h :), focus_of_blocks h,
    capture_of_blocks h, setStab_notices _ c, search_of_blocks h, following_of_blocks h⟩

theorem closeWindow_window (c : Chip) : (closeWindow c).stab.window = none := by
  obtain ⟨g, hg⟩ := setStab_stab (fun s => { s with window := none }) c
  exact congrArg Stab.window hg

/-! ### The end of the capture hold (R76) -/

theorem planMove_hold (c : Chip) : (planMove c).focus.hold = c.focus.hold := by
  unfold planMove
  split
  · rw [enterFocusIdle_focus]
  next d leg h =>
    split
    · unfold beginTrain
      dsimp only
      split
      · rfl
      · rw [enterFocus_focus]
    · extract_lets f
      split
      · rfl
      · rw [enterFocus_focus]

theorem endCaptureHold_hold (c : Chip) : (endCaptureHold c).focus.hold = false := by
  unfold endCaptureHold
  extract_lets c1
  split
  · exact planMove_hold _
  · rfl

theorem besideFocus_endCaptureHold (c : Chip) : besideFocus (endCaptureHold c) = besideFocus c := by
  unfold endCaptureHold
  extract_lets c1
  split
  · exact (besideFocus_planMove _).trans rfl
  · rfl

theorem endCaptureHold_rest (c : Chip) : (endCaptureHold c).pixel = c.pixel ∧ (endCaptureHold c).slots = c.slots
    ∧ (endCaptureHold c).store = c.store ∧ (endCaptureHold c).busOut = c.busOut ∧ (endCaptureHold c).stab = c.stab
    ∧ (endCaptureHold c).capture = c.capture ∧ (endCaptureHold c).notices = c.notices := by
  have h := besideFocus_endCaptureHold c
  exact ⟨(congrArg Chip.pixel h :), (congrArg Chip.slots h :), (congrArg Chip.store h :), (congrArg Chip.busOut h :),
    (congrArg Chip.stab h :), (congrArg Chip.capture h :), (congrArg Chip.notices h :)⟩

/-! ### A picture that fails (R153) -/

/-- The record of slot `n` as its picture fails with detail `d`. -/
def failedRecord (n : Nat) (d : Detail) (c : Chip) : PictureRecord :=
  { (if d = .dmaBusError then withSummary c.stab.window (slot c n) else slot c n) with
    state := .free, result := .failed, resultDetail := d }

theorem failPicture_eq (n : Nat) (d : Detail) (c : Chip) : failPicture n d c
    = afterPicture (notice .capture (notice .fault (setSlot n (failedRecord n d c) c))) := rfl

/-- What the failure of a picture leaves, and its slot. -/
theorem failPicture_facts {n : Nat} (d : Detail) {c : Chip} (hn : n < c.slots.length) :
    (failPicture n d c).pixel = c.pixel ∧ (failPicture n d c).busOut = c.busOut ∧ (failPicture n d c).focus = c.focus
      ∧ (failPicture n d c).search = c.search ∧ (failPicture n d c).following = c.following
      ∧ (failPicture n d c).capture.filling = none ∧ slot (failPicture n d c) n = failedRecord n d c
      ∧ (c.capture.press ≠ .full →
        (failPicture n d c).notices.counts = (c.notices.counts.modify 8 (· + 1)).modify 5 (· + 1)) := by
  have hblocks := blocks_setSlot n (failedRecord n d c) c
  have hslot := slot_setSlot_same n (failedRecord n d c) c hn
  have hcapture := (setSlot_capture_scan n (failedRecord n d c) c).1
  have hnotices := setSlot_notices n (failedRecord n d c) c
  rw [failPicture_eq]
  generalize setSlot n (failedRecord n d c) c = e at *
  obtain ⟨hpixel, hslots, -, hbus, hfocus, hsearch, hfollowing⟩ := afterPicture_rest (notice .capture (notice .fault e))
  refine ⟨hpixel.trans (pixel_of_blocks hblocks), hbus.trans (congrArg Chip.busOut hblocks :),
    hfocus.trans (focus_of_blocks hblocks), hsearch.trans (search_of_blocks hblocks),
    hfollowing.trans (following_of_blocks hblocks), afterPicture_filling _, (slot_of_slots hslots n).trans hslot, fun hpress => ?_⟩
  rw [← hcapture] at hpress
  rw [afterPicture_notices (c := notice .capture (notice .fault e)) hpress]
  exact congrArg (fun x => (x.counts.modify 8 (· + 1)).modify 5 (· + 1)) hnotices

/-! ### Truncation (R27, R37) -/

theorem frameReceived_iff (f : OpenFrame) (input : ReceivedFrame) :
    frameReceived f.width f.height input.lines = true ↔ Said.Complete f input := by
  simp [frameReceived, Said.Complete]

/-- Each way in which a frame ends short is its truncation. -/
theorem exec_truncation {i : Instr} {f : OpenFrame} {s : State} (hframe : s.chip.pixel.frame = some f)
    (hwaits : s.chip.pixel.nextStart = none)
    (hi : i = .frameTruncated ∨ i = .truncationTimeout
      ∨ ∃ input, i = .frameEnd input ∧ f.received = none ∧ ¬ Said.Complete f input) :
    exec i s = .next (concluded (truncateFrame f s.chip) s) := by
  have hcut : cutFrame settle s.chip = truncateFrame f s.chip := by
    simp only [cutFrame, takeNextStart, hwaits, truncateOpen, hframe]
  rcases hi with rfl | rfl | ⟨input, rfl, hreceived, hshort⟩
  · exact exec_of_commit rfl hcut
  · exact exec_of_commit rfl hcut
  · refine exec_of_commit (f := frameEnd settle input.lines input.written) rfl ?_
    simp only [frameEnd, hframe, hreceived]
    exact if_neg fun h => hshort ((frameReceived_iff f input).mp h)

/-- The part with the truncated frame closed and the motion mark dropped. -/
def frameCut (c : Chip) : Chip :=
  setFocus (fun x => { x with motion := false })
    (setPixel (fun p => { p with frame := none, nextStart := none, dma := dmaAfterFrame p.dma }) c)

theorem truncateFrame_plain {f : OpenFrame} {c : Chip} (hslot : f.captureSlot = none) (hdma : c.pixel.dma = .idle) :
    truncateFrame f c = { c with
      pixel := { c.pixel with frame := none, nextStart := none }, focus := { c.focus with motion := false } } := by
  have hframe : truncateFrame f c = frameCut c := by
    unfold truncateFrame
    simp only [hslot]
    rfl
  have hafter : dmaAfterFrame c.pixel.dma = c.pixel.dma := by rw [hdma]; rfl
  rw [hframe]
  show { c with
    pixel := { c.pixel with frame := none, nextStart := none, dma := dmaAfterFrame c.pixel.dma }
    focus := { c.focus with motion := false } } = _
  rw [hafter]

theorem truncateFrame_capture {f : OpenFrame} {n : Nat} {c : Chip} (hslot : f.captureSlot = some n)
    (hdma : c.pixel.dma = .running) : truncateFrame f c
      = endCaptureHold (closeWindow (failPicture n .truncated (frameCut (spoilBuffer n c)))) := by
  unfold truncateFrame
  simp only [hslot, hdma]
  exact if_neg (by decide)

/-- Settles O42. -/
theorem frameTruncation : Obligations.FrameTruncation := by
  unfold Obligations.FrameTruncation
  intro i f s hframe hwaits hi
  have hexec := exec_truncation hframe hwaits hi
  refine ⟨fun hslot hdma => ?_, fun n hslot hn hdma htrain hpress => ?_⟩
  · rw [hexec, truncateFrame_plain hslot hdma]
  · rw [truncateFrame_capture hslot hdma] at hexec
    obtain ⟨hpixel, -, hfocus, -, -, -, hfailed, hnotices⟩ :=
      failPicture_facts (c := frameCut (spoilBuffer n s.chip)) .truncated hn
    obtain ⟨hpixel', hslots', -, -, hfocus', -, hnotices', -, -⟩ :=
      closeWindow_rest (failPicture n .truncated (frameCut (spoilBuffer n s.chip)))
    have hwindow := closeWindow_window (failPicture n .truncated (frameCut (spoilBuffer n s.chip)))
    obtain ⟨hpixel'', hslots'', -, -, hstab'', -, hnotices''⟩ :=
      endCaptureHold_rest (closeWindow (failPicture n .truncated (frameCut (spoilBuffer n s.chip))))
    refine ⟨_, hexec, ?_⟩
    rw [hpixel'', hpixel', hpixel, slot_of_slots hslots'', slot_of_slots hslots', hfailed, hnotices'', hnotices',
      hnotices hpress, hstab'', hwindow, endCaptureHold_hold]
    exact ⟨rfl, congrArg dmaAfterFrame hdma, rfl, rfl, rfl, rfl⟩

/-! ### Metering at a frame end leaves the frame (R111) -/

/-- The figures of metering, the open frame and the DMA. -/
def frameView (c : Chip) : MeterFigures × Option OpenFrame × Dma := (c.exposure.figures, c.pixel.frame, c.pixel.dma)

theorem setExposure_frame (f : Exposure → Exposure) (c : Chip) : (setExposure f c).pixel.frame = c.pixel.frame
    ∧ (setExposure f c).pixel.dma = c.pixel.dma := by
  unfold setExposure followApplied
  extract_lets e gathered c0 c1 c2
  have h1 : c1.pixel.frame = c.pixel.frame ∧ c1.pixel.dma = c.pixel.dma := by
    simp only [c1]
    (repeat' split) <;> exact ⟨rfl, rfl⟩
  have h2 : c2.pixel = c1.pixel := by
    simp only [c2]
    split <;> rfl
  rw [← h2] at h1
  split <;> exact h1

theorem frameView_setExposure {f : Exposure → Exposure} {c : Chip} (h : (f c.exposure).figures = c.exposure.figures) :
    frameView (setExposure f c) = frameView c := by
  obtain ⟨g, hg⟩ := setExposure_exposure f c
  obtain ⟨hframe, hdma⟩ := setExposure_frame f c
  unfold frameView
  rw [hg, hframe, hdma, ← h]

theorem frameView_handOverApplied (c : Chip) : frameView (handOverApplied c) = frameView c := by
  unfold handOverApplied handTriple
  (repeat' split) <;> rfl

theorem frameView_meteringStep (err : Int) (c : Chip) : frameView (meteringStep err c) = frameView c := by
  unfold meteringStep
  extract_lets s
  split
  · exact frameView_setExposure rfl
  · split
    · rfl
    · extract_lets r c1
      have h1 : frameView c1 = frameView c := frameView_setExposure rfl
      split
      · exact (frameView_handOverApplied c1).trans h1
      · exact h1

/-- The part with the figures of a metered frame set. -/
def figuresSet (g : MeterFigures) (c : Chip) : Chip :=
  setExposure (fun e => { e with figures := g, settle := min e.settle (cfg c).meter.settleFrames }) c

theorem frameView_figuresSet (g : MeterFigures) (c : Chip) :
    frameView (figuresSet g c) = (g, c.pixel.frame, c.pixel.dma) := by
  obtain ⟨hframe, hdma⟩ :=
    setExposure_frame (fun e => { e with figures := g, settle := min e.settle (cfg c).meter.settleFrames }) c
  obtain ⟨x, hx⟩ :=
    setExposure_exposure (fun e => { e with figures := g, settle := min e.settle (cfg c).meter.settleFrames }) c
  unfold frameView figuresSet
  rw [hx, hframe, hdma]

theorem frameView_meterFrame_metered {f : OpenFrame} {t : Triple} {means : List Nat} {c : Chip} (ht : f.effective = some t)
    (hpart : c.port.partState = .running) (hmetered : f.metered = true) : frameView (meterFrame f means c)
      = (meter (cfg c).meter c.exposure.compensation (indexOf t) f.number means, c.pixel.frame, c.pixel.dma) := by
  unfold meterFrame
  simp only [ht, hpart, hmetered, and_self, if_true]
  split
  · exact (frameView_meteringStep _ _).trans (frameView_figuresSet _ c)
  · exact frameView_figuresSet _ c

theorem meterFrame_frame (f : OpenFrame) (means : List Nat) (c : Chip) :
    (meterFrame f means c).pixel.frame = c.pixel.frame ∧ (meterFrame f means c).pixel.dma = c.pixel.dma := by
  by_cases h : c.port.partState = .running ∧ f.metered = true
  · cases ht : f.effective with
    | none =>
      have hsame : meterFrame f means c = c := by simp only [meterFrame, ht]
      rw [hsame]
      exact ⟨rfl, rfl⟩
    | some t =>
      have hview := frameView_meterFrame_metered (means := means) ht h.1 h.2
      exact ⟨(congrArg (·.2.1) hview :), (congrArg (·.2.2) hview :)⟩
  · have hsame : meterFrame f means c = c := by
      unfold meterFrame
      split
      · rfl
      · exact if_neg h
    rw [hsame]
    exact ⟨rfl, rfl⟩

theorem meterFrame_quiet {f : OpenFrame} {means : List Nat} {c : Chip}
    (h : f.metered = false ∨ c.port.partState ≠ .running) : meterFrame f means c = c := by
  unfold meterFrame
  split
  · rfl
  · refine if_neg fun hmeters => ?_
    rcases h with h | h
    · exact absurd hmeters.2 (by simp [h])
    · exact h hmeters.1

theorem focusSample_idle {metered : Bool} {values : List (Option Nat)} {c : Chip} (hmotor : c.search.motor = false)
    (hfollowing : c.following.active = false) : focusSample metered values c = c := by
  unfold focusSample
  split
  · have hsearch : searchSample values c = c := if_neg (by simp [hmotor])
    rw [hsearch, followingSample_inactive values hfollowing]
  · rfl

theorem markGathered_rest (c : Chip) : let d := markGatheredStab (markGatheredExposure c)
    d.pixel = c.pixel ∧ d.slots = c.slots ∧ d.store = c.store ∧ d.busOut = c.busOut ∧ d.focus = c.focus
      ∧ d.capture = c.capture ∧ d.notices = c.notices ∧ d.stab.window = c.stab.window
      ∧ d.exposure.figures = c.exposure.figures := by
  unfold markGatheredStab markGatheredExposure markStab
  (repeat' split) <;> exact ⟨rfl, rfl, rfl, rfl, rfl, rfl, rfl, rfl, rfl⟩

/-! ### A picture that is complete (R151) -/

/-- The record of slot `n` with its picture of `bytes` bytes. -/
def filledRecord (n bytes : Nat) (c : Chip) : PictureRecord :=
  { withSummary c.stab.window (slot c n) with
    state := .filled, result := .ok, byteLength := bytes
    flags := { (withSummary c.stab.window (slot c n)).flags with burstLast := endsWithPicture c.capture }
    store := if (withSummary c.stab.window (slot c n)).flags.storeOn then .queued else .none }

theorem blocks_joinQueue (n : Nat) (c : Chip) :
    blocks (joinQueue n c) = { blocks c with store := { c.store with queue := c.store.queue ++ [n] } } := rfl

theorem withSummary_storeOn (w : Option Window) (p : PictureRecord) : (withSummary w p).flags.storeOn = p.flags.storeOn := by
  cases w <;> rfl

theorem completePicture_queued {n bytes : Nat} {c : Chip} (h : (slot c n).flags.storeOn = true) : completePicture n bytes c
    = afterPicture (notice .capture (joinQueue n (setSlot n (filledRecord n bytes c) c))) := by
  unfold completePicture
  extract_lets p last flags c1 c2
  have hc2 : c2 = joinQueue n c1 := if_pos ((withSummary_storeOn _ _).trans h)
  rw [hc2]
  rfl

theorem completePicture_kept {n bytes : Nat} {c : Chip} (h : (slot c n).flags.storeOn = false) : completePicture n bytes c
    = afterPicture (notice .capture (applyFreeing n (setSlot n (filledRecord n bytes c) c))) := by
  unfold completePicture
  extract_lets p last flags c1 c2
  have hc2 : c2 = applyFreeing n c1 := if_neg (by simp [p, withSummary_storeOn, h])
  rw [hc2]
  rfl

/-- What `afterPicture` is given on either way: the slot filled, its picture queued or held against the freeing rule. -/
theorem pictureFilled {n bytes : Nat} {c : Chip} (hn : n < c.slots.length) :
    ∃ d, completePicture n bytes c = afterPicture (notice .capture d) ∧ d.pixel = c.pixel ∧ d.busOut = c.busOut
      ∧ d.focus = c.focus ∧ d.search = c.search ∧ d.following = c.following ∧ d.capture = c.capture
      ∧ d.notices = c.notices ∧ (slot d n).result = .ok ∧ ((slot c n).flags.storeOn = true →
        (slot d n).state = .filled ∧ (slot d n).store = .queued ∧ d.store.queue = c.store.queue ++ [n]) := by
  have hblocks := blocks_setSlot n (filledRecord n bytes c) c
  have hslot := slot_setSlot_same n (filledRecord n bytes c) c hn
  have hnotices := setSlot_notices n (filledRecord n bytes c) c
  cases hstore : (slot c n).flags.storeOn with
  | true =>
    refine ⟨_, completePicture_queued hstore, ?_⟩
    have hqueued : (filledRecord n bytes c).store = .queued := if_pos ((withSummary_storeOn _ _).trans hstore)
    have hqueue : (setSlot n (filledRecord n bytes c) c).store.queue = c.store.queue :=
      congrArg Store.queue (store_of_blocks hblocks)
    have hjoin := blocks_joinQueue n (setSlot n (filledRecord n bytes c) c)
    rw [hblocks] at hjoin
    refine ⟨pixel_of_blocks hjoin, (congrArg Chip.busOut hjoin :), focus_of_blocks hjoin, search_of_blocks hjoin,
      following_of_blocks hjoin, capture_of_blocks hjoin, hnotices, ?_⟩
    have hjoined : slot (joinQueue n (setSlot n (filledRecord n bytes c) c)) n = filledRecord n bytes c := hslot
    rw [hjoined]
    exact ⟨rfl, fun _ => ⟨rfl, hqueued, congrArg (· ++ [n]) hqueue⟩⟩
  | false =>
    refine ⟨_, completePicture_kept hstore, ?_⟩
    have hfreeing := blocks_applyFreeing n (setSlot n (filledRecord n bytes c) c)
    have hfreed := slot_applyFreeing_same n (setSlot n (filledRecord n bytes c) c)
    obtain ⟨-, -, hnotices', -⟩ := applyFreeing_keeps n (setSlot n (filledRecord n bytes c) c)
    rw [hblocks] at hfreeing
    rw [hslot] at hfreed
    refine ⟨pixel_of_blocks hfreeing, (congrArg Chip.busOut hfreeing :), focus_of_blocks hfreeing,
      search_of_blocks hfreeing, following_of_blocks hfreeing, capture_of_blocks hfreeing, hnotices'.trans hnotices, ?_,
      fun h => absurd h (by decide)⟩
    rw [hfreed]
    unfold freedBy
    split <;> rfl

/-! ### The end of a capture frame (R28, R36) -/

/-- The part with frame `f` closed and its zones metered. -/
def frameMetered (f : OpenFrame) (frame : List (List Nat)) (c : Chip) : Chip :=
  meterFrame f (zoneMeans f.geometry frame)
    (setPixel (fun p => { p with frame := none, nextStart := none, dma := dmaAfterFrame p.dma }) c)

theorem frameMetered_pixel (f : OpenFrame) (frame : List (List Nat)) (c : Chip) :
    (frameMetered f frame c).pixel.frame = none ∧ (frameMetered f frame c).pixel.dma = dmaAfterFrame c.pixel.dma :=
  meterFrame_frame f _ _

theorem frameMetered_rest (f : OpenFrame) (frame : List (List Nat)) (c : Chip) :
    (frameMetered f frame c).slots = c.slots ∧ (frameMetered f frame c).store = c.store
      ∧ (frameMetered f frame c).busOut = c.busOut ∧ (frameMetered f frame c).search = c.search
      ∧ (frameMetered f frame c).following = c.following ∧ (frameMetered f frame c).capture = c.capture
      ∧ (frameMetered f frame c).settings = c.settings := by
  have h : besideMetering (frameMetered f frame c) = besideMetering c := besideMetering_meterFrame _ _ _
  exact ⟨(congrArg Chip.slots h :), (congrArg Chip.store h :), (congrArg Chip.busOut h :), (congrArg Chip.search h :),
    (congrArg Chip.following h :), (congrArg Chip.capture h :), (congrArg Chip.settings h :)⟩

theorem frameMetered_notices {f : OpenFrame} (frame : List (List Nat)) {c : Chip}
    (h : f.metered = false ∨ c.port.partState ≠ .running) : (frameMetered f frame c).notices = c.notices := by
  have hquiet : ∀ g means, (meterFrame f means (setPixel g c)).notices = c.notices := fun g means =>
    (congrArg Chip.notices (meterFrame_quiet (means := means) (c := setPixel g c) h) :)
  exact hquiet _ _

theorem completeFrame_plain {f : OpenFrame} (lines : List (List (BitVec 12))) (c : Chip) (hslot : f.captureSlot = none) :
    completeFrame f lines c = markGatheredStab (markGatheredExposure (focusSample f.metered
      (focusValues f.geometry (activeFrame f.width f.height lines))
      (frameMetered f (activeFrame f.width f.height lines) c))) := by
  simp only [completeFrame, captureFrameEnd, hslot]
  rfl

/-- The frame end of a capture frame, from the end `e` of its picture on. -/
def captureEnded (metered : Bool) (values : List (Option Nat)) (e : Chip) : Chip :=
  markGatheredStab (markGatheredExposure (endCaptureHold (focusSample metered values (closeWindow e))))

theorem completeFrame_running {f : OpenFrame} {n : Nat} {lines : List (List (BitVec 12))} {c : Chip}
    (hslot : f.captureSlot = some n) (hdma : c.pixel.dma = .running) :
    let frame := activeFrame f.width f.height lines
    let d := frameMetered f frame c
    completeFrame f lines c = captureEnded f.metered (focusValues f.geometry frame)
      (completePicture n (packFrame frame).length (busWrite (slotBase d n) (packFrame frame) d)) := by
  simp only [completeFrame, captureFrameEnd, hslot, hdma]
  rfl

theorem completeFrame_busFailed {f : OpenFrame} {n : Nat} {lines : List (List (BitVec 12))} {c : Chip}
    (hslot : f.captureSlot = some n) (hdma : c.pixel.dma = .busFailed) :
    let frame := activeFrame f.width f.height lines
    completeFrame f lines c = captureEnded f.metered (focusValues f.geometry frame)
      (failPicture n .dmaBusError (frameMetered f frame c)) := by
  simp only [completeFrame, captureFrameEnd, hslot, hdma]
  rfl

theorem captureEnded_facts (metered : Bool) (values : List (Option Nat)) {e : Chip} (hmotor : e.search.motor = false)
    (hfollowing : e.following.active = false) : let d := captureEnded metered values e
    d.pixel = e.pixel ∧ d.slots = e.slots ∧ d.store = e.store ∧ d.busOut = e.busOut ∧ d.capture = e.capture
      ∧ d.notices = e.notices ∧ d.stab.window = none ∧ d.focus.hold = false := by
  obtain ⟨hpixel, hslots, hstore, hbus, -, hcapture, hnotices, hsearch, hfollow⟩ := closeWindow_rest e
  have hidle : focusSample metered values (closeWindow e) = closeWindow e :=
    focusSample_idle (by rw [hsearch]; exact hmotor) (by rw [hfollow]; exact hfollowing)
  obtain ⟨hpixel', hslots', hstore', hbus', hstab', hcapture', hnotices'⟩ := endCaptureHold_rest (closeWindow e)
  obtain ⟨hpixel'', hslots'', hstore'', hbus'', hfocus'', hcapture'', hnotices'', hwindow'', -⟩ :=
    markGathered_rest (endCaptureHold (closeWindow e))
  unfold captureEnded
  rw [hidle]
  dsimp only
  rw [hpixel'', hslots'', hstore'', hbus'', hcapture'', hnotices'', hwindow'', hfocus'', hpixel', hslots', hstore', hbus',
    hcapture', hnotices', hstab', closeWindow_window, endCaptureHold_hold]
  exact ⟨hpixel, hslots, hstore, hbus, hcapture, hnotices, rfl, rfl⟩

/-- The frame end of a capture frame whose active frame is `data`, or the write that completes it. -/
theorem exec_inSlot {f : OpenFrame} {input : ReceivedFrame} {data : List (List Nat)} {s : State}
    (hframe : s.chip.pixel.frame = some f) (hwaits : s.chip.pixel.nextStart = none) (hdata : Said.InSlot f input data) :
    ∃ lines, data = activeFrame f.width f.height lines
      ∧ exec (.frameEnd input) s = .next (concluded (completeFrame f lines s.chip) s) := by
  obtain ⟨hwritten, lines, hlines, ⟨hreceived, hcomplete, rfl⟩ | hreceived⟩ := hdata
  · refine ⟨_, hlines, exec_of_commit (f := frameEnd settle input.lines input.written) rfl ?_⟩
    simp only [frameEnd, hframe, hreceived]
    rw [if_pos ((frameReceived_iff f input).mpr hcomplete)]
    exact if_neg (by simp [hwritten])
  · refine ⟨_, hlines, exec_of_commit (f := frameEnd settle input.lines input.written) rfl ?_⟩
    simp only [frameEnd, hframe, hreceived, hwritten, hwaits, takeNextStart, if_true]

/-- A complete frame that is no capture frame. -/
theorem exec_completeFrame {f : OpenFrame} {input : ReceivedFrame} {s : State} (hframe : s.chip.pixel.frame = some f)
    (hreceived : f.received = none) (hcomplete : Said.Complete f input) (hslot : f.captureSlot = none) :
    exec (.frameEnd input) s = .next (concluded (completeFrame f input.lines s.chip) s) := by
  refine exec_of_commit (f := frameEnd settle input.lines input.written) rfl ?_
  simp only [frameEnd, hframe, hreceived]
  rw [if_pos ((frameReceived_iff f input).mpr hcomplete)]
  exact if_neg (by simp [hslot])

theorem metered_end {f : OpenFrame} {input : ReceivedFrame} {s : State} (hframe : s.chip.pixel.frame = some f)
    (hmotor : s.chip.search.motor = false) (hfollowing : s.chip.following.active = false) (hreceived : f.received = none)
    (hcomplete : Said.Complete f input) (hslot : f.captureSlot = none) (hpart : s.chip.port.partState = .running)
    (hmetered : f.metered = true) {t : Triple} (ht : f.effective = some t) :
    ∃ c, exec (.frameEnd input) s = .next (concluded c s) ∧ c.pixel.frame = none
      ∧ c.exposure.figures = meter (cfg s.chip).meter s.chip.exposure.compensation
          ((t.xt : Int) + t.xg - t.xa) f.number (zoneMeans f.geometry (activeFrame f.width f.height input.lines))
      ∧ c.slots = s.chip.slots ∧ c.busOut = s.chip.busOut := by
  refine ⟨_, (exec_completeFrame hframe hreceived hcomplete hslot), ?_⟩
  rw [completeFrame_plain input.lines s.chip hslot]
  generalize activeFrame f.width f.height input.lines = frame
  obtain ⟨hslots, -, hbus, hsearch, hfollow, -, -⟩ := frameMetered_rest f frame s.chip
  have hview : frameView (frameMetered f frame s.chip) = _ := frameView_meterFrame_metered ht hpart hmetered
  have hidle : ∀ v, focusSample f.metered v (frameMetered f frame s.chip) = frameMetered f frame s.chip := fun v =>
    focusSample_idle (by rw [hsearch]; exact hmotor) (by rw [hfollow]; exact hfollowing)
  rw [hidle]
  obtain ⟨hpixel', hslots', -, hbus', -, -, -, -, hfigures'⟩ := markGathered_rest (frameMetered f frame s.chip)
  rw [hpixel', hslots', hbus', hfigures', hslots, hbus]
  exact ⟨(frameMetered_pixel f frame s.chip).1, (congrArg (·.1) hview :), rfl, rfl⟩

theorem inSlot_running {f : OpenFrame} {n : Nat} {lines : List (List (BitVec 12))} {c : Chip}
    (hmotor : c.search.motor = false) (hfollowing : c.following.active = false) (hslot : f.captureSlot = some n)
    (hn : n < c.slots.length) (hdma : c.pixel.dma = .running) : let d := completeFrame f lines c
    d.pixel.frame = none ∧ d.pixel.dma = .idle ∧ d.busOut = c.busOut
        ++ [((cfg c).pool.poolBase + n * (cfg c).pool.slotSize, packFrame (activeFrame f.width f.height lines))]
      ∧ (slot d n).result = .ok ∧ d.capture.filling = none ∧ d.stab.window = none ∧ d.focus.hold = false
      ∧ (c.capture.press ≠ .full ∧ (f.metered = false ∨ c.port.partState ≠ .running) →
        d.notices.counts = c.notices.counts.modify 5 (· + 1))
      ∧ ((slot c n).flags.storeOn = true →
        (slot d n).state = .filled ∧ (slot d n).store = .queued ∧ d.store.queue = c.store.queue ++ [n]) := by
  have hends := completeFrame_running (lines := lines) hslot hdma
  dsimp only at hends ⊢
  rw [hends]
  generalize activeFrame f.width f.height lines = frame
  obtain ⟨hslots, hstore, hbus, hsearch, hfollow, hcapture, hsettings⟩ := frameMetered_rest f frame c
  obtain ⟨hclosed, hdma'⟩ := frameMetered_pixel f frame c
  have hquiet := frameMetered_notices (f := f) frame (c := c)
  have hbase : slotBase (frameMetered f frame c) n = (cfg c).pool.poolBase + n * (cfg c).pool.slotSize := by
    unfold slotBase
    rw [cfg_of_settings hsettings]
  rw [hbase]
  generalize frameMetered f frame c = m at *
  have hslotM : slot (busWrite ((cfg c).pool.poolBase + n * (cfg c).pool.slotSize) (packFrame frame) m) n = slot c n :=
    slot_of_slots hslots n
  obtain ⟨b, hb, hpixelB, hbusB, -, hsearchB, hfollowB, hcaptureB, hnoticesB, hresult, hqueued⟩ :=
    pictureFilled (n := n) (bytes := (packFrame frame).length)
      (c := busWrite ((cfg c).pool.poolBase + n * (cfg c).pool.slotSize) (packFrame frame) m) (by
        show n < m.slots.length
        rw [hslots]
        exact hn)
  obtain ⟨hpixelA, hslotsA, hstoreA, hbusA, -, hsearchA, hfollowA⟩ := afterPicture_rest (notice .capture b)
  have hslotA : slot (afterPicture (notice .capture b)) n = slot b n := slot_of_slots hslotsA n
  rw [hb]
  obtain ⟨hpixelE, hslotsE, hstoreE, hbusE, hcaptureE, hnoticesE, hwindowE, hholdE⟩ :=
    captureEnded_facts f.metered (focusValues f.geometry frame) (e := afterPicture (notice .capture b))
      ((congrArg Search.motor (hsearchA.trans (hsearchB.trans hsearch))).trans hmotor)
      ((congrArg Following.active (hfollowA.trans (hfollowB.trans hfollow))).trans hfollowing)
  rw [hslotM] at hqueued
  rw [hpixelE, hbusE, slot_of_slots hslotsE, hcaptureE, hnoticesE, hwindowE, hholdE, hstoreE, hpixelA, hslotA, hbusA, hstoreA,
    afterPicture_filling]
  refine ⟨(congrArg Pixel.frame hpixelB).trans hclosed, (congrArg Pixel.dma hpixelB).trans (hdma'.trans ?_),
    hbusB.trans ?_, hresult, rfl, rfl, rfl, fun hpress => ?_, fun hon => ?_⟩
  · rw [hdma]
    rfl
  · exact congrArg (· ++ _) hbus
  · rw [afterPicture_notices (by
      show b.capture.press ≠ .full
      rw [hcaptureB]
      show m.capture.press ≠ .full
      rw [hcapture]
      exact hpress.1)]
    exact congrArg (fun x => x.counts.modify 5 (· + 1)) (hnoticesB.trans (hquiet hpress.2))
  · obtain ⟨hfilled, hstoreQ, hqueue⟩ := hqueued hon
    exact ⟨hfilled, hstoreQ, hqueue.trans (congrArg (fun x => x.queue ++ [n]) hstore)⟩

theorem inSlot_busFailed {f : OpenFrame} {n : Nat} {lines : List (List (BitVec 12))} {c : Chip}
    (hmotor : c.search.motor = false) (hfollowing : c.following.active = false) (hslot : f.captureSlot = some n)
    (hn : n < c.slots.length) (hdma : c.pixel.dma = .busFailed) : let d := completeFrame f lines c
    d.pixel.frame = none ∧ d.pixel.dma = .idle ∧ d.busOut = c.busOut ∧ (slot d n).state = .free
      ∧ (slot d n).result = .failed ∧ (slot d n).resultDetail = .dmaBusError ∧ d.capture.filling = none
      ∧ d.stab.window = none ∧ d.focus.hold = false
      ∧ (c.capture.press ≠ .full ∧ (f.metered = false ∨ c.port.partState ≠ .running) →
        d.notices.counts = (c.notices.counts.modify 8 (· + 1)).modify 5 (· + 1)) := by
  have hends := completeFrame_busFailed (lines := lines) hslot hdma
  dsimp only at hends ⊢
  rw [hends]
  generalize activeFrame f.width f.height lines = frame
  obtain ⟨hslots, -, hbus, hsearch, hfollow, hcapture, -⟩ := frameMetered_rest f frame c
  obtain ⟨hclosed, hdma'⟩ := frameMetered_pixel f frame c
  have hquiet := frameMetered_notices (f := f) frame (c := c)
  generalize frameMetered f frame c = m at *
  obtain ⟨hpixelF, hbusF, -, hsearchF, hfollowF, hfillingF, hslotF, hnoticesF⟩ :=
    failPicture_facts .dmaBusError (c := m) (n := n) (by rw [hslots]; exact hn)
  obtain ⟨hpixelE, hslotsE, -, hbusE, hcaptureE, hnoticesE, hwindowE, hholdE⟩ :=
    captureEnded_facts f.metered (focusValues f.geometry frame) (e := failPicture n .dmaBusError m)
      ((congrArg Search.motor (hsearchF.trans hsearch)).trans hmotor)
      ((congrArg Following.active (hfollowF.trans hfollow)).trans hfollowing)
  rw [hpixelE, hbusE, slot_of_slots hslotsE, hcaptureE, hnoticesE, hwindowE, hholdE, hpixelF, hbusF, hslotF, hfillingF]
  refine ⟨hclosed, hdma'.trans ?_, hbus, rfl, rfl, rfl, rfl, rfl, rfl, fun hpress => ?_⟩
  · rw [hdma]
    rfl
  · rw [hnoticesF (by rw [hcapture]; exact hpress.1), hquiet hpress.2]

/-- A frame start after a frame that has been received waits for its last DMA write. -/
theorem frameStart_waits (time : Nat) {c : Chip} {f : OpenFrame} (hruns : streamRunning c.pixel = true)
    (hframe : c.pixel.frame = some f) (hreceived : f.received.isSome = true) : frameStart settle time [] c
      = setPixel (fun p => { p with nextStart := some time }) { c with now := max c.now time } := by
  unfold frameStart
  extract_lets d
  have hd : d = { c with now := max c.now time } := rfl
  have hframe' : d.pixel.frame = some f := hframe
  rw [if_pos (show streamRunning d.pixel = true from hruns), hframe', hd]
  exact if_pos hreceived

/-- Settles O41. -/
theorem frameEnd : Obligations.FrameEnd := by
  unfold Obligations.FrameEnd
  refine ⟨fun f input s hframe hmotor hfollowing => ⟨?_, fun n data hslot hn hwaits hdata => ?_⟩,
    fun f input s hframe hcapture => ⟨?_, fun lines hreceived => ⟨?_, fun time hstream => ?_⟩⟩⟩
  · exact fun hreceived hcomplete hslot hpart hmetered t ht =>
      metered_end hframe hmotor hfollowing hreceived hcomplete hslot hpart hmetered ht
  · obtain ⟨lines, rfl, hexec⟩ := exec_inSlot hframe hwaits hdata
    exact ⟨fun hdma => ⟨_, hexec, inSlot_running hmotor hfollowing hslot hn hdma⟩,
      fun hdma => ⟨_, hexec, inSlot_busFailed hmotor hfollowing hslot hn hdma⟩⟩
  · intro hreceived hcomplete hwritten
    refine exec_of_commit (f := Machine.frameEnd settle input.lines input.written) rfl ?_
    simp only [Machine.frameEnd, hframe, hreceived]
    rw [if_pos ((frameReceived_iff f input).mpr hcomplete)]
    exact if_pos (by simp [hcapture, hwritten])
  · intro hwritten
    refine exec_of_commit (f := Machine.frameEnd settle input.lines input.written) rfl ?_
    simp only [Machine.frameEnd, hframe, hreceived, hwritten, Bool.false_eq_true, if_false]
  · refine exec_of_commit (f := Machine.frameStart settle time []) rfl ?_
    exact frameStart_waits time ((SensorStream.streamRunning_iff _).mpr hstream) hframe
      (Option.isSome_of_eq_some hreceived)

end Sys2Proof.Proofs.FrameEnds

end

section
/-! PROOFS. Frame starts (R26, R31, R76, R146, R149, R150): the frame opens, and Capture Control may claim a slot for it. -/

namespace Sys2Proof.Proofs.FrameStarts

-- One elaboration thread at a time: each waiting thread reserves a stack, and the text is long.
set_option Elab.async false

open Sys2Proof Sys2Proof.Machine Sys2Proof.Proofs.Part Sys2Proof.Proofs.SensorLimits Sys2Proof.Proofs.Requests
open Sys2Proof.Proofs.StoreRequests Sys2Proof.Proofs.ExposureRequests Sys2Proof.Proofs.FocusRequests
open Sys2Proof.Proofs.CaptureRequests Sys2Proof.Proofs.SearchRequests Sys2Proof.Proofs.SensorStream
open Sys2Proof.Proofs.FocusEvents Sys2Proof.Proofs.Stabilizer Sys2Proof.Proofs.FrameEnds Sys2Proof.Proofs.ZoomEvents
open Sys2Proof.Proofs.Buttons

/-! ### A search that ends early leaves the frame start alone (R100) -/

/-- The part without its bookkeeping and without what the end of a search may change. -/
def besideSearch (c : Chip) : Chip :=
  { blocks c with focus := {}, control := {}, search := {}, following := {}, tables := {}, wear := {} }

theorem besideSearch_of_blocks {c d : Chip} (h : blocks c = blocks d) : besideSearch c = besideSearch d :=
  congrArg (fun x => { x with focus := {}, control := {}, search := {}, following := {}, tables := {}, wear := {} }) h

theorem besideSearch_of_besideFocus {c d : Chip} (h : besideFocus c = besideFocus d) : besideSearch c = besideSearch d :=
  (congrArg besideSearch h :)

@[simp] theorem besideSearch_raise (e : Event) (c : Chip) : besideSearch (raise e c) = besideSearch c := rfl
@[simp] theorem besideSearch_notice (k : NoticeClass) (c : Chip) : besideSearch (notice k c) = besideSearch c := rfl
@[simp] theorem besideSearch_setSearch (f : Search → Search) (c : Chip) :
    besideSearch (setSearch f c) = besideSearch c := rfl

@[simp] theorem besideSearch_finish (r : RecordId) (o : ReqOutcome) (d : Detail) (c : Chip) :
    besideSearch (finish r o d c) = besideSearch c := besideSearch_of_blocks (blocks_finish r o d c)

@[simp] theorem besideSearch_setControl (f : Control → Control) (c : Chip) :
    besideSearch (setControl f c) = besideSearch c := by
  unfold besideSearch
  rw [blocks_setControl]

@[simp] theorem besideSearch_setFollowing (f : Following → Following) (c : Chip) :
    besideSearch (setFollowing f c) = besideSearch c := by
  unfold besideSearch
  rw [blocks_setFollowing]

@[simp] theorem besideSearch_handTarget (t : Int) (c : Chip) : besideSearch (handTarget t c) = besideSearch c :=
  besideSearch_of_besideFocus (besideFocus_handTarget t c)

@[simp] theorem besideSearch_readTrack (p : Int) (c : Chip) : besideSearch (readTrack p c).2 = besideSearch c := by
  obtain ⟨h, -⟩ := readTrack_readFrom p c
  rw [h]
  rfl

theorem besideSearch_retargetFound (target : Int) (c : Chip) : besideSearch (retargetFound target c) = besideSearch c := by
  unfold retargetFound
  extract_lets d w e
  have he : besideSearch e = besideSearch c :=
    besideSearch_setControl (fun k => { k with due := false, lastTarget := some target }) c
  split
  · exact (besideSearch_setFollowing _ e).trans he
  · exact he

theorem besideSearch_retarget (c : Chip) : besideSearch (retarget c) = besideSearch c := by
  unfold retarget
  split
  · cases h : (readTrack c.zoom.counter c).1 with
    | none => rw [doRetarget_none h, besideSearch_setControl, besideSearch_readTrack]
    | some t =>
      rw [doRetarget_some h]
      dsimp only
      rw [besideSearch_handTarget, besideSearch_retargetFound, besideSearch_readTrack]
  · rfl

theorem besideSearch_leaveSearchMode (found : Bool) (c : Chip) : besideSearch (leaveSearchMode found c) = besideSearch c := by
  unfold leaveSearchMode enterContinuous watchKeepingStep
  split <;> simp

theorem besideSearch_endSearchRequest (o : ReqOutcome) (d : Detail) (c : Chip) :
    besideSearch (endSearchRequest o d c) = besideSearch c := by
  unfold endSearchRequest
  split <;> simp

theorem besideSearch_endEarly (o : ReqOutcome) (d : Detail) (c : Chip) : besideSearch (endEarly o d c) = besideSearch c := by
  unfold endEarly
  split
  · rw [besideSearch_retarget, besideSearch_endSearchRequest]
    exact besideSearch_leaveSearchMode false c
  · rfl

theorem retargetFound_records (target : Int) (c : Chip) : (retargetFound target c).records = c.records := by
  unfold retargetFound
  extract_lets d w e
  have he : e.records = c.records :=
    setControl_records (fun k => { k with due := false, lastTarget := some target }) c
  split
  · exact (setFollowing_records _ e).trans he
  · exact he

theorem retarget_records (c : Chip) : (retarget c).records = c.records := by
  unfold retarget
  split
  · cases h : (readTrack c.zoom.counter c).1 with
    | none => rw [doRetarget_none h, setControl_records, readTrack_records]
    | some t =>
      rw [doRetarget_some h]
      dsimp only
      rw [records_of_besideFocus (besideFocus_handTarget _ _), retargetFound_records, readTrack_records]
  · rfl

theorem leaveSearchMode_records (found : Bool) (c : Chip) : (leaveSearchMode found c).records = c.records := by
  unfold leaveSearchMode enterContinuous watchKeepingStep
  split
  · rw [setFollowing_records, setFollowing_records, setControl_records]
  · exact setControl_records _ c

theorem record_endEarly_other {r : RecordId} (o : ReqOutcome) (d : Detail) (c : Chip) (h : r ≠ .focus) :
    record (endEarly o d c) r = record c r := by
  unfold endEarly
  split
  · rw [record_of_records (retarget_records _)]
    unfold endSearchRequest
    split
    · rw [record_finish_other _ _ _ h]
      exact record_of_records (leaveSearchMode_records false c) r
    · exact record_of_records (leaveSearchMode_records false c) r
  · rfl

/-! ### The final target of the search under the capture hold (R76) -/

/-- The drive after a final target that reached it at rest or suspended under the capture hold, `f` before and `g` after. -/
def TargetHeld (f g : Focus) : Prop :=
  g.counter = f.counter ∧ g.hold = true ∧ g.afterRamp = f.afterRamp
    ∧ ((g.train = .suspended ∧ ((f.train = .suspended ∧ g.state = f.state) ∨ g.state = .moving))
      ∨ (f.train = .none ∧ g = f))

theorem TargetHeld.rfl' {f : Focus} (hold : f.hold = true) (htrain : f.train = .none ∨ f.train = .suspended) :
    TargetHeld f f := by
  rcases htrain with h | h
  · exact ⟨rfl, hold, rfl, .inr ⟨h, rfl⟩⟩
  · exact ⟨rfl, hold, rfl, .inl ⟨h, .inl ⟨h, rfl⟩⟩⟩

theorem handTarget_held (t : Int) {c : Chip} (hold : c.focus.hold = true)
    (htrain : c.focus.train = .none ∨ c.focus.train = .suspended) : TargetHeld c.focus (handTarget t c).focus := by
  unfold handTarget
  extract_lets x
  rcases htrain with h | h <;> simp only [h]
  · split
    · rw [enterFocus_focus]
      exact ⟨rfl, hold, rfl, .inl ⟨rfl, .inr rfl⟩⟩
    · exact .rfl' hold (.inl h)
  · exact ⟨rfl, hold, rfl, .inl ⟨h, .inl ⟨h, rfl⟩⟩⟩

theorem setControl_focus (f : Control → Control) (c : Chip) : (setControl f c).focus = c.focus :=
  focus_of_blocks (blocks_setControl f c)

theorem setFollowing_focus (f : Following → Following) (c : Chip) : (setFollowing f c).focus = c.focus :=
  focus_of_blocks (blocks_setFollowing f c)

theorem retargetFound_focus (target : Int) (c : Chip) : (retargetFound target c).focus = c.focus := by
  unfold retargetFound
  extract_lets d w e
  have he : e.focus = c.focus := setControl_focus (fun k => { k with due := false, lastTarget := some target }) c
  split
  · exact (setFollowing_focus _ e).trans he
  · exact he

theorem retarget_held {c : Chip} (hold : c.focus.hold = true) (htrain : c.focus.train = .none ∨ c.focus.train = .suspended) :
    TargetHeld c.focus (retarget c).focus := by
  have hread : (readTrack c.zoom.counter c).2.focus = c.focus := by
    obtain ⟨h, -⟩ := readTrack_readFrom c.zoom.counter c
    rw [h]
  unfold retarget
  split
  · cases h : (readTrack c.zoom.counter c).1 with
    | none =>
      rw [doRetarget_none h, setControl_focus, hread]
      exact .rfl' hold htrain
    | some t =>
      rw [doRetarget_some h]
      dsimp only
      rw [← hread, ← retargetFound_focus _ (readTrack c.zoom.counter c).2] at hold htrain ⊢
      exact handTarget_held _ hold htrain
  · exact .rfl' hold htrain

theorem endEarly_held (o : ReqOutcome) (d : Detail) {c : Chip} (hold : c.focus.hold = true)
    (htrain : c.focus.train = .none ∨ c.focus.train = .suspended) : TargetHeld c.focus (endEarly o d c).focus := by
  have hleave : (leaveSearchMode false c).focus = c.focus := by
    unfold leaveSearchMode enterContinuous watchKeepingStep
    split
    · rw [setFollowing_focus, setFollowing_focus, setControl_focus]
    · exact setControl_focus _ c
  have hclosed : (endSearchRequest o d (closeSearch false (leaveSearchMode false c))).focus = c.focus := by
    unfold endSearchRequest
    split
    · exact (focus_finish _ _ _ _).trans hleave
    · exact hleave
  unfold endEarly
  split
  · rw [← hclosed] at hold htrain ⊢
    exact retarget_held hold htrain
  · exact .rfl' hold htrain

/-! ### The frame is counted and opened (R26, R31) -/

/-- The part at a frame start, the frame counted. -/
def counted (time : Nat) (c : Chip) : Chip := countFrame { c with now := max c.now time }

theorem counted_pixel (time : Nat) (c : Chip) : (counted time c).pixel
    = { advancePipeline (c.pixel.frameCounter + 1) { c.pixel with frameCounter := c.pixel.frameCounter + 1 } with
        stream := .streaming } :=
  setStream_pixel .streaming _

theorem setStream_rest (x : StreamState) (c : Chip) : (setStream x c).exposure
      = { c.exposure with writeDue := c.exposure.writeDue && streamRunning { c.pixel with stream := x } }
    ∧ (setStream x c).records = c.records ∧ (setStream x c).now = c.now := by
  unfold setStream
  extract_lets p c1
  split <;> exact ⟨rfl, rfl, rfl⟩

theorem besideMetering_setStream (x : StreamState) (c : Chip) : besideMetering (setStream x c) = besideMetering c := by
  unfold setStream
  extract_lets p c1
  split <;> rfl

theorem besideMetering_counted (time : Nat) (c : Chip) :
    besideMetering (counted time c) = besideMetering { c with now := max c.now time } :=
  (besideMetering_setStream _ _).trans (besideMetering_setPixel _ _)

/-- What else a counted frame leaves. -/
theorem counted_rest (time : Nat) (c : Chip) : (counted time c).capture = c.capture ∧ (counted time c).slots = c.slots
    ∧ (counted time c).focus = c.focus ∧ (counted time c).zoom = c.zoom ∧ (counted time c).search = c.search
    ∧ (counted time c).stab = c.stab ∧ (counted time c).settings = c.settings ∧ (counted time c).notices = c.notices
    ∧ (counted time c).records = c.records ∧ (counted time c).now = max c.now time := by
  have h := besideMetering_counted time c
  obtain ⟨-, hrecords, hnow⟩ := setStream_rest .streaming
    (setPixel (fun p => advancePipeline (nextFrame c) { p with frameCounter := nextFrame c }) { c with now := max c.now time })
  exact ⟨(congrArg Chip.capture h :), (congrArg Chip.slots h :), (congrArg Chip.focus h :), (congrArg Chip.zoom h :),
    (congrArg Chip.search h :), (congrArg Chip.stab h :), (congrArg Chip.settings h :), setStream_notices _ _, hrecords, hnow⟩

theorem advancePipeline_notDue {n : Word} {p : Pixel} (h : ∀ x ∈ p.pipeline, x.frame ≠ n) : advancePipeline n p = p := by
  have hfind : p.pipeline.find? (fun e => e.frame == n) = none :=
    List.find?_eq_none.mpr fun x hx => by simpa using h x hx
  simp only [advancePipeline, hfind]

theorem advancePipeline_due {n : Word} {p : Pixel} {e : PipelineEntry} {rest : List PipelineEntry}
    (hpipeline : p.pipeline = e :: rest) (he : e.frame = n) (hrest : ∀ x ∈ rest, x.frame ≠ n) : advancePipeline n p
      = { p with pipeline := rest, effective := some e.triple, iris := e.triple.iris } := by
  have hfind : p.pipeline.find? (fun e => e.frame == n) = some e := by simp [hpipeline, he]
  have hfilter : p.pipeline.filter (fun x => x.frame != n) = rest := by
    rw [hpipeline, List.filter_cons_of_neg (by simp [he])]
    exact List.filter_eq_self.mpr fun x hx => by simpa using hrest x hx
  simp only [advancePipeline, hfind, hfilter]

/-- The frame start from Capture Control's claim on. -/
def frameOpened (d : Chip) : Chip :=
  scanTrigger (focusFrameStart (exposureFrameStart (beginCaptureFrame (openFrame d))))

/-- No work waits in the part for the rest of a frame start. -/
structure Calm (c : Chip) : Prop where
  reread : c.exposure.reread = false
  resplit : c.exposure.resplitDue = false
  write : c.exposure.writeDue = false
  zoom : zoomInMotion c.zoom = false
  search : c.search.phase = .none
  settings : (record c .settings).held = none

theorem exposureFrameStart_calm {c : Chip} (h : Calm c) : exposureFrameStart c = c := by
  unfold exposureFrameStart
  simp [h.reread, h.resplit, h.write]

theorem focusFrameStart_calm {c : Chip} (h : Calm c) : focusFrameStart c = c := by
  unfold focusFrameStart searchWaitCheck
  simp [h.zoom, h.search]

theorem scanTrigger_calm {c : Chip} (h : Calm c) : ∃ x, scanTrigger c = { c with scan := x } := by
  cases hscanning : scanning c with
  | false => exact ⟨c.scan, scanTrigger_notScanning c hscanning⟩
  | true =>
    cases hactive : c.scan.active with
    | false => exact ⟨_, scanTrigger_begins c hscanning hactive h.settings⟩
    | true => exact ⟨_, scanTrigger_active c hscanning hactive⟩

/-- A frame start that waits for nothing opens its frame, and may trigger a scan. -/
theorem frameOpened_calm {d : Chip} (h : Calm (beginCaptureFrame (openFrame d))) :
    ∃ x, frameOpened d = { beginCaptureFrame (openFrame d) with scan := x } := by
  unfold frameOpened
  rw [exposureFrameStart_calm h, focusFrameStart_calm h]
  exact scanTrigger_calm h

theorem exec_frameStart {time : Nat} {s : State} {d : Chip} (hruns : s.chip.pixel.stream = .streaming ∨ s.chip.pixel.stream = .stalled)
    (hframe : s.chip.pixel.frame = none) (hd : frameOpened (claimFrame time (counted time s.chip)) = d) :
    exec (.frameStart time []) s = .next (concluded d s) := by
  refine exec_of_commit (f := frameStart settle time []) rfl ?_
  unfold frameStart
  extract_lets c
  have hc : c = { s.chip with now := max s.chip.now time } := rfl
  have hframe' : c.pixel.frame = none := hframe
  rw [if_pos (show streamRunning c.pixel = true from (streamRunning_iff _).mpr hruns), hframe', ← hd]
  rfl

/-! ### A frame start without a claim -/

theorem waitZoomCheck_rests {c : Chip} (h : c.capture.state ≠ .waitZoom) : waitZoomCheck c = c :=
  if_neg fun hwaits => h hwaits.1

theorem captureFrameStart_rests (time : Nat) (frame : Word) (t : Option Triple) {c : Chip}
    (h : c.capture.state = .idle ∨ c.capture.state = .prepared) : captureFrameStart time frame t c = c := by
  unfold captureFrameStart
  rw [waitZoomCheck_rests (by rcases h with h | h <;> simp [h])]
  rcases h with h | h <;> simp only [h]

theorem captureFrameStart_early {time : Nat} (frame : Word) (t : Option Triple) {c : Chip} (h : c.capture.state = .waitFrame)
    (hdue : pictureDue time c.capture.burst = false) : captureFrameStart time frame t c = c := by
  unfold captureFrameStart
  rw [waitZoomCheck_rests (by simp [h])]
  simp only [h, hdue, Bool.false_eq_true, if_false]

/-- The part in WAIT_ROOM, its next picture DELAYED. -/
def roomAwaited (c : Chip) : Chip :=
  setCapture (fun k => { k with state := .waitRoom, burst := { k.burst with delayed := true } }) c

theorem captureFrameStart_noRoom {time : Nat} (frame : Word) (t : Option Triple) {c : Chip}
    (h : c.capture.state = .waitFrame) (hdue : pictureDue time c.capture.burst = true) (hfree : lowestFree c = none) :
    captureFrameStart time frame t c = roomAwaited c := by
  unfold captureFrameStart
  rw [waitZoomCheck_rests (by simp [h])]
  simp only [h, hdue, hfree, if_true]
  rfl

theorem captureFrameStart_claims {time n : Nat} (frame : Word) (t : Option Triple) {c : Chip}
    (h : Said.PictureWanted time c.capture) (hfree : lowestFree c = some n) :
    captureFrameStart time frame t c = claim n time frame t c := by
  unfold captureFrameStart
  rcases h with ⟨hstate, htime⟩ | hstate
  · have hdue : pictureDue time c.capture.burst = true := by
      unfold pictureDue
      split
      · rfl
      next x hx => exact decide_eq_true (htime x hx)
    rw [waitZoomCheck_rests (by simp [hstate])]
    simp only [hstate, hdue, hfree, if_true]
  · rw [waitZoomCheck_rests (by simp [hstate])]
    simp only [hstate, hfree]

theorem lowestFree_of {n : Nat} {c : Chip} (h : Said.LowestFree n c) : lowestFree c = some n := by
  obtain ⟨-, hcount, -, hfree, hbelow⟩ := h
  refine List.find?_range_eq_some.mpr ⟨by simp [hfree], List.mem_range.mpr hcount, fun m hm => ?_⟩
  simpa using hbelow m hm

theorem lowestFree_none {c : Chip} (h : ∀ m < (cfg c).pool.slotCount, (slot c m).state ≠ .free) : lowestFree c = none := by
  refine List.find?_eq_none.mpr fun m hm => ?_
  simpa using h m (List.mem_range.mp hm)

theorem LowestFree_of_slots {n : Nat} {c d : Chip} (h : Said.LowestFree n c) (hslots : d.slots = c.slots)
    (hsettings : d.settings = c.settings) : Said.LowestFree n d := by
  obtain ⟨hlen, hcount, hn, hfree, hbelow⟩ := h
  refine ⟨by rw [hslots]; exact hlen, by rw [cfg_of_settings hsettings]; exact hcount, hn, ?_, fun m hm => ?_⟩
  · rw [slot_of_slots hslots]
    exact hfree
  · rw [slot_of_slots hslots]
    exact hbelow m hm

/-- A frame start at which no slot is claimed: `d` is the part as Capture Control leaves it. -/
theorem claimFrame_none {time : Nat} {c d : Chip}
    (h : captureFrameStart time c.pixel.frameCounter c.pixel.effective c = d) (hfilling : d.capture.filling = none) :
    claimFrame time c = d := by
  unfold claimFrame
  extract_lets start
  have hd : start c = d := h
  rw [hd, hfilling]
  exact if_neg (by decide)

theorem beginCaptureFrame_none {d : Chip} (h : d.capture.filling = none) :
    beginCaptureFrame (openFrame d) = setFocus (fun x => { x with motion := false }) (openFrame d) := by
  have hfilling : (openFrame d).capture.filling = none := h
  unfold beginCaptureFrame
  rw [hfilling]
  exact if_neg (by decide)

/-- A frame start that claims no slot opens its frame, and may trigger a scan. -/
theorem exec_plainStart {time : Nat} {s : State} {d : Chip} (hcalm : Said.CalmFrame s.chip)
    (hclaim : captureFrameStart time (counted time s.chip).pixel.frameCounter (counted time s.chip).pixel.effective
      (counted time s.chip) = d) (hfilling : d.capture.filling = none)
    (hblocks : besideCapture d = besideCapture (counted time s.chip)) (hrecords : d.records = (counted time s.chip).records) :
    ∃ x, exec (.frameStart time []) s = .next (concluded
      { setFocus (fun f => { f with motion := false }) (openFrame d) with scan := x } s) := by
  obtain ⟨⟨hruns, hframe, hreread, hresplit, hwrite, hzoom, hsettings⟩, hsearch⟩ := hcalm
  obtain ⟨-, -, -, hzoom', hsearch', -, -, -, hrecords', -⟩ := counted_rest time s.chip
  obtain ⟨hexposure', -, -⟩ := setStream_rest .streaming (setPixel (fun p => advancePipeline (s.chip.pixel.frameCounter + 1)
    { p with frameCounter := s.chip.pixel.frameCounter + 1 }) { s.chip with now := max s.chip.now time })
  have hexposureD : d.exposure = (counted time s.chip).exposure := (congrArg Chip.exposure hblocks :)
  have hzoomD : d.zoom = s.chip.zoom := (congrArg Chip.zoom hblocks :).trans hzoom'
  have hsearchD : d.search = s.chip.search := (congrArg Chip.search hblocks :).trans hsearch'
  have hcalm : Calm (beginCaptureFrame (openFrame d)) := by
    rw [beginCaptureFrame_none hfilling]
    exact {
      reread := (congrArg Exposure.reread (hexposureD.trans hexposure')).trans hreread
      resplit := (congrArg Exposure.resplitDue (hexposureD.trans hexposure')).trans hresplit
      write := (congrArg Exposure.writeDue (hexposureD.trans hexposure')).trans (by
        show (s.chip.exposure.writeDue && _) = false
        rw [hwrite, Bool.false_and])
      zoom := (congrArg zoomInMotion hzoomD).trans hzoom
      search := (congrArg Search.phase hsearchD).trans hsearch
      settings := by
        have h : record (setFocus (fun x => { x with motion := false }) (openFrame d)) .settings = record s.chip .settings :=
          record_of_records (hrecords.trans hrecords') _
        rw [h]
        exact hsettings }
  obtain ⟨x, hx⟩ := frameOpened_calm hcalm
  rw [beginCaptureFrame_none hfilling] at hx
  exact ⟨x, exec_frameStart hruns hframe ((congrArg frameOpened (claimFrame_none hclaim hfilling)).trans hx)⟩

theorem openFrame_pixel (d : Chip) : (openFrame d).pixel = { d.pixel with
    dma := if d.capture.filling.isSome then .running else d.pixel.dma
    frame := some {
      number := d.pixel.frameCounter, effective := d.pixel.effective, metered := d.pixel.pipeline.isEmpty,
      captureSlot := d.capture.filling, geometry := (cfg d).stats, width := (cfg d).sensor.width,
      height := (cfg d).sensor.height } } := rfl

/-- The frame that opens at a plain frame start, with `t` in effect. -/
def plainFrame (t : Option Triple) (metered : Bool) (c : Chip) : OpenFrame := {
  number := c.pixel.frameCounter + 1, effective := t, metered := metered, captureSlot := none,
  geometry := (cfg c).stats, width := (cfg c).sensor.width, height := (cfg c).sensor.height }

/-- The pixel path after a plain frame start, by whether an entry of the pipeline is due (R31). -/
theorem openFrame_counted {time : Nat} {c : Chip} (hfilling : c.capture.filling = none) :
    let p := (openFrame (counted time c)).pixel
    p.stream = .streaming ∧ p.frameCounter = c.pixel.frameCounter + 1
      ∧ ((∀ x ∈ c.pixel.pipeline, x.frame ≠ c.pixel.frameCounter + 1) →
        p.frame = some (plainFrame c.pixel.effective c.pixel.pipeline.isEmpty c) ∧ p.pipeline = c.pixel.pipeline
          ∧ p.effective = c.pixel.effective ∧ p.iris = c.pixel.iris)
      ∧ (∀ e rest, Said.EntryDue c.pixel e rest →
        p.frame = some (plainFrame (some e.triple) rest.isEmpty c) ∧ p.pipeline = rest
          ∧ p.effective = some e.triple ∧ p.iris = e.triple.iris) := by
  obtain ⟨hcapture, -, -, -, -, -, hsettings, -⟩ := counted_rest time c
  have hcfg : cfg (counted time c) = cfg c := cfg_of_settings hsettings
  dsimp only
  rw [openFrame_pixel, counted_pixel, hcapture, hfilling, hcfg]
  refine ⟨rfl, ?_, fun hnone => ?_, fun e rest ⟨hpipeline, he, hrest⟩ => ?_⟩
  · show (advancePipeline _ _).frameCounter = _
    unfold advancePipeline
    split <;> rfl
  · rw [advancePipeline_notDue (p := { c.pixel with frameCounter := c.pixel.frameCounter + 1 }) hnone]
    exact ⟨rfl, rfl, rfl, rfl⟩
  · rw [advancePipeline_due (p := { c.pixel with frameCounter := c.pixel.frameCounter + 1 }) hpipeline he hrest]
    exact ⟨rfl, rfl, rfl, rfl⟩

theorem besideCapture_roomAwaited (c : Chip) : besideCapture (roomAwaited c) = besideCapture c :=
  besideCapture_setCapture _ c

/-! ### A claim (R76, R136, R150) -/

theorem blocks_claim (n time : Nat) (frame : Word) (t : Option Triple) (c : Chip) :
    blocks (claim n time frame t c) = { blocks c with
      slots := c.slots.set n (claimedRecord n frame t c), capture := (claim n time frame t c).capture } := by
  unfold claim
  extract_lets c1
  have h1 : blocks c1 = { blocks c with slots := c.slots.set n (claimedRecord n frame t c) } := blocks_setSlot _ _ c
  rw [blocks_setCapture, setCapture_capture, h1]

theorem claim_capture (n time : Nat) (frame : Word) (t : Option Triple) (c : Chip) : (claim n time frame t c).capture
    = { c.capture with
        state := .filling, filling := some n, lastNumber := c.capture.nextNumber, nextNumber := c.capture.nextNumber + 1
        burst := { c.capture.burst with
          pictures := c.capture.burst.pictures + 1, previousStart := some time, delayed := false
          earliest := some (time + intervals.getD (c.capture.burst.rate.getD 0) 0) } } := by
  unfold claim
  extract_lets c1
  have h1 : c1.capture = c.capture := (setSlot_capture_scan n _ c).1
  rw [setCapture_capture, h1]

theorem setSlot_records (n : Nat) (p : PictureRecord) (c : Chip) : (setSlot n p c).records = c.records := by
  unfold setSlot
  extract_lets c1
  split <;> rfl

theorem claim_records (n time : Nat) (frame : Word) (t : Option Triple) (c : Chip) :
    (claim n time frame t c).records = c.records :=
  (setCapture_records _ _).trans (setSlot_records _ _ c)

theorem slot_claim {n : Nat} (time : Nat) (frame : Word) (t : Option Triple) {c : Chip} (hn : n < c.slots.length) :
    slot (claim n time frame t c) n = claimedRecord n frame t c := by
  have h : (claim n time frame t c).slots = c.slots.set n (claimedRecord n frame t c) :=
    slots_of_blocks (blocks_claim n time frame t c)
  rw [slot, h]
  simp [List.getD_eq_getElem?_getD, hn]

theorem claimFrame_claims {time n : Nat} {c d : Chip}
    (hwithout : (captureFrameStart time c.pixel.frameCounter c.pixel.effective c).capture.filling = some n)
    (hheld : captureFrameStart time c.pixel.frameCounter c.pixel.effective (beginCaptureHold c) = d) :
    claimFrame time c = d := by
  unfold claimFrame
  extract_lets start
  have hfilling : (start c).capture.filling = some n := hwithout
  rw [hfilling]
  exact hheld

theorem besideFocus_beginCaptureHold (c : Chip) : besideFocus (beginCaptureHold c) = besideFocus c := by
  unfold beginCaptureHold
  extract_lets c1
  split
  · rfl
  · split
    · exact (besideFocus_enterFocus _ _ c1).trans rfl
    · exact (besideFocus_enterFocus _ _ c1).trans rfl
    all_goals rfl

/-- The drive as the capture hold begins. -/
theorem beginCaptureHold_focus (c : Chip) : (beginCaptureHold c).focus.hold = true
    ∧ (c.focus.train ≠ .counted → c.focus.train ≠ .dwell → (beginCaptureHold c).focus = { c.focus with hold := true })
    ∧ (c.focus.train = .counted ∨ c.focus.train = .dwell → c.focus.afterRamp = .none → c.focus.state ≠ .homing →
      (beginCaptureHold c).focus = { c.focus with hold := true, state := .moving, train := .suspended }) := by
  unfold beginCaptureHold
  extract_lets c1
  have hc1 : c1.focus = { c.focus with hold := true } := rfl
  split
  next hends =>
    refine ⟨rfl, fun _ _ => rfl, fun _ hafter hhoming => ?_⟩
    rcases hends with h | h
    · exact absurd h hhoming
    · exact absurd hafter h
  next =>
    have hmoves : (enterFocus .moving (fun f => { f with train := .suspended }) c1).focus
        = { c.focus with hold := true, state := .moving, train := .suspended } := by rw [enterFocus_focus, hc1]
    split
    next h => exact ⟨by rw [hmoves], fun hcounted => absurd h hcounted, fun _ _ _ => hmoves⟩
    next h => exact ⟨by rw [hmoves], fun _ hdwell => absurd h hdwell, fun _ _ _ => hmoves⟩
    all_goals next h => exact ⟨rfl, fun _ _ => rfl, fun hmoving => absurd hmoving (by simp [h])⟩

/-! ### A train that ramps down at a capture frame start (R76) -/

/-- The part without its bookkeeping, the Focus Drive and the SERVICE in progress. -/
def besideDrive (c : Chip) : Chip := { blocks c with focus := {}, service := none }

theorem besideDrive_of_blocks {c d : Chip} (h : blocks c = blocks d) : besideDrive c = besideDrive d :=
  congrArg (fun x => { x with focus := {}, service := none }) h

theorem besideDrive_of_besideFocus {c d : Chip} (h : besideFocus c = besideFocus d) : besideDrive c = besideDrive d :=
  (congrArg besideDrive h :)

theorem besideDrive_finishService (o : ReqOutcome) (d : Detail) (c : Chip) :
    besideDrive (finishService o d c) = besideDrive c := by
  unfold finishService
  split
  · rfl
  · exact (besideDrive_of_blocks (blocks_finish _ _ _ _)).trans rfl

theorem besideDrive_faultEnded (d : Detail) (c : Chip) : besideDrive (faultEnded d c) = besideDrive c := by
  have hentered : ∀ k f, besideDrive (enterFocus k f c) = besideDrive c := fun k f =>
    besideDrive_of_besideFocus (besideFocus_enterFocus k f c)
  have hshown : besideDrive (FocusEvents.faultShown d c) = besideDrive c := hentered _ _
  have hfinish : besideDrive (finish .focus .failed d (FocusEvents.faultShown d c)) = besideDrive c :=
    (besideDrive_of_blocks (blocks_finish _ _ _ _)).trans hshown
  unfold faultEnded
  dsimp only
  split
  · exact (besideDrive_finishService _ _ _).trans hfinish
  · exact hfinish

theorem besideDrive_endTrain (c : Chip) : besideDrive (endTrain c) = besideDrive c := by
  unfold endTrain
  extract_lets c1
  split
  · exact (besideDrive_of_besideFocus (besideFocus_enterFocus _ _ c1)).trans rfl
  · rw [focusFault_eq]
    split <;> exact (besideDrive_faultEnded _ c1).trans rfl
  · exact (besideDrive_of_besideFocus (besideFocus_planMove c1)).trans rfl

theorem record_endTrain {r : RecordId} (c : Chip) (hfocus : r ≠ .focus) (hservice : r ≠ .service) :
    record (endTrain c) r = record c r := by
  unfold endTrain
  extract_lets c1
  split
  · exact record_of_records (records_enterFocus _ _ c1) r
  · have hended : record (faultEnded .lensTableFault c1) r = record c1 r := by
      have hfinish : record (finish .focus .failed .lensTableFault (FocusEvents.faultShown .lensTableFault c1)) r = record c1 r :=
        (record_finish_other _ _ _ hfocus).trans (record_of_records (records_enterFocus _ _ c1) r)
      unfold faultEnded
      dsimp only
      split
      · exact (record_finishService_other _ _ _ hservice).trans hfinish
      · exact hfinish
    rw [focusFault_eq]
    split <;> exact hended
  · exact record_of_records (records_of_besideFocus (besideFocus_planMove c1)) r

theorem endTrain_hold (c : Chip) : (endTrain c).focus.hold = c.focus.hold := by
  unfold endTrain
  extract_lets c1
  split
  · unfold enterHoming
    show (enterFocus _ _ _).focus.hold = _
    rw [enterFocus_focus]
    dsimp only
    split <;> rfl
  · rw [focusFault_focus]
    rfl
  · exact planMove_hold c1

theorem endRampAtHold_rest (c : Chip) : besideDrive (endRampAtHold c) = besideDrive c
    ∧ record (endRampAtHold c) .settings = record c .settings ∧ (endRampAtHold c).focus.hold = c.focus.hold := by
  unfold endRampAtHold
  split
  · exact ⟨besideDrive_endTrain c, record_endTrain c (by decide) (by decide), endTrain_hold c⟩
  · exact ⟨rfl, rfl, rfl⟩

theorem endRampAtHold_idle {c : Chip} (h : c.focus.train ≠ .counted) : endRampAtHold c = c :=
  if_neg fun hramps => h hramps.2.1

/-! ### A frame start that claims a slot -/

/-- The part as its capture frame opens, before the capture window does. -/
def captureOpened (d : Chip) : Chip := endRampAtHold (setFocus (fun x => { x with motion := false }) (openFrame d))

theorem beginCaptureFrame_some {n : Nat} {d : Chip} (h : d.capture.filling = some n) :
    beginCaptureFrame (openFrame d) = openWindow (captureOpened d) := by
  have hfilling : (openFrame d).capture.filling = some n := h
  unfold beginCaptureFrame captureOpened
  rw [hfilling]
  exact if_pos rfl

theorem captureOpened_rest (d : Chip) : besideDrive (captureOpened d) = besideDrive (openFrame d)
    ∧ record (captureOpened d) .settings = record d .settings ∧ (captureOpened d).focus.hold = d.focus.hold :=
  endRampAtHold_rest (setFocus (fun x => { x with motion := false }) (openFrame d))

theorem captureOpened_idle {d : Chip} (h : d.focus.train ≠ .counted) :
    (captureOpened d).focus = { d.focus with motion := false } :=
  congrArg Chip.focus (endRampAtHold_idle (c := setFocus (fun x => { x with motion := false }) (openFrame d)) h)

/-- A frame start that claims slot `n` opens its frame, window and hold, and may trigger a scan: `d` is the part after the
claim. -/
theorem exec_captureStart {time n : Nat} {s : State} {d : Chip} (hcalm : Said.CalmButSearch s.chip)
    (hclaim : claimFrame time (counted time s.chip) = d) (hfilling : d.capture.filling = some n)
    (hexposure : d.exposure = (counted time s.chip).exposure) (hzoom : d.zoom = s.chip.zoom)
    (hsearch : d.search.phase = .none) (hsettings : record d .settings = record s.chip .settings) :
    ∃ c, exec (.frameStart time []) s = .next (concluded c s) ∧ c.capture = d.capture ∧ c.slots = d.slots
      ∧ c.pixel.dma = .running ∧ c.focus = (captureOpened d).focus ∧ c.search.phase = .none
      ∧ ∃ w, c.stab.window = some w ∧ w.mode = d.stab.mode := by
  obtain ⟨hruns, hframe, hreread, hresplit, hwrite, hmotion, hheld⟩ := hcalm
  obtain ⟨hexposure', -, -⟩ := setStream_rest .streaming (setPixel (fun p => advancePipeline (s.chip.pixel.frameCounter + 1)
    { p with frameCounter := s.chip.pixel.frameCounter + 1 }) { s.chip with now := max s.chip.now time })
  obtain ⟨hopened, hopenedSettings, -⟩ := captureOpened_rest d
  have hwindow := blocks_setStab (fun x => { x with window := some ⟨x.mode, max x.x.residual x.y.residual, false⟩ })
    (captureOpened d)
  have hbegun : beginCaptureFrame (openFrame d) = openWindow (captureOpened d) := beginCaptureFrame_some hfilling
  have hrecords : (openWindow (captureOpened d)).records = (captureOpened d).records := setStab_records _ _
  have hstab : ∃ w, (openWindow (captureOpened d)).stab.window = some w ∧ w.mode = d.stab.mode := by
    obtain ⟨g, hg⟩ := setStab_stab (fun x => { x with window := some ⟨x.mode, max x.x.residual x.y.residual, false⟩ })
      (captureOpened d)
    have hmode : (captureOpened d).stab = d.stab := (congrArg Chip.stab hopened :)
    exact ⟨_, (congrArg Stab.window hg :), (congrArg Stab.mode hmode :)⟩
  have hfocus : (openWindow (captureOpened d)).focus = (captureOpened d).focus := focus_of_blocks hwindow
  have hcapture : (openWindow (captureOpened d)).capture = d.capture :=
    (capture_of_blocks hwindow).trans (congrArg Chip.capture hopened :)
  have hslots : (openWindow (captureOpened d)).slots = d.slots :=
    (slots_of_blocks hwindow).trans (congrArg Chip.slots hopened :)
  have hpixel : (openWindow (captureOpened d)).pixel = (openFrame d).pixel :=
    (pixel_of_blocks hwindow).trans (congrArg Chip.pixel hopened :)
  have hexposure'' : (openWindow (captureOpened d)).exposure = (counted time s.chip).exposure :=
    (exposure_of_blocks hwindow).trans ((congrArg Chip.exposure hopened :).trans hexposure)
  have hzoom'' : (openWindow (captureOpened d)).zoom = s.chip.zoom :=
    (zoom_of_blocks hwindow).trans ((congrArg Chip.zoom hopened :).trans hzoom)
  have hsearch'' : (openWindow (captureOpened d)).search = d.search :=
    (search_of_blocks hwindow).trans (congrArg Chip.search hopened :)
  have hsettings'' : record (openWindow (captureOpened d)) .settings = record s.chip .settings :=
    (record_of_records hrecords _).trans (hopenedSettings.trans hsettings)
  rw [← hbegun] at hstab hfocus hcapture hslots hpixel hexposure'' hzoom'' hsearch'' hsettings''
  have hcalm : Calm (beginCaptureFrame (openFrame d)) := {
    reread := (congrArg Exposure.reread (hexposure''.trans hexposure')).trans hreread
    resplit := (congrArg Exposure.resplitDue (hexposure''.trans hexposure')).trans hresplit
    write := (congrArg Exposure.writeDue (hexposure''.trans hexposure')).trans (by
      show (s.chip.exposure.writeDue && _) = false
      rw [hwrite, Bool.false_and])
    zoom := (congrArg zoomInMotion hzoom'').trans hmotion
    search := (congrArg Search.phase hsearch'').trans hsearch
    settings := (congrArg RecordState.held hsettings'').trans hheld }
  obtain ⟨x, hx⟩ := frameOpened_calm hcalm
  refine ⟨_, exec_frameStart hruns hframe ((congrArg frameOpened hclaim).trans hx), hcapture, hslots, ?_, hfocus,
    hcalm.search, hstab⟩
  have hdma : (openFrame d).pixel.dma = .running := by
    rw [openFrame_pixel, hfilling]
    rfl
  exact (congrArg Pixel.dma hpixel).trans hdma

/-- A claim in WAIT_FRAME or WAIT_ROOM. -/
theorem captureStart {time n : Nat} {s : State} (hcalm : Said.CalmFrame s.chip)
    (hwanted : Said.PictureWanted time s.chip.capture) (hfree : Said.LowestFree n s.chip) :
    ∃ c, exec (.frameStart time []) s = .next (concluded c s)
      ∧ c.capture.state = .filling ∧ c.capture.filling = some n
      ∧ c.capture.nextNumber = s.chip.capture.nextNumber + 1
      ∧ c.capture.lastNumber = s.chip.capture.nextNumber
      ∧ c.capture.burst.pictures = s.chip.capture.burst.pictures + 1
      ∧ c.capture.burst.previousStart = some time
      ∧ (slot c n).state = .filling ∧ (slot c n).result = .filling
      ∧ (slot c n).number = s.chip.capture.nextNumber ∧ (slot c n).fill = (slot s.chip n).fill + 1
      ∧ (slot c n).frame = s.chip.pixel.frameCounter + 1
      ∧ (slot c n).flags.delayed = s.chip.capture.burst.delayed
      ∧ c.pixel.dma = .running ∧ c.focus.hold = true
      ∧ (s.chip.focus.train = .none → c.focus = { s.chip.focus with hold := true, motion := false })
      ∧ (s.chip.focus.train = .counted ∨ s.chip.focus.train = .dwell → s.chip.focus.afterRamp = .none →
        s.chip.focus.state ≠ .homing →
        c.focus = { s.chip.focus with hold := true, motion := false, state := .moving, train := .suspended })
      ∧ (∃ w, c.stab.window = some w ∧ w.mode = s.chip.stab.mode) := by
  have hlen : n < s.chip.slots.length := by
    obtain ⟨hlen, -, hn, -⟩ := hfree
    rw [hlen]
    exact hn
  obtain ⟨hcaptureC, hslotsC, hfocusC, hzoomC, hsearchC, hstabC, hsettingsC, -, hrecordsC, -⟩ := counted_rest time s.chip
  have hheld := besideFocus_beginCaptureHold (counted time s.chip)
  have hcaptureH : (beginCaptureHold (counted time s.chip)).capture = s.chip.capture :=
    (congrArg Chip.capture hheld :).trans hcaptureC
  have hslotsH : (beginCaptureHold (counted time s.chip)).slots = s.chip.slots := (congrArg Chip.slots hheld :).trans hslotsC
  have hsettingsH : (beginCaptureHold (counted time s.chip)).settings = s.chip.settings :=
    (congrArg Chip.settings hheld :).trans hsettingsC
  obtain ⟨hhold, hstays, hsuspends⟩ := beginCaptureHold_focus (counted time s.chip)
  rw [hfocusC] at hstays hsuspends
  have hframe : (counted time s.chip).pixel.frameCounter = s.chip.pixel.frameCounter + 1 := by
    rw [counted_pixel]
    show (advancePipeline _ _).frameCounter = _
    unfold advancePipeline
    split <;> rfl
  have hfreeH := lowestFree_of (LowestFree_of_slots hfree hslotsH hsettingsH)
  have hfreeC := lowestFree_of (LowestFree_of_slots hfree hslotsC hsettingsC)
  have hclaim := claimFrame_claims (time := time) (n := n) (c := counted time s.chip)
    (by rw [captureFrameStart_claims _ _ (by rw [hcaptureC]; exact hwanted) hfreeC, claim_capture])
    (captureFrameStart_claims _ _ (by rw [hcaptureH]; exact hwanted) hfreeH)
  have hblocks := blocks_claim n time (counted time s.chip).pixel.frameCounter (counted time s.chip).pixel.effective
    (beginCaptureHold (counted time s.chip))
  have hcapture := claim_capture n time (counted time s.chip).pixel.frameCounter (counted time s.chip).pixel.effective
    (beginCaptureHold (counted time s.chip))
  have hslot := slot_claim time (counted time s.chip).pixel.frameCounter (counted time s.chip).pixel.effective
    (c := beginCaptureHold (counted time s.chip)) (n := n) (by rw [hslotsH]; exact hlen)
  have hrecords := claim_records n time (counted time s.chip).pixel.frameCounter (counted time s.chip).pixel.effective
    (beginCaptureHold (counted time s.chip))
  generalize claim n time (counted time s.chip).pixel.frameCounter (counted time s.chip).pixel.effective
    (beginCaptureHold (counted time s.chip)) = d at *
  have hfocusD : d.focus = (beginCaptureHold (counted time s.chip)).focus := focus_of_blocks hblocks
  rw [hcaptureH] at hcapture
  obtain ⟨c, hexec, hcaptureE, hslotsE, hdma, hfocusE, -, hwindow⟩ := exec_captureStart hcalm.1 hclaim (by rw [hcapture])
    ((exposure_of_blocks hblocks).trans (congrArg Chip.exposure hheld :))
    ((zoom_of_blocks hblocks).trans ((congrArg Chip.zoom hheld :).trans hzoomC))
    ((congrArg Search.phase ((search_of_blocks hblocks).trans ((congrArg Chip.search hheld :).trans hsearchC))).trans hcalm.2)
    ((record_of_records (hrecords.trans ((records_of_besideFocus hheld).trans hrecordsC)) _))
  have hstab : d.stab = s.chip.stab := (stab_of_blocks hblocks).trans ((congrArg Chip.stab hheld :).trans hstabC)
  rw [hstab] at hwindow
  refine ⟨c, hexec, ?_⟩
  rw [hcaptureE, slot_of_slots hslotsE, hfocusE, hcapture, hslot, (captureOpened_rest d).2.2, hfocusD]
  refine ⟨rfl, rfl, rfl, rfl, rfl, rfl, rfl, rfl, ?_, ?_, hframe, ?_, hdma, hhold, fun htrain => ?_,
    fun hmoves hafter hhoming => ?_, hwindow⟩
  · exact congrArg Capture.nextNumber hcaptureH
  · show (slot _ n).fill + 1 = _
    rw [slot_of_slots hslotsH]
  · exact congrArg (fun k => k.burst.delayed) hcaptureH
  · have hfocus := hstays (by simp [htrain]) (by simp [htrain])
    rw [captureOpened_idle (by rw [hfocusD, hfocus]; simp [htrain]), hfocusD, hfocus]
  · have hfocus := hsuspends hmoves hafter hhoming
    rw [captureOpened_idle (by rw [hfocusD, hfocus]; simp), hfocusD, hfocus]

/-! ### A frame start that ends the search for a burst (R146, R147) -/

theorem enterWaitFrame_capture (u : Bool) (c : Chip) : ∃ r, (enterWaitFrame u c).capture
    = { c.capture with
        state := .waitFrame
        burst := { c.capture.burst with
          rate := some r, earliest := some c.now, unconfirmed := c.capture.burst.unconfirmed || u } } := by
  unfold enterWaitFrame
  extract_lets need
  exact ⟨_, setCapture_capture _ c⟩

/-- What the abandonment of the search leaves. -/
theorem abandonSearch_facts (c : Chip) : (abandonSearch c).slots = c.slots ∧ (abandonSearch c).settings = c.settings
    ∧ (abandonSearch c).exposure = c.exposure ∧ (abandonSearch c).zoom = c.zoom
    ∧ record (abandonSearch c) .settings = record c .settings ∧ (abandonSearch c).search.phase = .none
    ∧ (abandonSearch c).focus = (endEarly .abandoned .cutByCapture c).focus
    ∧ (abandonSearch c).capture.state = .waitFrame ∧ (abandonSearch c).capture.burst.unconfirmed = true
    ∧ (abandonSearch c).capture.burst.earliest = some c.now := by
  have hended := besideSearch_endEarly .abandoned .cutByCapture c
  have hsettings := record_endEarly_other (r := .settings) .abandoned .cutByCapture c (by decide)
  have hover := endEarly_over .abandoned .cutByCapture c
  unfold abandonSearch
  generalize endEarly .abandoned .cutByCapture c = e at *
  have hblocks : blocks (enterWaitFrame true e) = { blocks e with capture := (enterWaitFrame true e).capture } := by
    unfold enterWaitFrame
    extract_lets need
    rw [blocks_setCapture, setCapture_capture]
  have hrecords : (enterWaitFrame true e).records = e.records := by
    unfold enterWaitFrame
    exact setCapture_records _ e
  obtain ⟨r, hcapture⟩ := enterWaitFrame_capture true e
  have hnow : e.now = c.now := (congrArg Chip.now hended :)
  refine ⟨(slots_of_blocks hblocks).trans (congrArg Chip.slots hended :),
    (settings_of_blocks hblocks).trans (congrArg Chip.settings hended :),
    (exposure_of_blocks hblocks).trans (congrArg Chip.exposure hended :),
    (zoom_of_blocks hblocks).trans (congrArg Chip.zoom hended :), (record_of_records hrecords _).trans hsettings,
    (congrArg Search.phase (search_of_blocks hblocks)).trans hover, focus_of_blocks hblocks, ?_⟩
  rw [hcapture, hnow]
  exact ⟨rfl, Bool.or_true _, rfl⟩

theorem waitZoomCheck_abandons {c : Chip} (hstate : c.capture.state = .waitZoom) (hsearch : c.search.phase ≠ .none)
    (hstill : zoomStill c.zoom = true) (hwait : c.capture.burst.priority ≠ 1 ∨ c.capture.burst.focusWait = 0) :
    waitZoomCheck c = abandonSearch c := by
  have hsearching : searching c = true := by simpa [searching] using hsearch
  have hsettled : focusSettled c = true := by simp [focusSettled, hsearching]
  unfold waitZoomCheck
  rw [if_pos ⟨hstate, hstill, hsettled⟩, if_pos hsearching, if_neg]
  rintro ⟨hpriority, hfocusWait⟩
  rcases hwait with h | h
  · exact h hpriority
  · exact hfocusWait h

theorem captureFrameStart_endsSearch {time n : Nat} (frame : Word) (t : Option Triple) {c : Chip}
    (hstate : c.capture.state = .waitZoom) (hsearch : c.search.phase ≠ .none) (hstill : zoomStill c.zoom = true)
    (hwait : c.capture.burst.priority ≠ 1 ∨ c.capture.burst.focusWait = 0) (hnow : c.now ≤ time)
    (hfree : Said.LowestFree n c) : captureFrameStart time frame t c = claim n time frame t (abandonSearch c) := by
  obtain ⟨hslots, hsettings, -, -, -, -, -, hstate', -, hearliest⟩ := abandonSearch_facts c
  have hwanted : Said.PictureWanted time (abandonSearch c).capture := by
    refine .inl ⟨hstate', fun x hx => ?_⟩
    rw [hearliest] at hx
    cases hx
    exact hnow
  rw [← captureFrameStart_claims frame t hwanted (lowestFree_of (LowestFree_of_slots hfree hslots hsettings))]
  unfold captureFrameStart
  rw [waitZoomCheck_abandons hstate hsearch hstill hwait, waitZoomCheck_rests (by rw [hstate']; decide)]

/-- The drive at the end of a frame start that ended the search, `f` before it. -/
theorem targetHeld_afterHold {f h g : Focus} (hhomes : f.state ≠ .homing) (hafter : f.afterRamp = .none)
    (hcontinuous : f.train ≠ .continuous)
    (hstays : f.train ≠ .counted → f.train ≠ .dwell → h = { f with hold := true })
    (hsuspends : f.train = .counted ∨ f.train = .dwell → f.afterRamp = .none → f.state ≠ .homing →
      h = { f with hold := true, state := .moving, train := .suspended })
    (hg : h.train = .none ∨ h.train = .suspended → TargetHeld h g) :
    g.train ≠ .counted ∧ g.hold = true ∧ g.counter = f.counter
      ∧ ((g.train = .suspended ∧ (f.train = .suspended ∨ g.state = .moving))
        ∨ (f.train = .none ∧ g = { f with hold := true })) := by
  by_cases hmoves : f.train = .counted ∨ f.train = .dwell
  · obtain rfl := hsuspends hmoves hafter hhomes
    obtain ⟨hcounter, hhold, -, hends⟩ := hg (.inr rfl)
    rcases hends with ⟨htrain, hstate⟩ | ⟨hnone, -⟩
    · refine ⟨by simp [htrain], hhold, hcounter, .inl ⟨htrain, .inr ?_⟩⟩
      rcases hstate with ⟨-, hstate⟩ | hstate <;> exact hstate
    · exact absurd hnone (by simp)
  · rw [not_or] at hmoves
    obtain rfl := hstays hmoves.1 hmoves.2
    have hrests : f.train = .none ∨ f.train = .suspended := by
      cases h : f.train <;> simp_all
    obtain ⟨hcounter, hhold, -, hends⟩ := hg hrests
    rcases hends with ⟨htrain, hstate⟩ | ⟨hnone, hsame⟩
    · refine ⟨by simp [htrain], hhold, hcounter, .inl ⟨htrain, ?_⟩⟩
      rcases hstate with ⟨hsuspended, -⟩ | hmoving
      · exact .inl hsuspended
      · exact .inr hmoving
    · exact ⟨by rw [hsame]; exact hmoves.1, hhold, hcounter, .inr ⟨hnone, hsame⟩⟩

theorem captureEndsSearch : Said.CaptureEndsSearch := by
  unfold Said.CaptureEndsSearch
  intro time n s hcalm hsearch hstate hfilling hstill hwait hnow hfree hhomes hafter hcontinuous
  obtain ⟨hcaptureC, hslotsC, hfocusC, hzoomC, hsearchC, -, hsettingsC, -, hrecordsC, hnowC⟩ := counted_rest time s.chip
  have hnowC' : (counted time s.chip).now ≤ time := by
    rw [hnowC]
    exact Nat.max_le.mpr ⟨hnow, Nat.le_refl _⟩
  have hheld := besideFocus_beginCaptureHold (counted time s.chip)
  obtain ⟨hhold, hstays, hsuspends⟩ := beginCaptureHold_focus (counted time s.chip)
  rw [hfocusC] at hstays hsuspends
  have hlen : n < s.chip.slots.length := by
    obtain ⟨hlen, -, hn, -⟩ := hfree
    rw [hlen]
    exact hn
  have hstart : ∀ c frame t, c.capture = s.chip.capture → c.search = s.chip.search → c.zoom = s.chip.zoom → c.now ≤ time →
      c.slots = s.chip.slots → c.settings = s.chip.settings →
      captureFrameStart time frame t c = claim n time frame t (abandonSearch c) := by
    intro c frame t hcapture hsearch' hzoom hnow' hslots hsettings
    exact captureFrameStart_endsSearch frame t (by rw [hcapture]; exact hstate) (by rw [hsearch']; exact hsearch)
      (by rw [hzoom]; exact hstill) (by rw [hcapture]; exact hwait) hnow' (LowestFree_of_slots hfree hslots hsettings)
  have hslotsH : (beginCaptureHold (counted time s.chip)).slots = s.chip.slots := (congrArg Chip.slots hheld :).trans hslotsC
  have hclaim := claimFrame_claims (time := time) (n := n) (c := counted time s.chip)
    (by rw [hstart _ _ _ hcaptureC hsearchC hzoomC hnowC' hslotsC hsettingsC, claim_capture])
    (hstart (beginCaptureHold (counted time s.chip)) _ _ ((congrArg Chip.capture hheld :).trans hcaptureC)
      ((congrArg Chip.search hheld :).trans hsearchC) ((congrArg Chip.zoom hheld :).trans hzoomC)
      (le_of_eq_of_le (congrArg Chip.now hheld :) hnowC') hslotsH ((congrArg Chip.settings hheld :).trans hsettingsC))
  have hended := endEarly_held .abandoned .cutByCapture hhold
  obtain ⟨hslotsA, -, hexposureA, hzoomA, hrecordA, hsearchA, hfocusA, -, hunconfirmed, -⟩ :=
    abandonSearch_facts (beginCaptureHold (counted time s.chip))
  rw [← hfocusA] at hended
  have hrecordH : record (beginCaptureHold (counted time s.chip)) .settings = record s.chip .settings :=
    record_of_records ((records_of_besideFocus hheld).trans hrecordsC) _
  have hfocus := targetHeld_afterHold hhomes hafter hcontinuous hstays hsuspends hended
  generalize abandonSearch (beginCaptureHold (counted time s.chip)) = a at *
  have hblocks := blocks_claim n time (counted time s.chip).pixel.frameCounter (counted time s.chip).pixel.effective a
  have hcapture := claim_capture n time (counted time s.chip).pixel.frameCounter (counted time s.chip).pixel.effective a
  have hslot := slot_claim time (counted time s.chip).pixel.frameCounter (counted time s.chip).pixel.effective
    (c := a) (n := n) (by rw [hslotsA, hslotsH]; exact hlen)
  have hrecords := claim_records n time (counted time s.chip).pixel.frameCounter (counted time s.chip).pixel.effective a
  generalize claim n time (counted time s.chip).pixel.frameCounter (counted time s.chip).pixel.effective a = d at *
  have hfocusD : d.focus = a.focus := focus_of_blocks hblocks
  obtain ⟨c, hexec, hcaptureE, hslotsE, -, hfocusE, hover, -⟩ := exec_captureStart hcalm hclaim (by rw [hcapture])
    ((exposure_of_blocks hblocks).trans (hexposureA.trans (congrArg Chip.exposure hheld :)))
    ((zoom_of_blocks hblocks).trans (hzoomA.trans ((congrArg Chip.zoom hheld :).trans hzoomC)))
    ((congrArg Search.phase (search_of_blocks hblocks)).trans hsearchA)
    ((record_of_records hrecords _).trans (hrecordA.trans hrecordH))
  obtain ⟨htrain, hheldE, hcounter, hends⟩ := hfocus
  refine ⟨c, hexec, ?_⟩
  rw [hcaptureE, slot_of_slots hslotsE, hfocusE, captureOpened_idle (by rw [hfocusD]; exact htrain), hfocusD, hcapture, hslot]
  refine ⟨rfl, hover, hunconfirmed, hheldE, hcounter, ?_⟩
  rcases hends with hmoves | ⟨hnone, hsame⟩
  · exact .inl hmoves
  · exact .inr ⟨hnone, by rw [hsame]⟩

theorem roomAwaited_facts (c : Chip) : (roomAwaited c).capture.state = .waitRoom
    ∧ (roomAwaited c).capture.burst.delayed = true ∧ (roomAwaited c).capture.filling = c.capture.filling
    ∧ (roomAwaited c).slots = c.slots := by
  have h : (roomAwaited c).capture
      = { c.capture with state := .waitRoom, burst := { c.capture.burst with delayed := true } } := setCapture_capture _ c
  rw [h]
  exact ⟨rfl, rfl, rfl, slots_of_blocks (blocks_setCapture _ c)⟩

/-- A frame start in WAIT_FRAME with no slot FREE. -/
theorem noRoomStart {time : Nat} {s : State} (hcalm : Said.CalmFrame s.chip) (hstate : s.chip.capture.state = .waitFrame)
    (hfilling : s.chip.capture.filling = none) (hdue : ∀ t, s.chip.capture.burst.earliest = some t → t ≤ time)
    (hnoRoom : ∀ m < (cfg s.chip).pool.slotCount, (slot s.chip m).state ≠ .free) :
    ∃ c, exec (.frameStart time []) s = .next (concluded c s) ∧ c.capture.state = .waitRoom
      ∧ c.capture.burst.delayed = true ∧ c.capture.filling = none ∧ c.slots = s.chip.slots := by
  obtain ⟨hcapture, hslots, -, -, -, -, hsettings, -⟩ := counted_rest time s.chip
  have hpicture : pictureDue time (counted time s.chip).capture.burst = true := by
    rw [hcapture]
    unfold pictureDue
    split
    · rfl
    next x hx => exact decide_eq_true (hdue x hx)
  have hnone : lowestFree (counted time s.chip) = none := by
    refine lowestFree_none fun m hm => ?_
    rw [cfg_of_settings hsettings] at hm
    rw [slot_of_slots hslots]
    exact hnoRoom m hm
  obtain ⟨hroom, hdelayed, hfilling', hslots'⟩ := roomAwaited_facts (counted time s.chip)
  rw [hcapture, hfilling] at hfilling'
  rw [hslots] at hslots'
  obtain ⟨x, hexec⟩ := exec_plainStart hcalm
    (captureFrameStart_noRoom _ _ (by rw [hcapture]; exact hstate) hpicture hnone) hfilling' (besideCapture_roomAwaited _)
    (setCapture_records _ _)
  generalize roomAwaited (counted time s.chip) = d at *
  exact ⟨_, hexec, hroom, hdelayed, hfilling', hslots'⟩

/-- A frame start in WAIT_FRAME before the time of the next picture. -/
theorem earlyStart {time t : Nat} {s : State} (hcalm : Said.CalmFrame s.chip) (hstate : s.chip.capture.state = .waitFrame)
    (hfilling : s.chip.capture.filling = none) (ht : s.chip.capture.burst.earliest = some t) (hearly : time < t) :
    ∃ c, exec (.frameStart time []) s = .next (concluded c s) ∧ c.capture = s.chip.capture ∧ c.slots = s.chip.slots := by
  obtain ⟨hcapture, hslots, -⟩ := counted_rest time s.chip
  have hpicture : pictureDue time (counted time s.chip).capture.burst = false := by
    rw [hcapture, pictureDue, ht]
    exact decide_eq_false (Nat.not_le.mpr hearly)
  obtain ⟨x, hexec⟩ := exec_plainStart hcalm (captureFrameStart_early _ _ (by rw [hcapture]; exact hstate) hpicture)
    (by rw [hcapture]; exact hfilling) rfl rfl
  exact ⟨_, hexec, hcapture, hslots⟩

/-- Settles O40. -/
theorem frameStarts : Obligations.FrameStarts := by
  unfold Obligations.FrameStarts
  refine ⟨captureEndsSearch, fun time s hcalm hstate hfilling => ?_, fun time s hcalm hstate hfilling =>
    ⟨fun hdue hnoRoom => noRoomStart hcalm hstate hfilling hdue hnoRoom,
      fun t ht hearly => earlyStart hcalm hstate hfilling ht hearly⟩,
    fun time n s hcalm hwanted hfree => captureStart hcalm hwanted hfree⟩
  intro opened
  obtain ⟨hcapture, -, hfocus, -, -, -, -, hnotices, -⟩ := counted_rest time s.chip
  obtain ⟨x, hexec⟩ := exec_plainStart hcalm (captureFrameStart_rests time _ _ (by rw [hcapture]; exact hstate))
    (by rw [hcapture]; exact hfilling) rfl rfl
  obtain ⟨hstream, hcounter, hnone, hdue⟩ := openFrame_counted (time := time) hfilling
  exact ⟨_, hexec, hstream, hcounter, hnone, hdue, congrArg (fun f => { f with motion := false }) hfocus, hnotices,
    hcapture⟩

end Sys2Proof.Proofs.FrameStarts

end

section
/-! PROOFS. The steps of a start (R16): homing of the focus, the streams, and RUNNING. -/

namespace Sys2Proof.Proofs.StartSteps

-- One elaboration thread at a time: each waiting thread reserves a stack, and the text is long.
set_option Elab.async false

open Sys2Proof Sys2Proof.Machine Sys2Proof.Proofs.Part Sys2Proof.Proofs.SensorLimits Sys2Proof.Proofs.Requests
open Sys2Proof.Proofs.StoreRequests Sys2Proof.Proofs.SensorStream Sys2Proof.Proofs.FocusEvents

/-- The part with start step `p`. -/
def atStep (p : StartStep) (c : Chip) : Chip := setPort (fun x => { x with startStep := p }) c

/-! ### The zoom's step and the focus step -/

theorem zoomStartEnded_iff (z : Zoom) : zoomStartEnded z = true ↔ z.state = .idle ∨ z.state = .parked ∨ z.state = .fault := by
  unfold zoomStartEnded
  split <;> simp [*]

theorem startStepEnd_zoom {c : Chip} (hstep : c.port.startStep = .zoom)
    (hzoom : c.zoom.state = .idle ∨ c.zoom.state = .parked ∨ c.zoom.state = .fault) :
    startStepEnd c = startHoming .track (atStep .focus c) := by
  simp only [startStepEnd, hstep, (zoomStartEnded_iff c.zoom).mpr hzoom, if_true]
  rfl

theorem startHoming_rests {goal : FocusGoal} {c : Chip} (h : c.focus.train ≠ .counted) :
    startHoming goal c = enterHoming goal c := if_neg h

theorem startHoming_towardFault {goal : FocusGoal} {c : Chip} (htrain : c.focus.train = .counted)
    (hafter : c.focus.afterRamp = .fault) : startHoming goal c = c := (if_pos htrain).trans (if_pos hafter)

theorem enterHoming_focus (goal : FocusGoal) (c : Chip) : (enterHoming goal c).focus.state = .homing
    ∧ (enterHoming goal c).focus.homed = false ∧ (enterHoming goal c).focus.homingGoal = goal
    ∧ (enterHoming goal c).focus.train = .continuous := by
  unfold enterHoming
  show (enterFocus _ _ c).focus.state = _ ∧ (enterFocus _ _ c).focus.homed = _ ∧ (enterFocus _ _ c).focus.homingGoal = _
    ∧ (enterFocus _ _ c).focus.train = _
  rw [enterFocus_focus]
  dsimp only
  split <;> exact ⟨rfl, rfl, rfl, rfl⟩

theorem enterHoming_port (goal : FocusGoal) (c : Chip) : (enterHoming goal c).port = c.port :=
  (congrArg Chip.port (FocusRequests.besideFocus_enterFocus _ _ c) :)

/-! ### The streams -/

theorem startStepEnd_focus {c : Chip} (hstep : c.port.startStep = .focus) (hhoming : c.focus.state ≠ .homing)
    (hafter : c.focus.afterRamp = .none) : startStepEnd c = gyroStart (sensorConfigStart (atStep .streams c)) := by
  have hended : focusStartEnded c.focus = true := by simp [focusStartEnded, hhoming, hafter]
  simp only [startStepEnd, hstep, hended, if_true]
  rfl

theorem sensorConfigStart_applied {c : Chip} {t : Triple} (h : c.exposure.applied = some t) : sensorConfigStart c
    = enterConfiguring true t { c with pixel := { c.pixel with inFlight := none } } := by
  simp only [sensorConfigStart, h]

theorem enterConfiguring_facts (starting : Bool) (t : Triple) (c : Chip) :
    (enterConfiguring starting t c).pixel.stream = .configuring
      ∧ (enterConfiguring starting t c).pixel.config = some ⟨0, false, t⟩
      ∧ (enterConfiguring starting t c).pixel.starting = starting
      ∧ (enterConfiguring starting t c).pixel.carried = (cfg c).sensor := by
  unfold enterConfiguring
  rw [setStream_pixel]
  exact ⟨rfl, rfl, rfl, rfl⟩

theorem enterConfiguring_rest (starting : Bool) (t : Triple) (c : Chip) : (enterConfiguring starting t c).port = c.port
    ∧ (enterConfiguring starting t c).stab = c.stab ∧ (enterConfiguring starting t c).settings = c.settings := by
  unfold enterConfiguring setStream
  extract_lets p c1
  split <;> exact ⟨rfl, rfl, rfl⟩

theorem gyroStart_rest (c : Chip) : (gyroStart c).pixel = c.pixel ∧ (gyroStart c).port = c.port := by
  have hset := fun f => blocks_setStab f c
  by_cases h : (cfg c).stab.config = []
  · rw [gyroStart_noWrites h]
    have hblocks := (blocks_gyroRunning (setStab (fun s => { s with
      starting := true, configLeft := [], rateAddress := (cfg c).stab.rateAddress }) c))
    rw [hset] at hblocks
    exact ⟨pixel_of_blocks hblocks, port_of_blocks hblocks⟩
  · rw [gyroStart_writes h]
    exact ⟨pixel_of_blocks (hset _), port_of_blocks (hset _)⟩

theorem setMode_already {m : StabMode} {c : Chip} (h : c.stab.mode = m) : setMode m c = c := if_pos h

/-- What a gyro start sets, by whether it has configuration writes to make (R125, R126). -/
theorem gyroStart_stab (c : Chip) : (gyroStart c).stab.rateAddress = (cfg c).stab.rateAddress
    ∧ ((cfg c).stab.config ≠ [] → (gyroStart c).stab.starting = true ∧ (gyroStart c).stab.configLeft = (cfg c).stab.config)
    ∧ ((cfg c).stab.config = [] → (gyroStart c).stab.starting = false ∧ (gyroStart c).stab.linkRunning = true
      ∧ (gyroStart c).stab.mode = .starting) := by
  by_cases h : (cfg c).stab.config = []
  · obtain ⟨g, hset⟩ := setStab_stab (fun s => { s with
      starting := true, configLeft := [], rateAddress := (cfg c).stab.rateAddress }) c
    rw [gyroStart_noWrites h]
    generalize setStab (fun s => { s with
      starting := true, configLeft := [], rateAddress := (cfg c).stab.rateAddress }) c = d at *
    by_cases hmode : d.stab.mode = .starting
    · obtain ⟨g', hlinked⟩ := setStab_stab linkedStab d
      rw [gyroRunning_eq, setMode_already (by rw [hlinked]; exact hmode), hlinked, hset]
      refine ⟨rfl, fun hwrites => absurd h hwrites, fun _ => ⟨rfl, rfl, ?_⟩⟩
      rw [hset] at hmode
      exact hmode
    · obtain ⟨v, g', hrunning⟩ := gyroRunning_stab hmode
      rw [hrunning, hset]
      exact ⟨rfl, fun hwrites => absurd h hwrites, fun _ => ⟨rfl, rfl, rfl⟩⟩
  · obtain ⟨g, hset⟩ := setStab_stab (fun s => { s with
      starting := true, configLeft := (cfg c).stab.config, rateAddress := (cfg c).stab.rateAddress }) c
    rw [gyroStart_writes h, hset]
    exact ⟨rfl, fun _ => ⟨rfl, rfl⟩, fun hwrites => absurd hwrites h⟩

/-! ### RUNNING -/

theorem evalPress_unpressed {c : Chip} (hstate : c.capture.state = .idle) (hs1 : c.capture.s1.pressed = false)
    (hs2 : c.capture.s2.pressed = false) (hpress : c.capture.press = .none) : evalPress false false c = c := by
  have hhalf : halfHeld c.capture = false := by simp [halfHeld, hs1, hs2, hpress]
  unfold evalPress
  simp [hstate, hhalf]

theorem startStepEnd_streams {c : Chip} (hstep : c.port.startStep = .streams) (hsensor : c.pixel.starting = false)
    (hgyro : c.stab.starting = false) : startStepEnd c = enterRunning c := by
  simp [startStepEnd, hstep, streamsStarted, hsensor, hgyro]

/-- Settles O18. -/
theorem startSteps : Obligations.StartSteps := by
  unfold Obligations.StartSteps
  refine fun s => ⟨fun hstep hzoom htrain => ?_, fun hstep hzoom htrain hafter => ?_, fun hstep hhoming hafter t ht => ?_,
    fun hstep hsensor hgyro hstate hs1 hs2 hpress => ?_⟩
  · obtain ⟨hstate, hhomed, hgoal, htrain'⟩ := enterHoming_focus .track (atStep .focus s.chip)
    have hport := enterHoming_port .track (atStep .focus s.chip)
    exact ⟨_, exec_of_commit rfl ((startStepEnd_zoom hstep hzoom).trans (startHoming_rests htrain)),
      congrArg Port.startStep hport, hstate, hhomed, hgoal, htrain'⟩
  · exact exec_of_commit rfl ((startStepEnd_zoom hstep hzoom).trans
      (startHoming_towardFault (c := atStep .focus s.chip) htrain hafter))
  · intro writes
    have hstart := startStepEnd_focus hstep hhoming hafter
    rw [sensorConfigStart_applied (c := atStep .streams s.chip) ht] at hstart
    refine ⟨_, exec_of_commit rfl hstart, ?_⟩
    obtain ⟨hstream, hconfig, hstarting, hcarried⟩ := enterConfiguring_facts true t
      { atStep .streams s.chip with pixel := { (atStep .streams s.chip).pixel with inFlight := none } }
    obtain ⟨hport, -, hsettings⟩ := enterConfiguring_rest true t
      { atStep .streams s.chip with pixel := { (atStep .streams s.chip).pixel with inFlight := none } }
    have hcfg : cfg (enterConfiguring true t
        { atStep .streams s.chip with pixel := { (atStep .streams s.chip).pixel with inFlight := none } }) = cfg s.chip :=
      cfg_of_settings hsettings
    generalize enterConfiguring true t
      { atStep .streams s.chip with pixel := { (atStep .streams s.chip).pixel with inFlight := none } } = d at *
    obtain ⟨hpixel, hport'⟩ := gyroStart_rest d
    have hstab := gyroStart_stab d
    rw [hcfg] at hstab
    rw [hpixel, hport', hport]
    exact ⟨rfl, hstream, hconfig, hstarting, hcarried, hstab⟩
  · refine exec_of_commit rfl ((startStepEnd_streams hstep hsensor hgyro).trans ?_)
    have hpress' := evalPress_unpressed (c := setPartState .running (atStep .none s.chip)) hstate hs1 hs2 hpress
    exact congrArg (fun d => raise .handHeld (raise .cardWork d)) hpress'

end Sys2Proof.Proofs.StartSteps

end

section
/-! PROOFS. Writes of the RUN field (R2), and what the requests and the blocks take at entry to STOPPING (R17). -/

namespace Sys2Proof.Proofs.StopEntry

-- One elaboration thread at a time: each waiting thread reserves a stack, and the text is long.
set_option Elab.async false

open Sys2Proof Sys2Proof.Machine Sys2Proof.Proofs.PartFrame Sys2Proof.Proofs.Part Sys2Proof.Proofs.SensorLimits
open Sys2Proof.Proofs.Requests Sys2Proof.Proofs.StoreRequests Sys2Proof.Proofs.ExposureRequests
open Sys2Proof.Proofs.FocusRequests Sys2Proof.Proofs.ZoomRequests Sys2Proof.Proofs.CaptureRequests
open Sys2Proof.Proofs.SearchRequests Sys2Proof.Proofs.SensorWrites Sys2Proof.Proofs.FocusEvents
open Sys2Proof.Proofs.Stabilizer Sys2Proof.Proofs.FrameEnds Sys2Proof.Proofs.FrameStarts

/-! ### The requests (R17) -/

/-- An acknowledgement entry `e` of the request whose entry was `f`, once a stop has taken it. -/
def EndedByStop (f e : RecordState) : Prop :=
  e.earlierActive = false ∧ e.outcome ≠ .active
    ∧ (isFinal f.outcome = false → e.outcome = .abandoned ∧ e.detail = .stopped ∧ e.held = none)

@[simp] theorem blocks_abandonRequest (r : RecordId) (c : Chip) : blocks (abandonRequest r c) = blocks c := by
  unfold abandonRequest
  extract_lets e c1
  have h1 : blocks c1 = blocks c := by
    simp only [c1]
    split <;> rfl
  split
  · exact h1
  · exact h1

theorem abandonRequest_records_length (r : RecordId) (c : Chip) : (abandonRequest r c).records.length = c.records.length := by
  unfold abandonRequest
  extract_lets e c1
  have h1 : c1.records.length = c.records.length := by
    simp only [c1]
    split
    · exact List.length_set
    · rfl
  split
  · exact h1
  · exact List.length_set.trans h1

theorem record_abandonRequest_other {r q : RecordId} (c : Chip) (h : q ≠ r) : record (abandonRequest r c) q = record c q := by
  unfold abandonRequest
  extract_lets e c1
  have h1 : record c1 q = record c q := by
    simp only [c1]
    split
    · exact record_setRecord_other _ c h
    · rfl
  split
  · exact h1
  · exact (record_setRecord_other _ c1 h).trans h1

theorem record_abandonRequest_same {r : RecordId} {c : Chip} (hlen : c.records.length = 9) :
    EndedByStop (record c r) (record (abandonRequest r c) r) := by
  unfold abandonRequest
  extract_lets e c1
  have h1 : record c1 r = { record c r with earlierActive := false } := by
    simp only [c1]
    split
    · exact record_setRecord_same _ _ _ hlen
    next h =>
      have hearlier : (record c r).earlierActive = false := by simpa [e] using h
      rw [← hearlier]
  have hlen1 : c1.records.length = 9 := by
    simp only [c1]
    split
    · exact List.length_set.trans hlen
    · exact hlen
  split
  next hfinal =>
    rw [h1]
    refine ⟨rfl, fun hactive => ?_, fun hopen => absurd hfinal (by simp [e, hopen])⟩
    have hactive' : e.outcome = .active := hactive
    rw [hactive'] at hfinal
    exact absurd hfinal (by decide)
  next =>
    have hset : record (notice (recordClass r) (mark .ack (setRecord r { record c1 r with
        outcome := .abandoned, detail := .stopped, held := none } c1))) r
        = { record c1 r with outcome := .abandoned, detail := .stopped, held := none } :=
      record_setRecord_same _ _ _ hlen1
    rw [hset, h1]
    exact ⟨rfl, by simp, fun _ => ⟨rfl, rfl, rfl⟩⟩

theorem orderInFlight_of_blocks {c d : Chip} (h : blocks c = blocks d) : orderInFlight c = orderInFlight d := by
  unfold orderInFlight
  rw [card_of_blocks h, store_of_blocks h]
  rfl

theorem record_abandonOrder_other {q : RecordId} (c : Chip) (h : q ≠ .cardOrder) : record (abandonOrder c) q = record c q := by
  unfold abandonOrder
  extract_lets e
  split
  · split
    · exact record_setRecord_other _ c h
    · rfl
  · exact (record_of_records (setStore_records _ _) q).trans (record_abandonRequest_other c h)

theorem abandonOrder_records_length (c : Chip) : (abandonOrder c).records.length = c.records.length := by
  unfold abandonOrder
  extract_lets e
  split
  · split
    · exact List.length_set
    · rfl
  · exact (congrArg List.length (setStore_records _ _)).trans (abandonRequest_records_length _ c)

theorem blocks_abandonOrder (c : Chip) : blocks (abandonOrder c) = { blocks c with store := (abandonOrder c).store } := by
  unfold abandonOrder
  extract_lets e
  split
  · split <;> rfl
  · unfold setOrder
    rw [blocks_setStore, setStore_store, blocks_abandonRequest]

/-- The CARD_ORDER entry with no run of the order in flight. -/
theorem abandonOrder_idle {c : Chip} (hflight : orderInFlight c = false) (hlen : c.records.length = 9) :
    EndedByStop (record c .cardOrder) (record (abandonOrder c) .cardOrder) ∧ (abandonOrder c).store.order = none := by
  have h : abandonOrder c = setOrder none (abandonRequest .cardOrder c) := if_neg (by simp [hflight])
  have hrecord : record (setOrder none (abandonRequest .cardOrder c)) .cardOrder
      = record (abandonRequest .cardOrder c) .cardOrder := record_of_records (setStore_records _ _) _
  rw [h, hrecord]
  exact ⟨record_abandonRequest_same hlen, congrArg Store.order (setStore_store _ _)⟩

/-- The CARD_ORDER entry with its run in flight. -/
theorem abandonOrder_inFlight {c : Chip} (hflight : orderInFlight c = true) (hactive : (record c .cardOrder).outcome = .active) :
    abandonOrder c = c := by
  unfold abandonOrder
  rw [if_pos hflight]
  exact if_neg (by rw [hactive]; decide)

/-- The requests that are abandoned before the CARD_ORDER entry is looked at. -/
def abandonedBefore (c : Chip) : Chip :=
  abandonRequest .spare (abandonRequest .space (abandonRequest .capture (abandonRequest .exposure
    (abandonRequest .focus (abandonRequest .zoom (abandonRequest .settings c))))))

theorem abandonRequests_eq (c : Chip) : abandonRequests c = abandonRequest .service (abandonOrder (abandonedBefore c)) := rfl

theorem abandonedBefore_records_length (c : Chip) : (abandonedBefore c).records.length = c.records.length := by
  simp only [abandonedBefore, abandonRequest_records_length]

theorem blocks_abandonedBefore (c : Chip) : blocks (abandonedBefore c) = blocks c := by
  simp only [abandonedBefore, blocks_abandonRequest]

theorem record_abandonedBefore_other {q : RecordId} (c : Chip) (h : q = .cardOrder ∨ q = .service) :
    record (abandonedBefore c) q = record c q := by
  unfold abandonedBefore
  rcases h with rfl | rfl <;> iterate 7 rw [record_abandonRequest_other _ (by decide)]

theorem record_abandonedBefore {q : RecordId} {c : Chip} (hlen : c.records.length = 9) (horder : q ≠ .cardOrder)
    (hservice : q ≠ .service) : EndedByStop (record c q) (record (abandonedBefore c) q) := by
  have hsame : ∀ d, record d q = record c q → d.records.length = 9 →
      EndedByStop (record c q) (record (abandonRequest q d) q) := fun d hd hlen' => by
    rw [← hd]
    exact record_abandonRequest_same hlen'
  unfold abandonedBefore
  cases q with
  | settings =>
    iterate 6 rw [record_abandonRequest_other _ (by decide)]
    exact hsame _ rfl hlen
  | zoom =>
    iterate 5 rw [record_abandonRequest_other _ (by decide)]
    exact hsame _ (record_abandonRequest_other _ (by decide)) (by rw [abandonRequest_records_length]; exact hlen)
  | focus =>
    iterate 4 rw [record_abandonRequest_other _ (by decide)]
    refine hsame _ ?_ (by simp only [abandonRequest_records_length]; exact hlen)
    iterate 2 rw [record_abandonRequest_other _ (by decide)]
  | exposure =>
    iterate 3 rw [record_abandonRequest_other _ (by decide)]
    refine hsame _ ?_ (by simp only [abandonRequest_records_length]; exact hlen)
    iterate 3 rw [record_abandonRequest_other _ (by decide)]
  | capture =>
    iterate 2 rw [record_abandonRequest_other _ (by decide)]
    refine hsame _ ?_ (by simp only [abandonRequest_records_length]; exact hlen)
    iterate 4 rw [record_abandonRequest_other _ (by decide)]
  | space =>
    rw [record_abandonRequest_other _ (by decide)]
    refine hsame _ ?_ (by simp only [abandonRequest_records_length]; exact hlen)
    iterate 5 rw [record_abandonRequest_other _ (by decide)]
  | spare =>
    refine hsame _ ?_ (by simp only [abandonRequest_records_length]; exact hlen)
    iterate 6 rw [record_abandonRequest_other _ (by decide)]
  | cardOrder => exact absurd rfl horder
  | service => exact absurd rfl hservice

/-- Every request but the card order is ended by a stop. -/
theorem record_abandonRequests {q : RecordId} {c : Chip} (hlen : c.records.length = 9) (hq : q ≠ .cardOrder) :
    EndedByStop (record c q) (record (abandonRequests c) q) := by
  rw [abandonRequests_eq]
  by_cases hservice : q = .service
  · subst hservice
    have hbefore : record (abandonOrder (abandonedBefore c)) .service = record c .service :=
      (record_abandonOrder_other _ (by decide)).trans (record_abandonedBefore_other c (.inr rfl))
    rw [← hbefore]
    exact record_abandonRequest_same (by rw [abandonOrder_records_length, abandonedBefore_records_length]; exact hlen)
  · rw [record_abandonRequest_other _ hservice, record_abandonOrder_other _ hq]
    exact record_abandonedBefore hlen hq hservice

theorem abandonRequest_store (r : RecordId) (c : Chip) : (abandonRequest r c).store = c.store :=
  store_of_blocks (blocks_abandonRequest r c)

theorem abandonRequests_order (c : Chip) : record (abandonRequests c) .cardOrder = record (abandonOrder (abandonedBefore c)) .cardOrder
    ∧ (abandonRequests c).store = (abandonOrder (abandonedBefore c)).store := by
  rw [abandonRequests_eq]
  exact ⟨record_abandonRequest_other _ (by decide), abandonRequest_store _ _⟩

theorem blocks_abandonRequests (c : Chip) : blocks (abandonRequests c) = { blocks c with store := (abandonRequests c).store } := by
  rw [(abandonRequests_order c).2, abandonRequests_eq, blocks_abandonRequest, blocks_abandonOrder, blocks_abandonedBefore]

theorem orderInFlight_iff (c : Chip) : orderInFlight c = true
    ↔ ∃ r, c.card.run = some r ∧ r.kind = .cardOrder ∧ c.store.order.isSome = true := by
  unfold orderInFlight
  split <;> simp [*]

/-! ### The stages of the entry to STOPPING -/

/-- The part in STOPPING, before anything has ended. -/
def stopBegun (c : Chip) : Chip :=
  setScan (fun s => { s with marked := false }) (setPartState .stopping (setPort (fun p => { p with startStep := .none }) c))

/-- The requests and a load have ended. -/
def requestsEnded (c : Chip) : Chip := stopLoad (abandonRequests (stopBegun c))

/-- The capture DMA of a picture in FILLING has been abandoned. -/
def dmaEnded (c : Chip) : Chip := if c.capture.filling.isSome then abandonDma (requestsEnded c) else requestsEnded c

/-- Capture Control has stopped, and the capture hold has ended. -/
def captureStopped (c : Chip) : Chip := endCaptureHold (stopCapture { dmaEnded c with service := none })

/-- Focus Search, the Stabilizer and the Exposure Unit have stopped. -/
def unitsStopped (c : Chip) : Chip := stopExposure (stopStab (stopSearch (captureStopped c)))

/-- The drives have taken the stop. -/
def drivesStopped (c : Chip) : Chip := stopZoom (stopFocus (unitsStopped c))

/-- The part in STOPPING, before the card's work. -/
def stopTaken (c : Chip) : Chip := if c.capture.filling.isSome then drivesStopped c else stopStreams (drivesStopped c)

theorem enterStopping_eq (c : Chip) : enterStopping c = raise .cardWork (stopTaken c) := rfl

theorem blocks_stopLoad (c : Chip) : blocks (stopLoad c) = { blocks c with tables := { c.tables with load := none } } := by
  unfold stopLoad
  split
  · rfl
  next h =>
    have hload : c.tables.load = none := by simpa using h
    exact congrArg (fun l => { blocks c with tables := { c.tables with load := l } }) hload

theorem stopLoad_records (c : Chip) : (stopLoad c).records = c.records := by
  unfold stopLoad
  split <;> rfl

theorem blocks_requestsEnded (c : Chip) : blocks (requestsEnded c) = { blocks c with
    port := { c.port with partState := .stopping, startStep := .none }
    scan := { c.scan with marked := false }
    store := (abandonRequests (stopBegun c)).store
    tables := { c.tables with load := none } } := by
  have htables : (abandonRequests (stopBegun c)).tables = c.tables := tables_of_blocks (blocks_abandonRequests _)
  rw [requestsEnded, blocks_stopLoad, htables, blocks_abandonRequests]
  rfl

theorem abandonDma_facts (c : Chip) : blocks (abandonDma c) = { blocks c with
      pixel := { c.pixel with dma := .abandoned, stopping := .waitDma }, stab := { c.stab with stopping := .waitDma }
      busOut := (abandonDma c).busOut, freeIndex := (abandonDma c).freeIndex }
    ∧ (abandonDma c).records = c.records := by
  unfold abandonDma
  split <;> exact ⟨rfl, rfl⟩

theorem abandonDma_stab (c : Chip) : (abandonDma c).stab = { c.stab with stopping := .waitDma } :=
  stab_of_blocks (abandonDma_facts c).1

theorem abandonDma_pixel (c : Chip) : (abandonDma c).pixel = { c.pixel with dma := .abandoned, stopping := .waitDma } :=
  pixel_of_blocks (abandonDma_facts c).1

theorem dmaEnded_filling {c : Chip} (h : c.capture.filling.isSome = true) : dmaEnded c = abandonDma (requestsEnded c) :=
  if_pos h

theorem dmaEnded_none {c : Chip} (h : c.capture.filling = none) : dmaEnded c = requestsEnded c :=
  if_neg (by simp [h])

theorem blocks_dmaEnded (c : Chip) : blocks (dmaEnded c) = { blocks (requestsEnded c) with
    pixel := (dmaEnded c).pixel, stab := (dmaEnded c).stab, busOut := (dmaEnded c).busOut
    freeIndex := (dmaEnded c).freeIndex } := by
  cases h : c.capture.filling with
  | none =>
    rw [dmaEnded_none h]
    generalize requestsEnded c = d
    rfl
  | some n =>
    rw [dmaEnded_filling (Option.isSome_of_eq_some h)]
    generalize requestsEnded c = d
    rw [abandonDma_pixel, abandonDma_stab]
    exact (abandonDma_facts d).1

theorem dmaEnded_records (c : Chip) : (dmaEnded c).records = (requestsEnded c).records := by
  obtain ⟨-, h⟩ := abandonDma_facts (requestsEnded c)
  unfold dmaEnded
  split
  · exact h
  · rfl

theorem blocks_abandonPicture (c : Chip) : blocks (abandonPicture c) = { blocks c with
    slots := (abandonPicture c).slots, stab := (abandonPicture c).stab } := by
  unfold abandonPicture
  split
  · rfl
  next n h =>
    have hslot := blocks_setSlot n { slot c n with state := .free, result := .abandoned } c
    have hclose := blocks_setStab (fun s => { s with window := none })
      (setSlot n { slot c n with state := .free, result := .abandoned } c)
    have hslots := (slots_of_blocks hclose).trans (setSlot_slots n { slot c n with state := .free, result := .abandoned } c)
    unfold closeWindow
    rw [hslots, hclose, hslot]

theorem abandonPicture_records (c : Chip) : (abandonPicture c).records = c.records := by
  unfold abandonPicture closeWindow
  split
  · rfl
  · exact (setStab_records _ _).trans (setSlot_records _ _ c)

theorem abandonPicture_link (c : Chip) : linkPart { (abandonPicture c).stab with window := none }
    = linkPart { c.stab with window := none } := by
  unfold abandonPicture closeWindow
  split
  · rfl
  next n h =>
    obtain ⟨g, hg⟩ := setStab_stab (fun s => { s with window := none })
      (setSlot n { slot c n with state := .free, result := .abandoned } c)
    rw [hg, stab_of_blocks (blocks_setSlot n { slot c n with state := .free, result := .abandoned } c)]
    rfl

/-- The picture in FILLING is abandoned. -/
theorem slot_abandonPicture {n : Nat} {c : Chip} (hfilling : c.capture.filling = some n) (hn : n < c.slots.length) :
    slot (abandonPicture c) n = { slot c n with state := .free, result := .abandoned } := by
  obtain ⟨-, hslots, -⟩ := closeWindow_rest (setSlot n { slot c n with state := .free, result := .abandoned } c)
  have h : abandonPicture c = closeWindow (setSlot n { slot c n with state := .free, result := .abandoned } c) := by
    simp only [abandonPicture, hfilling]
  rw [h, slot_of_slots hslots, slot_setSlot_same n _ c hn]

/-- What Capture Control is set to at a stop. -/
def stoppedCapture (k : Capture) : Capture :=
  { k with state := .idle, press := .none, count := 0, left := 0, burst := {}, filling := none }

theorem stopCapture_facts (c : Chip) : blocks (stopCapture c) = { blocks c with
      slots := (abandonPicture c).slots, stab := (abandonPicture c).stab, capture := stoppedCapture c.capture }
    ∧ (stopCapture c).records = c.records := by
  have hcapture : (abandonPicture c).capture = c.capture := capture_of_blocks (blocks_abandonPicture c)
  unfold stopCapture
  refine ⟨?_, (setCapture_records _ _).trans (abandonPicture_records c)⟩
  rw [blocks_setCapture, hcapture, blocks_abandonPicture]
  rfl

/-- An equation of all but the Focus Drive and the bookkeeping. -/
theorem blocks_of_besideFocus {c d : Chip} (h : besideFocus d = besideFocus c) :
    blocks d = { blocks c with focus := d.focus } :=
  (congrArg (fun x => { blocks x with focus := d.focus }) h :)

theorem blocks_captureStopped (c : Chip) : blocks (captureStopped c) = { blocks (dmaEnded c) with
    service := none, slots := (abandonPicture { dmaEnded c with service := none }).slots
    stab := (abandonPicture { dmaEnded c with service := none }).stab, capture := stoppedCapture (dmaEnded c).capture
    focus := (captureStopped c).focus } := by
  obtain ⟨h, -⟩ := stopCapture_facts { dmaEnded c with service := none }
  unfold captureStopped
  rw [blocks_of_besideFocus (besideFocus_endCaptureHold _), h]
  rfl

theorem captureStopped_records (c : Chip) : (captureStopped c).records = (dmaEnded c).records := by
  obtain ⟨-, h⟩ := stopCapture_facts { dmaEnded c with service := none }
  exact (records_of_besideFocus (besideFocus_endCaptureHold _)).trans h

/-! ### Focus Search at a stop -/

theorem endEarly_stopping (o : ReqOutcome) (d : Detail) {c : Chip} (h : c.port.partState = .stopping) : endEarly o d c
    = if searching c then endSearchRequest o d (closeSearch false (leaveSearchMode false c)) else c := by
  unfold endEarly
  split
  · refine if_neg ?_
    have hclosed := (besideSearch_endSearchRequest o d (closeSearch false (leaveSearchMode false c))).trans
      (besideSearch_leaveSearchMode false c)
    have hport : (endSearchRequest o d (closeSearch false (leaveSearchMode false c))).port = c.port :=
      (congrArg Chip.port hclosed :)
    simp [retargetAllowed, hport, h]
  · rfl

/-- The part without its bookkeeping and without what the end of a search in STOPPING may change. -/
def besideMode (c : Chip) : Chip := { blocks c with control := {}, search := {}, following := {} }

theorem besideMode_of_blocks {c d : Chip} (h : blocks c = blocks d) : besideMode c = besideMode d :=
  congrArg (fun x => { x with control := {}, search := {}, following := {} }) h

theorem besideMode_setControl (f : Control → Control) (c : Chip) : besideMode (setControl f c) = besideMode c := by
  unfold besideMode
  rw [blocks_setControl]

theorem besideMode_setFollowing (f : Following → Following) (c : Chip) : besideMode (setFollowing f c) = besideMode c := by
  unfold besideMode
  rw [blocks_setFollowing]

theorem besideMode_leaveSearchMode (found : Bool) (c : Chip) : besideMode (leaveSearchMode found c) = besideMode c := by
  unfold leaveSearchMode enterContinuous watchKeepingStep
  split
  · rw [besideMode_setFollowing, besideMode_setFollowing, besideMode_setControl]
  · exact besideMode_setControl _ c

theorem besideMode_closeSearch (found : Bool) (c : Chip) : besideMode (closeSearch found c) = besideMode c := rfl

theorem besideMode_endSearchRequest (o : ReqOutcome) (d : Detail) (c : Chip) :
    besideMode (endSearchRequest o d c) = besideMode c := by
  unfold endSearchRequest
  split
  · exact besideMode_of_blocks (blocks_finish _ _ _ _)
  · rfl

theorem besideMode_endEarly (o : ReqOutcome) (d : Detail) {c : Chip} (h : c.port.partState = .stopping) :
    besideMode (endEarly o d c) = besideMode c := by
  rw [endEarly_stopping o d h]
  split
  · rw [besideMode_endSearchRequest, besideMode_closeSearch, besideMode_leaveSearchMode]
  · rfl

theorem besideMode_stopSearch {c : Chip} (h : c.port.partState = .stopping) : besideMode (stopSearch c) = besideMode c := by
  unfold stopSearch watchAfresh
  extract_lets c1 c2
  rw [besideMode_setControl]
  simp only [c2]
  rw [besideMode_setFollowing]
  simp only [c1]
  rw [besideMode_setFollowing, besideMode_endEarly _ _ h]

theorem setControl_search (f : Control → Control) (c : Chip) : (setControl f c).search = c.search :=
  search_of_blocks (blocks_setControl f c)

theorem setFollowing_search (f : Following → Following) (c : Chip) : (setFollowing f c).search = c.search :=
  search_of_blocks (blocks_setFollowing f c)

theorem stopSearch_search (c : Chip) : (stopSearch c).search = (endEarly .abandoned .stopped c).search := by
  unfold stopSearch watchAfresh
  extract_lets c1 c2
  rw [setControl_search]
  simp only [c2]
  rw [setFollowing_search]
  simp only [c1]
  rw [setFollowing_search]

/-- With the FOCUS request ended, the end of the search changes no entry. -/
theorem stopSearch_records {c : Chip} (h : c.port.partState = .stopping) (hearlier : (record c .focus).earlierActive = false)
    (hactive : (record c .focus).outcome ≠ .active) : (stopSearch c).records = c.records := by
  have hended : (endEarly .abandoned .stopped c).records = c.records := by
    have hleft : (leaveSearchMode false c).records = c.records := leaveSearchMode_records false c
    rw [endEarly_stopping _ _ h]
    split
    · unfold endSearchRequest
      have hentry : record (closeSearch false (leaveSearchMode false c)) .focus = record c .focus :=
        record_of_records hleft _
      split
      · rw [finish_none _ _ _ _ (by rw [hentry]; exact hearlier) (by rw [hentry]; exact hactive)]
        exact hleft
      · exact hleft
    · rfl
  unfold stopSearch watchAfresh
  extract_lets c1 c2
  rw [setControl_records]
  simp only [c2]
  rw [setFollowing_records]
  simp only [c1]
  rw [setFollowing_records, hended]

/-! ### The Stabilizer and the Exposure Unit at a stop -/

/-- What a stop sets in the Stabilizer before the mode. -/
def stoppedStab (s : Stab) : Stab := axes (fun a => { a with angle := 0, target := 0 })
  { s with engaged := false, starting := false, configLeft := [], panRun := 0, exitRun := 0 }

theorem stopStab_eq (c : Chip) : stopStab c = setMode .off (setStab stoppedStab c) := rfl

theorem blocks_stopStab (c : Chip) : blocks (stopStab c) = { blocks c with stab := (stopStab c).stab } := by
  rw [stopStab_eq, blocks_setMode, blocks_setStab]

theorem stopStab_records (c : Chip) : (stopStab c).records = c.records := by
  rw [stopStab_eq, setMode_records, setStab_records]

theorem stopStab_stab (c : Chip) : (stopStab c).stab.mode = .off ∧ (stopStab c).stab.engaged = false
    ∧ (stopStab c).stab.reading = c.stab.reading ∧ (stopStab c).stab.stopping = c.stab.stopping := by
  obtain ⟨hmode, hlink⟩ := setMode_link .off (setStab stoppedStab c)
  obtain ⟨g, hg⟩ := setStab_stab stoppedStab c
  rw [hg] at hlink
  rw [stopStab_eq]
  exact ⟨hmode, (congrArg Stab.engaged hlink :), (congrArg Stab.reading hlink :), (congrArg Stab.stopping hlink :)⟩

/-- What a stop sets in the Exposure Unit. -/
def stoppedExposure (e : Exposure) : Exposure :=
  { converging e with hold := false, s1Lock := false, resplitDue := false, writeDue := false }

theorem stopExposure_eq (c : Chip) : stopExposure c = setExposure stoppedExposure c := rfl

theorem blocks_stopExposure (c : Chip) : blocks (stopExposure c) = { blocks c with exposure := (stopExposure c).exposure } := by
  have hpixel : (setExposure stoppedExposure c).pixel = c.pixel := setExposure_pixel rfl
  rw [stopExposure_eq, blocks_setExposure, hpixel]
  rfl

theorem stopExposure_stab (c : Chip) : (stopExposure c).stab = c.stab := stab_of_blocks (blocks_stopExposure c)
theorem stopExposure_search (c : Chip) : (stopExposure c).search = c.search := search_of_blocks (blocks_stopExposure c)
theorem stopStab_search (c : Chip) : (stopStab c).search = c.search := search_of_blocks (blocks_stopStab c)

theorem stopExposure_exposure (c : Chip) : (stopExposure c).exposure.hold = false
    ∧ (stopExposure c).exposure.s1Lock = false ∧ (stopExposure c).exposure.resplitDue = false
    ∧ (stopExposure c).exposure.writeDue = false := by
  obtain ⟨g, hg⟩ := setExposure_exposure stoppedExposure c
  rw [stopExposure_eq, hg]
  exact ⟨rfl, rfl, rfl, rfl⟩

/-! ### The drives at a stop (R70, R88) -/

theorem besideFocus_stopFocus (c : Chip) : besideFocus (stopFocus c) = besideFocus c := by
  unfold stopFocus
  extract_lets park
  split
  · exact besideFocus_handTarget _ c
  · exact (besideFocus_handTarget _ _).trans rfl
  · exact (besideFocus_handTarget _ _).trans rfl
  · split
    · exact (besideFocus_handTarget _ _).trans rfl
    · exact besideFocus_enterFocus _ _ c
  · rfl
  · rfl

/-- The park position as a final target. -/
def parkTarget (c : Chip) : Int := limitFocusPosition c (cfg c).focus.park

theorem parkTarget_eq (c : Chip) : parkTarget c = max 0 (min ((cfg c).focus.park : Int) (fMax c)) := rfl

theorem stopFocus_idle {c : Chip} (hstate : c.focus.state = .idle) (htrain : c.focus.train = .none)
    (hhold : c.focus.hold = false) : (stopFocus c).focus.target = parkTarget c := by
  have hstop : stopFocus c = planMove (setFocus (fun f => { f with target := parkTarget c }) c) := by
    simp only [stopFocus, hstate, handTarget, htrain, hhold, Bool.false_eq_true, if_false, if_true]
    rfl
  rw [hstop, planMove_target]
  rfl

theorem rampDown_target {c : Chip} (h : c.focus.afterRamp = .none) : (rampDown c).focus.target = c.focus.target := by
  unfold rampDown goOnFor
  extract_lets c1
  split
  · have hafter : c1.focus.afterRamp = .none := h
    unfold endTrain
    simp only [hafter]
    rw [planMove_target]
    rfl
  · rfl

theorem retargetTrain_target (t : Int) (c : Chip) : (retargetTrain t c).focus.target = t := by
  unfold retargetTrain
  split
  next h => exact h.symm
  next =>
    extract_lets c1 d leg needed
    split
    · rfl
    next hafter =>
      split
      · rfl
      · have hnone : c.focus.afterRamp = .none := by simpa using hafter
        exact rampDown_target (c := c1) hnone

theorem retargetTrain_towardFault {t : Int} {c : Chip} (h : c.focus.afterRamp = .fault) :
    (retargetTrain t c).focus = { c.focus with target := t } := by
  unfold retargetTrain
  split
  next hsame => rw [hsame]
  next =>
    extract_lets c1 d leg needed
    rw [if_pos (by rw [h]; decide)]
    rfl

theorem stopFocus_moving {c : Chip} (hstate : c.focus.state = .moving) (htrain : c.focus.train = .counted) :
    stopFocus c = retargetTrain (parkTarget c) (dropHomingRamp c) := by
  have htrain' : (dropHomingRamp c).focus.train = .counted := htrain
  simp only [stopFocus, hstate, handTarget, htrain']
  rfl

theorem stopFocus_homing {c : Chip} (hstate : c.focus.state = .homing) (hgoal : c.focus.homing ≠ .goal) :
    (stopFocus c).focus.state = .lost ∧ (stopFocus c).focus.train = .none := by
  have hstop : stopFocus c = enterFocus .lost (fun f => { f with train := .none, homing := .none, afterRamp := .none }) c := by
    simp only [stopFocus, hstate, if_neg hgoal]
  rw [hstop, enterFocus_focus]
  exact ⟨rfl, rfl⟩

theorem stopZoom_rest (c : Chip) : blocks (stopZoom c) = { blocks c with zoom := (stopZoom c).zoom }
    ∧ (stopZoom c).records = c.records := by
  have hentered : ∀ k f, blocks (enterZoom k f c) = { blocks c with zoom := (enterZoom k f c).zoom }
      ∧ (enterZoom k f c).records = c.records := fun k f => by
    rw [blocks_enterZoom, enterZoom_zoom]
    exact ⟨rfl, enterZoom_records k f c⟩
  have hparks : ∀ k f g, blocks (setZoom g (enterZoom k f c)) = { blocks c with zoom := (setZoom g (enterZoom k f c)).zoom }
      ∧ (setZoom g (enterZoom k f c)).records = c.records := fun k f g => by
    obtain ⟨h, hrecords⟩ := hentered k f
    exact ⟨congrArg (fun x => { x with zoom := g (enterZoom k f c).zoom }) h, hrecords⟩
  unfold stopZoom
  split
  · exact ⟨rfl, rfl⟩
  · exact ⟨rfl, rfl⟩
  · exact hparks _ _ _
  · exact hparks _ _ _
  · exact hentered _ _
  · exact ⟨rfl, rfl⟩
  iterate 3 exact ⟨rfl, rfl⟩

theorem brakeBefore_after (a : AfterSettle) (z : Zoom) : (brakeBefore a z).after = unlessTableFault a z := by
  unfold brakeBefore brakeIfDriving
  split <;> rfl

/-- The zoom at a stop, by its state (R70). -/
theorem stopZoom_zoom (c : Chip) :
    (c.zoom.state = .idle ∨ c.zoom.state = .held → (stopZoom c).zoom.state = .parking ∧ (stopZoom c).zoom.after = .parked)
    ∧ (c.zoom.state = .lost → (stopZoom c).zoom.state = .homing ∧ (stopZoom c).zoom.homingGoal = .park)
    ∧ (c.zoom.state = .homing → (stopZoom c).zoom = { c.zoom with homingGoal := .park })
    ∧ (c.zoom.state = .moving ∨ c.zoom.state = .unparking →
      (stopZoom c).zoom.after = if c.zoom.after = .tableFault then .tableFault else .park)
    ∧ (c.zoom.state = .parking ∨ c.zoom.state = .parked ∨ c.zoom.state = .fault → (stopZoom c).zoom = c.zoom) := by
  refine ⟨fun h => ?_, fun h => ?_, fun h => ?_, fun h => ?_, fun h => ?_⟩
  · obtain ⟨hstate, hafter, -⟩ := beginPark_park c
    have hstop : stopZoom c = beginPark .park false c := by rcases h with h | h <;> simp only [stopZoom, h]
    rw [hstop]
    exact ⟨hstate, hafter⟩
  · obtain ⟨hstate, -, hgoal, -⟩ := beginHoming_zoom .park c
    have hstop : stopZoom c = beginHoming .park c := by simp only [stopZoom, h]
    rw [hstop]
    exact ⟨hstate, hgoal⟩
  · have hstop : stopZoom c = setZoom (fun z => { z with homingGoal := .park }) c := by simp only [stopZoom, h]
    rw [hstop]
    rfl
  · have hstop : stopZoom c = setZoom (brakeBefore .park) c := by rcases h with h | h <;> simp only [stopZoom, h]
    rw [hstop]
    exact brakeBefore_after .park c.zoom
  · have hstop : stopZoom c = c := by rcases h with h | h | h <;> simp only [stopZoom, h]
    rw [hstop]

/-! ### The part through the stages -/

theorem captureStopped_rest (c : Chip) : (captureStopped c).port = { c.port with partState := .stopping, startStep := .none }
    ∧ (captureStopped c).tables = { c.tables with load := none }
    ∧ (captureStopped c).store = (abandonRequests (stopBegun c)).store ∧ (captureStopped c).service = none
    ∧ (captureStopped c).capture = stoppedCapture c.capture ∧ (captureStopped c).zoom = c.zoom
    ∧ (captureStopped c).settings = c.settings ∧ (captureStopped c).pixel = (dmaEnded c).pixel := by
  have h := blocks_captureStopped c
  have hdma := blocks_dmaEnded c
  rw [blocks_requestsEnded] at hdma
  generalize (abandonPicture { dmaEnded c with service := none }).slots = slots at h
  generalize (abandonPicture { dmaEnded c with service := none }).stab = stab at h
  generalize (captureStopped c).focus = focus at h
  generalize (abandonRequests (stopBegun c)).store = store at hdma ⊢
  generalize captureStopped c = e at h ⊢
  generalize dmaEnded c = d at h hdma ⊢
  have hcapture : d.capture = c.capture := capture_of_blocks hdma
  rw [hdma, hcapture] at h
  exact ⟨port_of_blocks h, tables_of_blocks h, store_of_blocks h, service_of_blocks h, capture_of_blocks h,
    zoom_of_blocks h, settings_of_blocks h, pixel_of_blocks h⟩

theorem dmaEnded_rest (c : Chip) : (dmaEnded c).capture = c.capture ∧ (dmaEnded c).slots = c.slots
    ∧ (dmaEnded c).focus = c.focus ∧ (dmaEnded c).stab.reading = c.stab.reading := by
  have hdma := blocks_dmaEnded c
  have hrequests := blocks_requestsEnded c
  rw [hrequests] at hdma
  refine ⟨capture_of_blocks hdma, slots_of_blocks hdma, focus_of_blocks hdma, ?_⟩
  have hstab : (requestsEnded c).stab = c.stab := stab_of_blocks hrequests
  cases h : c.capture.filling with
  | none => rw [dmaEnded_none h, hstab]
  | some n =>
    rw [dmaEnded_filling (Option.isSome_of_eq_some h), abandonDma_stab, hstab]

theorem captureStopped_stab (c : Chip) : (captureStopped c).stab.reading = c.stab.reading
    ∧ (captureStopped c).stab.stopping = (dmaEnded c).stab.stopping := by
  have hstab : (captureStopped c).stab = (abandonPicture { dmaEnded c with service := none }).stab :=
    stab_of_blocks (blocks_captureStopped c)
  have hlink := abandonPicture_link { dmaEnded c with service := none }
  obtain ⟨-, -, -, hreading⟩ := dmaEnded_rest c
  rw [hstab]
  exact ⟨(congrArg Stab.reading hlink :).trans hreading, (congrArg Stab.stopping hlink :)⟩

theorem endCaptureHold_focus {c : Chip} (h : c.focus.train ≠ .suspended) :
    (endCaptureHold c).focus = { c.focus with hold := false } := by
  unfold endCaptureHold
  extract_lets c1
  rw [if_neg h]
  rfl

theorem captureStopped_focus {c : Chip} (h : c.focus.train ≠ .suspended) :
    (captureStopped c).focus = { c.focus with hold := false } := by
  obtain ⟨-, -, hfocus, -⟩ := dmaEnded_rest c
  obtain ⟨hstop, -⟩ := stopCapture_facts { dmaEnded c with service := none }
  have hfocus' : (stopCapture { dmaEnded c with service := none }).focus = c.focus := (focus_of_blocks hstop).trans hfocus
  rw [captureStopped, endCaptureHold_focus (by rw [hfocus']; exact h), hfocus']

theorem captureStopped_slot {n : Nat} {c : Chip} (hfilling : c.capture.filling = some n) (hn : n < c.slots.length) :
    slot (captureStopped c) n = { slot c n with state := .free, result := .abandoned } := by
  obtain ⟨hcapture, hslots, -, -⟩ := dmaEnded_rest c
  have h : (captureStopped c).slots = (abandonPicture { dmaEnded c with service := none }).slots :=
    slots_of_blocks (blocks_captureStopped c)
  have hslot := slot_abandonPicture (n := n) (c := { dmaEnded c with service := none })
    ((congrArg Capture.filling hcapture).trans hfilling) (by
      show n < (dmaEnded c).slots.length
      rw [hslots]
      exact hn)
  have hsame : slot { dmaEnded c with service := none } n = slot c n := slot_of_slots hslots n
  rw [slot_of_slots h, hslot, hsame]

/-- The part without its bookkeeping and without the units that `unitsStopped` stops. -/
def besideUnits (c : Chip) : Chip := { besideMode c with stab := {}, exposure := {} }

theorem besideUnits_of_besideMode {c d : Chip} (h : besideMode c = besideMode d) : besideUnits c = besideUnits d :=
  congrArg (fun x => { x with stab := {}, exposure := {} }) h

theorem besideUnits_of_besideFocus {c d : Chip} (h : besideFocus c = besideFocus d) :
    ({ besideUnits c with focus := {} } : Chip) = { besideUnits d with focus := {} } :=
  (congrArg (fun x => ({ besideUnits x with focus := {} } : Chip)) h :)

theorem fields_of_besideUnits {c d : Chip} (h : besideUnits c = besideUnits d) : c.focus = d.focus ∧ c.zoom = d.zoom
    ∧ c.settings = d.settings ∧ c.tables = d.tables :=
  ⟨(congrArg Chip.focus h :), (congrArg Chip.zoom h :), (congrArg Chip.settings h :), (congrArg Chip.tables h :)⟩

theorem besideUnits_stopStab (c : Chip) : besideUnits (stopStab c) = besideUnits c := by
  unfold besideUnits besideMode
  rw [blocks_stopStab]

theorem besideUnits_stopExposure (c : Chip) : besideUnits (stopExposure c) = besideUnits c := by
  unfold besideUnits besideMode
  rw [blocks_stopExposure]

theorem besideUnits_unitsStopped (c : Chip) : besideUnits (unitsStopped c) = besideUnits (captureStopped c) := by
  obtain ⟨hport, -⟩ := captureStopped_rest c
  unfold unitsStopped
  rw [besideUnits_stopExposure, besideUnits_stopStab]
  exact besideUnits_of_besideMode (besideMode_stopSearch (by rw [hport]))

theorem unitsStopped_rest (c : Chip) : (unitsStopped c).focus = (captureStopped c).focus
    ∧ (unitsStopped c).zoom = c.zoom ∧ (unitsStopped c).settings = c.settings
    ∧ (unitsStopped c).tables = { c.tables with load := none } := by
  obtain ⟨hfocus, hzoom, hsettings, htables⟩ := fields_of_besideUnits (besideUnits_unitsStopped c)
  obtain ⟨-, htables', -, -, -, hzoom', hsettings', -⟩ := captureStopped_rest c
  exact ⟨hfocus, hzoom.trans hzoom', hsettings.trans hsettings', htables.trans htables'⟩

/-- The park position is the same before and after the units have stopped. -/
theorem parkTarget_unitsStopped (c : Chip) : parkTarget (unitsStopped c) = max 0 (min ((cfg c).focus.park : Int) (fMax c)) := by
  obtain ⟨-, -, hsettings, htables⟩ := unitsStopped_rest c
  have hmax : fMax (unitsStopped c) = fMax c := by
    unfold fMax
    rw [htables]
  rw [parkTarget_eq, cfg_of_settings hsettings, hmax]

theorem unitsStopped_search (c : Chip) : (unitsStopped c).search.phase = .none := by
  unfold unitsStopped
  rw [stopExposure_search, stopStab_search, stopSearch_search]
  exact Buttons.endEarly_over _ _ _

theorem stab_of_besideMode {c d : Chip} (h : besideMode c = besideMode d) : c.stab = d.stab := (congrArg Chip.stab h :)

theorem unitsStopped_stab (c : Chip) : (unitsStopped c).stab.mode = .off ∧ (unitsStopped c).stab.engaged = false
    ∧ (unitsStopped c).stab.reading = c.stab.reading
    ∧ (unitsStopped c).stab.stopping = (dmaEnded c).stab.stopping := by
  obtain ⟨hport, -⟩ := captureStopped_rest c
  have hsearch := stab_of_besideMode (besideMode_stopSearch (c := captureStopped c) (by rw [hport]))
  obtain ⟨hoff, hengaged, hreading, hstopping⟩ := stopStab_stab (stopSearch (captureStopped c))
  obtain ⟨hreading', hstopping'⟩ := captureStopped_stab c
  rw [hsearch] at hreading hstopping
  unfold unitsStopped
  rw [stopExposure_stab]
  exact ⟨hoff, hengaged, hreading.trans hreading', hstopping.trans hstopping'⟩

theorem stopFocus_rest (c : Chip) : (stopFocus c).zoom = c.zoom ∧ (stopFocus c).search = c.search
    ∧ (stopFocus c).stab = c.stab ∧ (stopFocus c).exposure = c.exposure ∧ (stopFocus c).records = c.records := by
  have h := besideFocus_stopFocus c
  generalize stopFocus c = d at h
  exact ⟨(congrArg Chip.zoom h :), (congrArg Chip.search h :), (congrArg Chip.stab h :), (congrArg Chip.exposure h :),
    (congrArg Chip.records h :)⟩

theorem stopZoom_keeps (c : Chip) : (stopZoom c).focus = c.focus ∧ (stopZoom c).search = c.search
    ∧ (stopZoom c).stab = c.stab ∧ (stopZoom c).exposure = c.exposure := by
  obtain ⟨h, -⟩ := stopZoom_rest c
  exact ⟨focus_of_blocks h, search_of_blocks h, stab_of_blocks h, exposure_of_blocks h⟩

/-- What the drives leave of the units. -/
theorem drivesStopped_units (c : Chip) : (drivesStopped c).focus = (stopFocus (unitsStopped c)).focus
    ∧ (drivesStopped c).search = (unitsStopped c).search ∧ (drivesStopped c).stab = (unitsStopped c).stab
    ∧ (drivesStopped c).exposure = (unitsStopped c).exposure := by
  obtain ⟨-, hsearch, hstab, hexposure, -⟩ := stopFocus_rest (unitsStopped c)
  obtain ⟨hfocus', hsearch', hstab', hexposure'⟩ := stopZoom_keeps (stopFocus (unitsStopped c))
  exact ⟨hfocus', hsearch'.trans hsearch, hstab'.trans hstab, hexposure'.trans hexposure⟩

/-- The part without its bookkeeping, the units that stop, and the drives. -/
def besideDrives (c : Chip) : Chip := { besideUnits c with focus := {}, zoom := {} }

theorem besideDrives_stopZoom (c : Chip) : besideDrives (stopZoom c) = besideDrives c := by
  obtain ⟨h, -⟩ := stopZoom_rest c
  unfold besideDrives besideUnits besideMode
  rw [h]

theorem besideDrives_of_besideFocus {c d : Chip} (h : besideFocus c = besideFocus d) : besideDrives c = besideDrives d :=
  congrArg (fun x => { x with zoom := {} }) (besideUnits_of_besideFocus h)

theorem besideDrives_of_besideUnits {c d : Chip} (h : besideUnits c = besideUnits d) : besideDrives c = besideDrives d :=
  congrArg (fun x => { x with focus := {}, zoom := {} }) h

theorem besideDrives_drivesStopped (c : Chip) : besideDrives (drivesStopped c) = besideDrives (captureStopped c) := by
  unfold drivesStopped
  rw [besideDrives_stopZoom, besideDrives_of_besideFocus (besideFocus_stopFocus _),
    besideDrives_of_besideUnits (besideUnits_unitsStopped c)]

theorem stopStreams_facts (c : Chip) : blocks (stopStreams c) = { blocks c with
      pixel := (stopStreams c).pixel, stab := (stopStreams c).stab }
    ∧ (stopStreams c).records = c.records ∧ (stopStreams c).stab.mode = c.stab.mode
    ∧ (stopStreams c).stab.engaged = c.stab.engaged
    ∧ (stopStreams c).stab.stopping = (if c.stab.reading then .waitRead else .writing)
    ∧ (stopStreams c).pixel.stopping = .writing ∧ (stopStreams c).pixel.frame = none := by
  have hpixel : (stopStreams c).pixel = (writeStreamOff c).pixel := gyroStop_pixel (writeStreamOff c)
  obtain ⟨g, hg⟩ := setStab_stab (fun s => if s.reading then { { s with marked := false } with stopping := .waitRead }
    else beginStopWrite (cfg c).stab { s with marked := false }) (writeStreamOff c)
  have hg' : (stopStreams c).stab = { (if c.stab.reading then { { c.stab with marked := false } with stopping := .waitRead }
    else beginStopWrite (cfg c).stab { c.stab with marked := false }) with gathered := g } := hg
  refine ⟨?_, setStab_records _ _, ?_, ?_, (gyroStop_stab (writeStreamOff c)).1, ?_, ?_⟩
  · rw [hpixel]
    exact (blocks_setStab _ (writeStreamOff c)).trans rfl
  · rw [hg']
    dsimp only
    split <;> rfl
  · rw [hg']
    dsimp only
    split <;> rfl
  · rw [hpixel]
    rfl
  · rw [hpixel]
    rfl

/-! ### The part in STOPPING -/

theorem stopTaken_filling {c : Chip} (h : c.capture.filling.isSome = true) : stopTaken c = drivesStopped c := if_pos h

theorem stopTaken_none {c : Chip} (h : c.capture.filling = none) : stopTaken c = stopStreams (drivesStopped c) :=
  if_neg (by simp [h])

/-- The part without its bookkeeping and without what the end of the streams changes. -/
def besideStreams (c : Chip) : Chip := { blocks c with pixel := {}, stab := {} }

theorem besideStreams_stopTaken (c : Chip) : besideStreams (stopTaken c) = besideStreams (drivesStopped c)
    ∧ (stopTaken c).records = (drivesStopped c).records ∧ (stopTaken c).stab.mode = (drivesStopped c).stab.mode
    ∧ (stopTaken c).stab.engaged = (drivesStopped c).stab.engaged := by
  cases h : c.capture.filling with
  | none =>
    rw [stopTaken_none h]
    generalize drivesStopped c = d
    obtain ⟨hblocks, hrecords, hmode, hengaged, -⟩ := stopStreams_facts d
    refine ⟨?_, hrecords, hmode, hengaged⟩
    unfold besideStreams
    rw [hblocks]
  | some n =>
    rw [stopTaken_filling (Option.isSome_of_eq_some h)]
    exact ⟨rfl, rfl, rfl, rfl⟩

theorem fields_of_besideStreams {c d : Chip} (h : besideStreams c = besideStreams d) : c.port = d.port ∧ c.tables = d.tables
    ∧ c.service = d.service ∧ c.search = d.search ∧ c.capture = d.capture ∧ c.exposure = d.exposure ∧ c.zoom = d.zoom
    ∧ c.focus = d.focus ∧ c.store = d.store ∧ c.slots = d.slots :=
  ⟨(congrArg Chip.port h :), (congrArg Chip.tables h :), (congrArg Chip.service h :), (congrArg Chip.search h :),
    (congrArg Chip.capture h :), (congrArg Chip.exposure h :), (congrArg Chip.zoom h :), (congrArg Chip.focus h :),
    (congrArg Chip.store h :), (congrArg Chip.slots h :)⟩

theorem fields_of_besideDrives {c d : Chip} (h : besideDrives c = besideDrives d) : c.port = d.port ∧ c.tables = d.tables
    ∧ c.service = d.service ∧ c.capture = d.capture ∧ c.pixel = d.pixel ∧ c.store = d.store ∧ c.slots = d.slots :=
  ⟨(congrArg Chip.port h :), (congrArg Chip.tables h :), (congrArg Chip.service h :), (congrArg Chip.capture h :),
    (congrArg Chip.pixel h :), (congrArg Chip.store h :), (congrArg Chip.slots h :)⟩

/-- With the FOCUS request ended, the entries stay as the requests' end left them. -/
theorem drivesStopped_records {c : Chip} (hlen : c.records.length = 9) :
    (drivesStopped c).records = (abandonRequests (stopBegun c)).records := by
  have hcapture : (captureStopped c).records = (abandonRequests (stopBegun c)).records := by
    rw [captureStopped_records, dmaEnded_records]
    exact stopLoad_records _
  have hended : EndedByStop (record c .focus) (record (captureStopped c) .focus) := by
    rw [record_of_records hcapture]
    exact record_abandonRequests (c := stopBegun c) hlen (by decide)
  obtain ⟨hearlier, hactive, -⟩ := hended
  obtain ⟨hport, -⟩ := captureStopped_rest c
  have hsearch := stopSearch_records (c := captureStopped c) (by rw [hport]) hearlier hactive
  obtain ⟨-, hzoom⟩ := stopZoom_rest (stopFocus (unitsStopped c))
  obtain ⟨-, -, -, -, hfocus⟩ := stopFocus_rest (unitsStopped c)
  have hunits : (unitsStopped c).records = (stopSearch (captureStopped c)).records := by
    unfold unitsStopped
    rw [stopExposure_eq, setExposure_records, stopStab_records]
  unfold drivesStopped
  rw [hzoom, hfocus, hunits, hsearch, hcapture]

/-- The requests at entry to STOPPING. -/
theorem stopTaken_requests {c : Chip} (hlen : c.records.length = 9) :
    (∀ q, q ≠ RecordId.cardOrder → EndedByStop (record c q) (record (stopTaken c) q))
    ∧ (c.card.run = none ∨ c.store.order = none →
      EndedByStop (record c .cardOrder) (record (stopTaken c) .cardOrder) ∧ (stopTaken c).store.order = none)
    ∧ (∀ r o, c.card.run = some r → r.kind = .cardOrder → c.store.order = some o → (record c .cardOrder).outcome = .active →
      record (stopTaken c) .cardOrder = record c .cardOrder ∧ (stopTaken c).store.order = some o) := by
  obtain ⟨hstreams, hrecords, -, -⟩ := besideStreams_stopTaken c
  have hrecord : ∀ q, record (stopTaken c) q = record (abandonRequests (stopBegun c)) q := fun q =>
    record_of_records (hrecords.trans (drivesStopped_records hlen)) q
  obtain ⟨-, -, -, -, -, -, -, -, hstore, -⟩ := fields_of_besideStreams hstreams
  obtain ⟨-, -, -, -, -, hstore', -⟩ := fields_of_besideDrives (besideDrives_drivesStopped c)
  obtain ⟨-, -, hstore'', -⟩ := captureStopped_rest c
  obtain ⟨horder, hended⟩ := abandonRequests_order (stopBegun c)
  have hbefore : blocks (abandonedBefore (stopBegun c)) = blocks (stopBegun c) := blocks_abandonedBefore _
  have hentry : record (abandonedBefore (stopBegun c)) .cardOrder = record c .cardOrder :=
    record_abandonedBefore_other (stopBegun c) (.inl rfl)
  have hlen' : (abandonedBefore (stopBegun c)).records.length = 9 :=
    (abandonedBefore_records_length (stopBegun c)).trans hlen
  have hcardBefore : (abandonedBefore (stopBegun c)).card = c.card := card_of_blocks hbefore
  have hstoreBefore : (abandonedBefore (stopBegun c)).store = c.store := store_of_blocks hbefore
  rw [hstore, hstore', hstore'', hended]
  refine ⟨fun q hq => ?_, fun hidle => ?_, fun r o hrun hkind ho hactive => ?_⟩
  · rw [hrecord]
    exact record_abandonRequests (c := stopBegun c) hlen hq
  · have hflight : orderInFlight (abandonedBefore (stopBegun c)) = false := by
      refine Bool.eq_false_iff.mpr fun h => ?_
      obtain ⟨r, hrun, -, hsome⟩ := (orderInFlight_iff _).mp h
      rw [hcardBefore] at hrun
      rw [hstoreBefore] at hsome
      rcases hidle with hnone | hnone
      · rw [hnone] at hrun
        exact absurd hrun (by simp)
      · rw [hnone] at hsome
        exact absurd hsome (by decide)
    obtain ⟨hended', hnone⟩ := abandonOrder_idle hflight hlen'
    rw [hrecord, horder, ← hentry]
    exact ⟨hended', hnone⟩
  · have hflight : orderInFlight (abandonedBefore (stopBegun c)) = true :=
      (orderInFlight_iff _).mpr ⟨r, by rw [hcardBefore]; exact hrun, hkind, by rw [hstoreBefore, ho]; rfl⟩
    have hkept := abandonOrder_inFlight hflight (by rw [hentry]; exact hactive)
    rw [hrecord, horder, hkept, hentry, hstoreBefore]
    exact ⟨rfl, ho⟩

/-- The units at entry to STOPPING. -/
theorem stopTaken_units (c : Chip) : (stopTaken c).port.startStep = .none ∧ (stopTaken c).tables.load = none
    ∧ (stopTaken c).service = none ∧ (stopTaken c).search.phase = .none
    ∧ (stopTaken c).capture.state = .idle ∧ (stopTaken c).capture.press = .none ∧ (stopTaken c).capture.filling = none
    ∧ (stopTaken c).exposure.hold = false ∧ (stopTaken c).exposure.s1Lock = false
    ∧ (stopTaken c).exposure.resplitDue = false ∧ (stopTaken c).exposure.writeDue = false
    ∧ (stopTaken c).stab.mode = .off ∧ (stopTaken c).stab.engaged = false := by
  obtain ⟨hstreams, -, hmode, hengaged⟩ := besideStreams_stopTaken c
  obtain ⟨hport, htables, hservice, hsearch, hcapture, hexposure, -⟩ := fields_of_besideStreams hstreams
  obtain ⟨hport', htables', hservice', hcapture', -⟩ := fields_of_besideDrives (besideDrives_drivesStopped c)
  obtain ⟨hport'', htables'', -, hservice'', hcapture'', -⟩ := captureStopped_rest c
  obtain ⟨-, hsearchD, hstabD, hexposureD⟩ := drivesStopped_units c
  obtain ⟨hoff, hfree, -, -⟩ := unitsStopped_stab c
  obtain ⟨hhold, hlock, hresplit, hwrite⟩ := stopExposure_exposure (stopStab (stopSearch (captureStopped c)))
  have hexposureU : (unitsStopped c).exposure = (stopExposure (stopStab (stopSearch (captureStopped c)))).exposure := rfl
  rw [hport, htables, hservice, hsearch, hcapture, hexposure, hmode, hengaged, hport', htables', hservice', hcapture', hport'',
    htables'', hservice'', hcapture'', hsearchD, hstabD, hexposureD, unitsStopped_search, hoff, hfree, hexposureU]
  exact ⟨rfl, rfl, rfl, rfl, rfl, rfl, rfl, hhold, hlock, hresplit, hwrite, rfl, rfl⟩

/-- The drives at entry to STOPPING: the zoom as `stopZoom` takes it, the focus as `stopFocus` takes it. -/
theorem stopTaken_drives (c : Chip) : (stopTaken c).zoom = (stopZoom (stopFocus (unitsStopped c))).zoom
    ∧ (stopFocus (unitsStopped c)).zoom = c.zoom ∧ (stopTaken c).focus = (stopFocus (unitsStopped c)).focus := by
  obtain ⟨hstreams, -⟩ := besideStreams_stopTaken c
  obtain ⟨-, -, -, -, -, -, hzoom, hfocus, -⟩ := fields_of_besideStreams hstreams
  obtain ⟨hfocusD, -⟩ := drivesStopped_units c
  obtain ⟨hzoomF, -⟩ := stopFocus_rest (unitsStopped c)
  obtain ⟨-, hzoomU, -⟩ := unitsStopped_rest c
  exact ⟨hzoom, hzoomF.trans hzoomU, hfocus.trans hfocusD⟩

/-- The focus at entry to STOPPING (R88). -/
theorem stopTaken_focus (c : Chip) : let park := max 0 (min ((cfg c).focus.park : Int) (fMax c))
    (c.focus.state = .idle → c.focus.train = .none → (stopTaken c).focus.target = park)
    ∧ (c.focus.state = .moving → c.focus.train = .counted → (stopTaken c).focus.target = park
      ∧ (c.focus.afterRamp = .fault → (stopTaken c).focus = { c.focus with target := park, hold := false }))
    ∧ (c.focus.state = .homing → c.focus.train = .continuous → c.focus.homing ≠ .goal →
      (stopTaken c).focus.state = .lost ∧ (stopTaken c).focus.train = .none) := by
  intro park
  obtain ⟨-, -, hfocus⟩ := stopTaken_drives c
  have hpark : parkTarget (unitsStopped c) = park := parkTarget_unitsStopped c
  obtain ⟨hunits, -⟩ := unitsStopped_rest c
  have hheld : c.focus.train ≠ .suspended → (unitsStopped c).focus = { c.focus with hold := false } := fun h =>
    hunits.trans (captureStopped_focus h)
  rw [hfocus]
  generalize unitsStopped c = u at *
  refine ⟨fun hstate htrain => ?_, fun hstate htrain => ?_, fun hstate htrain hhoming => ?_⟩
  · have hu := hheld (by rw [htrain]; decide)
    rw [← hpark]
    exact stopFocus_idle (by rw [hu]; exact hstate) (by rw [hu]; exact htrain) (by rw [hu])
  · have hu := hheld (by rw [htrain]; decide)
    rw [stopFocus_moving (by rw [hu]; exact hstate) (by rw [hu]; exact htrain), hpark]
    refine ⟨retargetTrain_target _ _, fun hafter => ?_⟩
    have hdropped : (dropHomingRamp u).focus = { c.focus with hold := false } := by
      have hkept : (dropHomingRamp u).focus
          = { u.focus with afterRamp := if u.focus.afterRamp = .fault then .fault else .none } := rfl
      rw [hkept, hu]
      dsimp only
      rw [if_pos hafter, ← hafter]
    rw [retargetTrain_towardFault (by rw [hdropped]; exact hafter), hdropped]
  · have hu := hheld (by rw [htrain]; decide)
    exact stopFocus_homing (by rw [hu]; exact hstate) (by rw [hu]; exact hhoming)

/-- The streams and the picture in FILLING at entry to STOPPING (R25, R37, R126). -/
theorem stopTaken_streams (c : Chip) :
    (c.capture.filling = none → (stopTaken c).pixel.stopping = .writing ∧ (stopTaken c).pixel.frame = none
      ∧ (stopTaken c).stab.stopping = (if c.stab.reading then .waitRead else .writing))
    ∧ ∀ n, c.capture.filling = some n → (stopTaken c).pixel.stopping = .waitDma ∧ (stopTaken c).pixel.dma = .abandoned
      ∧ (stopTaken c).stab.stopping = .waitDma
      ∧ (n < c.slots.length → (slot (stopTaken c) n).state = .free ∧ (slot (stopTaken c) n).result = .abandoned) := by
  obtain ⟨-, -, hstabD, -⟩ := drivesStopped_units c
  obtain ⟨-, -, hreading, hstopping⟩ := unitsStopped_stab c
  obtain ⟨-, -, -, -, hpixel, -, hslots⟩ := fields_of_besideDrives (besideDrives_drivesStopped c)
  obtain ⟨-, -, -, -, -, -, -, hpixel'⟩ := captureStopped_rest c
  refine ⟨fun hfilling => ?_, fun n hfilling => ?_⟩
  · obtain ⟨-, -, -, -, hstop, hwriting, hframe⟩ := stopStreams_facts (drivesStopped c)
    rw [stopTaken_none hfilling, hstop, hwriting, hframe, hstabD, hreading]
    exact ⟨rfl, rfl, rfl⟩
  · rw [stopTaken_filling (Option.isSome_of_eq_some hfilling), hpixel, hpixel', hstabD, hstopping, slot_of_slots hslots,
      dmaEnded_filling (Option.isSome_of_eq_some hfilling), abandonDma_pixel, abandonDma_stab]
    refine ⟨rfl, rfl, rfl, fun hn => ?_⟩
    rw [captureStopped_slot hfilling hn]
    exact ⟨rfl, rfl⟩

/-! ### Writes of the RUN field (R2) -/

theorem writeRun_halted {area : Word} {c : Chip} (hhalted : c.port.partState = .halted) (hread : c.port.startRead = false) :
    writeRun area true c = beginStart area (setPort (fun p => { p with run := true }) c) := by
  simp only [writeRun, hhalted, hread, Bool.false_eq_true, if_false, if_true]

theorem writeRun_cancels {area : Word} {c : Chip} (hhalted : c.port.partState = .halted) (hread : c.port.startRead = true) :
    writeRun area false c
      = clearFault (setPort (fun p => { p with startRead := false }) (setPort (fun p => { p with run := false }) c)) := by
  simp only [writeRun, hhalted, hread, Bool.false_eq_true, if_false, if_true]

theorem writeRun_stores {area : Word} {r : Bool} {c : Chip}
    (h : (c.port.partState = .halted ∧ r = c.port.startRead)
      ∨ ((c.port.partState = .starting ∨ c.port.partState = .running) ∧ r = true) ∨ c.port.partState = .stopping) :
    writeRun area r c = setPort (fun p => { p with run := r }) c := by
  rcases h with ⟨hhalted, rfl⟩ | ⟨hstarting | hrunning, rfl⟩ | hstopping
  · cases hread : c.port.startRead <;> simp [writeRun, hhalted, hread]
  · simp [writeRun, hstarting]
  · simp [writeRun, hrunning]
  · simp [writeRun, hstopping]

/-- The part as a stop begins, RUN reading 0. -/
def runCleared (c : Chip) : Chip := { c with port := { c.port with run := false } }

theorem exec_stop {s : State} (h : s.chip.port.partState = .starting ∨ s.chip.port.partState = .running) :
    exec (.runWrite false) s = .next (concluded (enterStopping (runCleared s.chip)) s) :=
  exec_of_commit (f := writeRun s.areaBase false) rfl (writeRun_stop s.areaBase s.chip h)

/-- Settles O15. -/
theorem runWrite : Obligations.RunWrite := by
  unfold Obligations.RunWrite
  refine fun s r => ⟨fun hhalted hread => ?_, fun hhalted hread => ?_, fun h => ?_, fun h => ?_, fun h hlen => ?_⟩
  · refine exec_of_commit (f := writeRun s.areaBase true) rfl ((writeRun_halted hhalted hread).trans ?_)
    unfold beginStart
    rw [clearFault_eq, showFault_setPort _ _ _ rfl]
    rfl
  · refine exec_of_commit (f := writeRun s.areaBase false) rfl ((writeRun_cancels hhalted hread).trans ?_)
    rw [clearFault_eq, showFault_setPort _ _ _ rfl, showFault_setPort _ _ _ rfl]
    rfl
  · exact exec_of_commit (f := writeRun s.areaBase r) rfl (writeRun_stores h)
  · have hview := (concluded_portView (enterStopping (runCleared s.chip)) s).trans
      (portView_enterStopping (runCleared s.chip))
    exact ⟨_, exec_stop h, (congrArg (·.1) hview :), (congrArg (·.2.1) hview :), (congrArg (·.2.2.1) hview :)⟩
  · have hexec := exec_stop h
    rw [enterStopping_eq] at hexec
    obtain ⟨hrequests, hidle, hflight⟩ := stopTaken_requests (c := runCleared s.chip) hlen
    obtain ⟨hstep, hload, hservice, hsearch, hstate, hpress, hfilling, hhold, hlock, hresplit, hwrite, hmode, hengaged⟩ :=
      stopTaken_units (runCleared s.chip)
    obtain ⟨hzoom, hzoomF, -⟩ := stopTaken_drives (runCleared s.chip)
    obtain ⟨hparks, hlost, hhoming, hmoving, hrests⟩ := stopZoom_zoom (stopFocus (unitsStopped (runCleared s.chip)))
    rw [hzoomF, ← hzoom] at hparks hlost hhoming hmoving hrests
    obtain ⟨hfocusIdle, hfocusMoving, hfocusHoming⟩ := stopTaken_focus (runCleared s.chip)
    obtain ⟨hnone, hsome⟩ := stopTaken_streams (runCleared s.chip)
    generalize stopTaken (runCleared s.chip) = d at *
    exact ⟨_, hexec, fun q hq hopen => (hrequests q hq).2.2 hopen,
      fun hrun hopen => ⟨((hidle hrun).1.2.2 hopen).1, ((hidle hrun).1.2.2 hopen).2.1, (hidle hrun).2⟩,
      hflight, hstep, hload, hservice, hsearch, hstate, hpress, hfilling, hhold, hlock, hresplit, hwrite, hmode, hengaged,
      hparks, hlost, hhoming, hmoving, hrests, hfocusIdle, hfocusMoving, hfocusHoming, hnone, hsome⟩

end Sys2Proof.Proofs.StopEntry

end
